-- ==== Sys2Proof/Word.lean ====
section
/-! DEFINITION. The byte of the command link and the small containers the records are kept in. -/

namespace Sys2Proof

/-- One byte of a frame, a response or a store row (R168). -/
abbrev Byte := BitVec 8

/-- Four like things, one for each direct alert line (R156) or microphone (R143). -/
structure Quad (α : Type) where
  a0 : α
  a1 : α
  a2 : α
  a3 : α
  deriving DecidableEq, Repr

/-- The entry of index `i`. -/
def Quad.get {α : Type} (q : Quad α) (i : Fin 4) : α :=
  match i with
  | 0 => q.a0
  | 1 => q.a1
  | 2 => q.a2
  | 3 => q.a3

/-- The four things with entry `i` replaced. -/
def Quad.set {α : Type} (q : Quad α) (i : Fin 4) (x : α) : Quad α :=
  match i with
  | 0 => { q with a0 := x }
  | 1 => { q with a1 := x }
  | 2 => { q with a2 := x }
  | 3 => { q with a3 := x }

/-- The four things, each changed by `f`. -/
def Quad.map {α β : Type} (q : Quad α) (f : α → β) : Quad β :=
  { a0 := f q.a0, a1 := f q.a1, a2 := f q.a2, a3 := f q.a3 }

/-- The four things in order. -/
def Quad.toList {α : Type} (q : Quad α) : List α := [q.a0, q.a1, q.a2, q.a3]

/-- Entry `i` of a fixed table, `d` outside it. -/
def tabGet {α : Type} {n : Nat} (v : Vector α n) (i : Nat) (d : α) : α :=
  if h : i < n then v[i] else d

/-- A fixed table with entry `i` replaced; outside the table nothing changes. -/
def tabSet {α : Type} {n : Nat} (v : Vector α n) (i : Nat) (x : α) : Vector α n :=
  if h : i < n then v.set i x else v

/-- A fixed table built entry by entry. -/
def tabOf {α : Type} (n : Nat) (f : Nat → α) : Vector α n :=
  Vector.ofFn (fun i => f i.val)

end Sys2Proof
end

