-- ==== Sys2Proof/Config.lean ====
section
/-! DEFINITION. The free values: what the specification leaves open while the part goes on. Each is a constant without a
body, so nothing can be proved of its value. -/

namespace Sys2Proof

/-- Which of the phone port's two notices is applied first at an entry into or exit from UP (R132: in either order):
true, the Call Processor's. The argument is the count of free values taken before. Log entry 4. -/
opaque Config.callProcessorFirst : Nat → Bool

/-- Byte `i` of the data an aborted row write leaves (R186: partly written). Log entry 7. -/
opaque Config.tornByte : Nat → Nat → Byte

/-- How the check byte an aborted row write leaves differs from the right one (R186: it does not match); a zero is taken
as one. Log entry 7. -/
opaque Config.tornCheck : Nat → Byte

/-- How many frames begin in a millisecond while the frame clock is at no telephone mode's rate (R122, R124). The
argument is the count of free values taken before. Log entry 40. -/
opaque Config.framesInMs : Nat → Nat

/-- The 48 kHz sample got from a telephone mode's samples (R121: converted, the method not stated): the mode's rate in
kHz, the 24-bit downlink samples received, latest first, and how many 48 kHz samples were formed before. Log entry 41. -/
opaque Config.toOutputRate : Nat → List Int → Nat → Int

/-- The sample at a telephone mode's rate got from 48 kHz samples (R121): the mode's rate in kHz, the uplink samples,
latest first, and how many of the mode's samples were formed before. Log entry 41. -/
opaque Config.toModeRate : Nat → List Int → Nat → Int

end Sys2Proof
end

