-- ==== Sys2Proof/Syntax.lean ====
section
/-! DEFINITION. The commands of the RVC-8, one constructor of `Instr` for each row of spec/opcode_table.json, and the
types of their operands. A request carries the client byte and the payload bytes of its frame (R168); its request code,
length byte and check byte follow from the constructor (Decode.lean). -/

namespace Sys2Proof

/-- The band plans the straps select (R62): BAND1 and BAND0 low low, low high, high low, high high. -/
inductive BandPlan where
  | a | b | c | d
  deriving DecidableEq, Repr

/-- The two tuners (R63). -/
inductive TunerId where
  | t1 | t2
  deriving DecidableEq, Repr

/-- The two headphone outputs (R110). -/
inductive HpOut where
  | hp1 | hp2
  deriving DecidableEq, Repr

/-- The four seats, in the order the microphone input carries them (R143). -/
inductive Seat where
  | driver | passenger | rearLeft | rearRight
  deriving DecidableEq, Repr

/-- What takes the part into reset (R174): RESET_N falls, or the supply is lost. -/
inductive ResetCause where
  | resetN | supplyLost
  deriving DecidableEq, Repr

/-- A complete item of the broadcast data service (4.4). -/
inductive DataItem where
  /-- A program code 1..65535 (R94). -/
  | programCode (code : BitVec 16)
  /-- Two characters and the first of their two positions: 1, 3, 5 or 7 (R95). -/
  | nameSegment (position : Nat) (first second : Byte)
  /-- The two traffic flags, decoded together (R96). -/
  | traffic (capable active : Bool)
  /-- A complete list of alternate frequencies (R96). -/
  | afList (frequencies : List Nat)
  deriving DecidableEq, Repr

/-- The commands: the requests of catalogue 9.6, the other transfers, the resets, and the events of the part. -/
inductive Instr where
  /-- R19: Host request that creates a route in the lowest free slot, claims a tuner if needed, enters its first state and re-runs precedence. -/
  | routeOpen (client : Byte) (payload : List Byte)
  /-- R20: Host request that changes a route's level target and ramp class and re-aims a sounding route. -/
  | routeLevel (client : Byte) (payload : List Byte)
  /-- R21: Host request that removes a PENDING or SUSPENDED route at once or sends a sounding route into CLOSING. -/
  | routeRetire (client : Byte) (payload : List Byte)
  /-- R22: Host request that retires every route of one owner in slot order, with one precedence re-run. -/
  | retireOwner (client : Byte) (payload : List Byte)
  /-- R23: Query returning all host-visible fields of one route. -/
  | routeGet (client : Byte) (payload : List Byte)
  /-- R24: Query returning the handles of all routes, or of one owner's routes, in slot order. -/
  | routeList (client : Byte) (payload : List Byte)
  /-- R58: Host request that sets or steps a zone's volume step, re-aims its routes and hands the CABIN change to the follow rule. -/
  | zoneVolume (client : Byte) (payload : List Byte)
  /-- R59: Host request that sets balance and fade of CABIN or FRONT and re-aims the channel weights. -/
  | zoneBalance (client : Byte) (payload : List Byte)
  /-- R60: Query returning a zone's settings, jack state, derate and last temperature reading. -/
  | zoneGet (client : Byte) (payload : List Byte)
  /-- R41: Host request that replaces the duck depth table and recomputes duck attenuations. -/
  | duckDepths (client : Byte) (payload : List Byte)
  /-- R47: Host request that stores an external temperature value for use at the next reading. -/
  | temperature (client : Byte) (payload : List Byte)
  /-- R48: Host request that replaces the thermal source, knee and slope from the next reading. -/
  | derateSet (client : Byte) (payload : List Byte)
  /-- R85: Host request that replaces diversity, attach mode, scan policy, scan interval and AF hysteresis, acting at once. -/
  | tunerPolicy (client : Byte) (payload : List Byte)
  /-- R69: Host request that ends the present traffic watch and attaches or queues a new one. -/
  | trafficWatch (client : Byte) (payload : List Byte)
  /-- R86: Host request that replaces the quality limits and the PROGRAM_QUALITY report condition. -/
  | qualityLimits (client : Byte) (payload : List Byte)
  /-- R87: Query returning one tuner's allocation record and the common tuner settings. -/
  | tunerGet (client : Byte) (payload : List Byte)
  /-- R103: Query listing up to sixteen station records at or above a frequency, optionally filtered by code. -/
  | stationList (client : Byte) (payload : List Byte)
  /-- R104: Query returning all fields of one station record. -/
  | stationGet (client : Byte) (payload : List Byte)
  /-- R105: Host request that sets or clears a station record's pinned flag. -/
  | stationPin (client : Byte) (payload : List Byte)
  /-- R106: Host request that removes a station record that is not in use. -/
  | stationForget (client : Byte) (payload : List Byte)
  /-- R107: Host request that inserts a station record or applies a code and pin to an existing one. -/
  | stationAdd (client : Byte) (payload : List Byte)
  /-- R108: Host request that replaces the station retire limit. -/
  | stationAging (client : Byte) (payload : List Byte)
  /-- R109: Host request that replaces the announcement follow set. -/
  | announceFollow (client : Byte) (payload : List Byte)
  /-- R114: Host request that sets a headphone zone's cap and lowers its volume step to it. -/
  | hpCap (client : Byte) (payload : List Byte)
  /-- R116: Host request that sets or clears a headphone zone's follow flag. -/
  | hpFollow (client : Byte) (payload : List Byte)
  /-- R118: Host request that sets or clears the rear lock. -/
  | rearLock (client : Byte) (payload : List Byte)
  /-- R134: Host request that replaces the stored set of phone modes for the next negotiation. -/
  | phoneAdvertise (client : Byte) (payload : List Byte)
  /-- R131: Host request that puts the phone link into HOLD_OFF for 400 ms. -/
  | phoneRestart (client : Byte) (payload : List Byte)
  /-- R135: Query returning the phone port's link state, mode, words, faults and timers. -/
  | phoneGet (client : Byte) (payload : List Byte)
  /-- R138: Host request that creates a call leg in RINGING or ACTIVE, holding any ACTIVE leg. -/
  | legOpen (client : Byte) (payload : List Byte)
  /-- R139: Host request that sets a leg ACTIVE or HELD, with holds, checks and canceller effects. -/
  | legState (client : Byte) (payload : List Byte)
  /-- R142: Host request that replaces a leg's speaking seats, starting or abandoning microphone checks. -/
  | legSeats (client : Byte) (payload : List Byte)
  /-- R150: Host request that sets a leg's microphone gain and uplink mute. -/
  | legUplink (client : Byte) (payload : List Byte)
  /-- R141: Host request that removes a leg and retires its CALL routes. -/
  | legClose (client : Byte) (payload : List Byte)
  /-- R152: Query returning one leg or the leg list with microphone and canceller states. -/
  | legGet (client : Byte) (payload : List Byte)
  /-- R151: Host request that replaces the echo target used at window ends. -/
  | echoTarget (client : Byte) (payload : List Byte)
  /-- R160: Host request that replaces the alert floor and the alert maximum duration in force. -/
  | alertLimits (client : Byte) (payload : List Byte)
  /-- R161: Query returning one direct alert line's map, state and route list. -/
  | directLineGet (client : Byte) (payload : List Byte)
  /-- R165: Host request that sets the watchdog period and arms, restarts or disarms the watchdog. -/
  | watchdog (client : Byte) (payload : List Byte)
  /-- R165: Host request that does nothing but count as a valid request and report supervision state. -/
  | keepalive (client : Byte) (payload : List Byte)
  /-- R164: Host request that returns the part from LIMP to RUN and re-runs precedence. -/
  | resume (client : Byte) (payload : List Byte)
  /-- R166: Host request that enters QUIET, removing routes, freeing tuners and forcing the link DOWN. -/
  | quietEnter (client : Byte) (payload : List Byte)
  /-- R167: Host request that leaves QUIET and resumes tuners, scan and phone port. -/
  | quietExit (client : Byte) (payload : List Byte)
  /-- R180: Host request that reports and clears pending event sources, the route change mask and the station change flag. -/
  | eventFetch (client : Byte) (payload : List Byte)
  /-- R181: Host request that sets the line and enable of one or all event sources. -/
  | eventRouting (client : Byte) (payload : List Byte)
  /-- R187: Request returning one store row with its check status and the write count. -/
  | storeRead (client : Byte) (payload : List Byte)
  /-- R185: Host request that starts an 8 ms write of one store row and counts it. -/
  | storeWrite (client : Byte) (payload : List Byte)
  /-- R176: Request returning identity, reset kind, supervision state, store status and buffer state. -/
  | partInfo (client : Byte) (payload : List Byte)
  /-- R175: Host request that answers OK and leaves a part reset pending. -/
  | partReset (client : Byte) (payload : List Byte)
  /-- R172: A frame passing its check whose request code is not in the catalogue is answered UNKNOWN_REQUEST. -/
  | unknownRequest (code : Byte) (client : Byte) (payload : List Byte)
  /-- R169: A request transfer whose frame fails the frame check is answered BAD_FRAME with no other effect. -/
  | badFrame (bytes : List Byte)
  /-- R171: A transfer with first byte 0x00 clocks out the response buffer and marks it READ if read in full. -/
  | readTransfer (clocked : Nat)
  /-- R175: 50 ms after READY rose for PART_RESET, the pending part reset takes effect. -/
  | partResetTimeout
  /-- R174: RESET_N falls or supply is lost, holding the part in reset and abandoning any transfer or write. -/
  | resetNAssert (cause : ResetCause)
  /-- R174: RESET_N rises with supply present, latching the band straps and beginning start-up. -/
  | resetNRelease (straps : BandPlan)
  /-- R174: Start-up completes: the store has loaded, blocks have taken starting values and the start-up response is placed. -/
  | startUpEnd
  /-- R162: An ARMED watchdog runs out, becomes UNARMED and the part enters LIMP. -/
  | watchdogExpiry
  /-- R51: At the end of each step time a running ramp moves an applied gain by 1 q and reports its end on reaching the target. -/
  | rampStep (slot : Nat)
  /-- R39: Every 2 ms each applied channel weight moves 1 q toward its target weight. -/
  | weightRampStep
  /-- R43: Every 100 ms the temperature is read, the computed value formed and the derate updated. -/
  | thermalReading (sensor : Int)
  /-- R159: An ALERT route reaching its maximum duration is cut into CLOSING, raises ALERT_CUT and may latch out its line. -/
  | alertCut (slot : Nat)
  /-- R154: A finite tone pattern plays out its last cycle and sends the pattern end notice for its route. -/
  | tonePatternEnd (slot : Nat)
  /-- R110: A headphone detect input changes level, starting or stopping its 50 ms debounce timer. -/
  | hpDetChange (out : HpOut) (level : Bool)
  /-- R110: A jack debounce timer runs out and the jack state changes. -/
  | hpDebounceExpiry (out : HpOut)
  /-- R156: A direct alert line pin changes level, starting or stopping its 20 ms debounce timer. -/
  | alertInChange (line : Fin 4) (level : Bool)
  /-- R156: A direct line debounce timer runs out and the line state changes. -/
  | lineDebounceExpiry (line : Fin 4)
  /-- R67: 5 ms after a claim the tuner settles, enters DWELL and notifies AVAILABLE to its routes. -/
  | acquisitionSettle (tuner : TunerId)
  /-- R71: Every 50 ms in DWELL a program tuner measures, refreshes its record, tests the quality report and counts its streak. -/
  | programMeasurement (tuner : TunerId) (field : Fin 121) (multipath : Fin 101)
  /-- R94: A front end decodes a complete data service item that is applied to a station record. -/
  | dataItemDecoded (tuner : TunerId) (item : DataItem)
  /-- R97: A FREE tuner begins a scan step and is handed and reserved a raster frequency. -/
  | scanStepBegin (tuner : TunerId)
  /-- R97: 60 ms into a scan step the measurement is taken and a dwell decided. -/
  | scanMeasurement (tuner : TunerId) (field : Fin 121) (multipath : Fin 101)
  /-- R97: A scan step ends at its measurement, its full decode or 400 ms of dwell and its results are applied. -/
  | scanStepComplete (tuner : TunerId)
  /-- R75: Under INTERLEAVED the scan interval timer runs out and the partner breaks off for one scan step. -/
  | scanIntervalExpiry
  /-- R81: 5 ms after being set to a candidate the checking tuner takes its AF_CHECK measurement. -/
  | afCheckMeasurement (tuner : TunerId) (field : Fin 121) (multipath : Fin 101)
  /-- R81: An AF check ends at a decoded code or 150 ms, hands its results on and moves to the next candidate or chooses one. -/
  | afCheckEnd (tuner : TunerId) (code : Option (BitVec 16))
  /-- R77: 5 ms into a switch or revert the tuner settles and AVAILABLE is notified. -/
  | retuneSettle (tuner : TunerId)
  /-- R82: After 15 ms a self jump returns to the program with its candidate measurement. -/
  | selfAfJumpEnd (tuner : TunerId) (field : Fin 121) (multipath : Fin 101)
  /-- R83: No code decoded within 150 ms of a self-search switch reverts the switch. -/
  | afConfirmTimeout (tuner : TunerId)
  /-- R123: After 10 ms of unbroken frame clock the detector becomes PRESENT and a DOWN link enters NEGOTIATING. -/
  | clockDetectPresent
  /-- R123: After 20 ms without a frame clock edge the detector becomes ABSENT and the link enters DOWN. -/
  | clockDetectAbsent
  /-- R124: At the end of each 4 ms span the frame rate class is judged and a change acts on the link. -/
  | rateSpanEnd (rate : Nat)
  /-- R122: A control word received in a frame's control slot is checked and acts on the negotiation. -/
  | partnerWord (word : BitVec 16)
  /-- R129: 300 ms without a valid partner word in NEGOTIATING or ACKNOWLEDGING triggers a rate detection. -/
  | silenceTimerExpiry
  /-- R131: The 400 ms hold-off ends and the link enters NEGOTIATING or DOWN by the clock detector. -/
  | holdOffExpiry
  /-- R143: After 100 ms a microphone check sets the health entry and includes or excludes the microphone. -/
  | micCheckEnd (seat : Seat) (power : Int)
  /-- R146: At the end of each 50 ms window a canceller judges ERLE and may enter or leave CONVERGED. -/
  | echoWindowEnd (seat : Seat) (downlink : Int) (micPower residualPower : Nat)
  /-- R186: After 8 ms a row write completes, the writer becomes IDLE and STORE_DONE is raised. -/
  | storeWriteEnd
  /-- R174: Supply reaches its working level while RESET_N is high, ending the hold in reset and beginning a power-on reset and start-up. -/
  | supplyApplication (straps : BandPlan)
  deriving DecidableEq, Repr

end Sys2Proof
end

