-- ==== Sys2Proof/Machine/State.lean ====
section
/-! DEFINITION. The state of the RVC-8: every record the specification gives the part, block by block (00_scope.md,
section 3), the queue of waiting commands, and the state after reset. -/

namespace Sys2Proof.Machine

/-! ## Names -/

/-- The five zones (R34). -/
inductive Zone where
  | cabin | front | driver | hp1 | hp2
  deriving DecidableEq, Repr

/-- The precedence domains (1.4). -/
inductive Domain where
  | cabinGroup | hp1 | hp2
  deriving DecidableEq, Repr

/-- The purpose of a route (R1). -/
inductive RouteClass where
  | alert | call | prompt | announcement | media
  deriving DecidableEq, Repr

/-- The step times of ramps (R51): 0.5 ms, 2 ms, 8 ms. -/
inductive RampClass where
  | fast | normal | slow
  deriving DecidableEq, Repr

/-- What a route plays (R3). A TUNER source is named by frequency or by program code. -/
inductive Source where
  | stream (n : Nat)
  | tone (pattern : Nat)
  | tunerFrequency (f : Nat)
  | tunerCode (c : Nat)
  | leg (id : Nat) (reuse : Byte)
  deriving DecidableEq, Repr

/-- The states of a route (1.2). -/
inductive RouteState where
  | pending | rising | playing | yielding | suspended | closing
  deriving DecidableEq, Repr

/-- A source condition (R5). -/
inductive Condition where
  | available | sourceAbsent | searching | retune | linkDown | legHeld
  deriving DecidableEq, Repr

/-- A pending cause (R1): a source condition other than AVAILABLE, or NO_LISTENER. -/
inductive Cause where
  | sourceAbsent | searching | retune | linkDown | legHeld | noListener
  deriving DecidableEq, Repr

/-- A gain: MUTE, or a number of q (6.1). -/
inductive Gain where
  | mute
  | q (value : Int)
  deriving DecidableEq, Repr

/-- A route handle: slot and reuse count (R2). -/
structure Handle where
  slot : Nat
  reuse : Byte
  deriving DecidableEq, Repr

/-- An element of a tone pattern (R154). -/
inductive Element where
  | segment1 | segment2 | segment3 | gap
  deriving DecidableEq, Repr

/-- A playback position (R154): cycle, element, milliseconds spent in the element. -/
structure PlayPosition where
  cycle : Nat
  element : Element
  time : Nat
  deriving DecidableEq, Repr

/-- A route record (R1), with the items kept for it by the Route Table (R5, R15), the Ramp Unit (R51, R52), the Tone
Generator (R154, R155) and the alert count (R159). -/
structure Route where
  slot : Nat
  reuse : Byte
  owner : Nat
  zone : Zone
  cls : RouteClass
  source : Source
  level : Int
  ramp : RampClass
  /-- Maximum duration in seconds; present for ALERT. -/
  maxDuration : Option Nat
  state : RouteState
  cause : Option Cause
  applied : Gain
  duck : Nat
  rank : Nat
  tuner : Option TunerId
  cut : Bool
  /-- The condition last notified, used by TUNER sources; the other kinds' conditions are computed (R5). -/
  condition : Condition
  fadeMark : Bool
  /-- The ramp target; absent in PENDING and SUSPENDED (R50). -/
  target : Option Gain
  step : RampClass
  running : Bool
  play : Option PlayPosition
  /-- Milliseconds since the opening, counted for ALERT (R159). -/
  age : Nat
  /-- The direct line that opened the route (R30, R31). -/
  line : Option (Fin 4)
  deriving DecidableEq, Repr

/-- The name of a route. -/
def Route.handle (r : Route) : Handle := { slot := r.slot, reuse := r.reuse }

/-- The default ramp class of each route class (R40). -/
structure ClassRamps where
  alert : RampClass
  call : RampClass
  prompt : RampClass
  announcement : RampClass
  media : RampClass
  deriving DecidableEq, Repr

/-! ## Zone Mixer -/

/-- A zone record (R34). A field the zone does not have stays 0 or clear. -/
structure ZoneRecord where
  volume : Nat
  balance : Int
  fade : Int
  cap : Nat
  follow : Bool
  deriving DecidableEq, Repr

/-- The duck depth table (R40), in q. -/
structure DuckDepths where
  alert : Nat
  call : Nat
  prompt : Nat
  deriving DecidableEq, Repr

/-- The side of a speaker channel (R36). -/
inductive Side where
  | left | right | centre
  deriving DecidableEq, Repr

/-- The row of a speaker channel (R36). -/
inductive Row where
  | front | rear | none
  deriving DecidableEq, Repr

/-- A subset of the cabin-group zones (R36, R156). -/
structure CabinSet where
  cabin : Bool
  front : Bool
  driver : Bool
  deriving DecidableEq, Repr

/-- A speaker map entry (R36). -/
structure Speaker where
  side : Side
  row : Row
  member : CabinSet
  deriving DecidableEq, Repr

/-- The Zone Mixer's records (chapter 2). Channel k stands at index k - 1; of a zone's twenty applied weights those of
channels the zone does not reach are never read (R36, R54). -/
structure Mixer where
  cabin : ZoneRecord
  front : ZoneRecord
  driver : ZoneRecord
  hp1 : ZoneRecord
  hp2 : ZoneRecord
  /-- The curve's entries e(0)..e(40), in half decibels of attenuation (R37). -/
  curve : Vector Nat 41
  depths : DuckDepths
  alertFloor : Int
  map : Vector Speaker 20
  wCabin : Vector Int 20
  wFront : Vector Int 20
  wDriver : Vector Int 20
  deriving DecidableEq, Repr

/-- Where a temperature reading comes from (R43). -/
inductive ThermalSource where
  | internal | external
  deriving DecidableEq, Repr

/-- The Thermal Derating Unit (2.6). -/
structure Thermal where
  source : ThermalSource
  external : Int
  reading : Int
  knee : Int
  slope : Nat
  computed : Nat
  derate : Nat
  recovery : Nat
  deriving DecidableEq, Repr

/-! ## Tuners -/

/-- The area of a measurement (R78). -/
inductive Area where
  | i | ii | iii
  deriving DecidableEq, Repr

/-- The source tag of a measurement (R78). -/
inductive Tag where
  | program | paired | afCheck | scan
  deriving DecidableEq, Repr

/-- A measurement (R78). -/
structure Measurement where
  field : Nat
  multipath : Nat
  quality : Nat
  area : Area
  tag : Tag
  deriving DecidableEq, Repr

/-- The role of a tuner (R63). -/
inductive Role where
  | free | program | partner
  deriving DecidableEq, Repr

/-- The activity of a tuner (3.5). -/
inductive Activity where
  | none | dwell | selfAfJump | retune | partnerHold | afCheckForMaster | scanStep
  deriving DecidableEq, Repr

/-- The state of alternate-frequency following (3.9). -/
inductive AfState where
  | idle | searching | confirming
  deriving DecidableEq, Repr

/-- What a retune is for (R77): a switch, to be confirmed after a self search (R83); a revert, with the code that was
decoded; a self jump to measure a candidate (R82). -/
inductive RetuneKind where
  | switch (dest : Nat) (confirm : Bool)
  | revert (dest : Nat) (decoded : Option Nat)
  | jump (candidate : Nat)
  deriving DecidableEq, Repr

/-- A retune in progress: its kind, and whether its tuning phase has begun (R77). -/
structure Retune where
  kind : RetuneKind
  tuning : Bool
  deriving DecidableEq, Repr

/-- An AF search taking its measurements: through the other tuner or by self jumps (R81, R82), the candidates not yet
measured, and those found so far with their qualities, in the order measured: of a partner search, those in area I or II
with the program's code, to be tested against the program's quality at the search's end (R81); of a self search, those
that qualified at their own jump (R82). -/
structure Search where
  partner : Bool
  candidates : List Nat
  found : List (Nat × Nat)
  deriving DecidableEq, Repr

/-- An AF check in progress on the checking tuner (R81). -/
structure Check where
  candidate : Nat
  measurement : Option Measurement
  deriving DecidableEq, Repr

/-- A scan step in progress (R97): its measurement once taken, whether it dwells, the items decoded, oldest first. -/
structure ScanStep where
  measurement : Option Measurement
  dwell : Bool
  items : List DataItem
  deriving DecidableEq, Repr

/-- A tuner allocation record (R63) and the front end's work in progress. -/
structure Tuner where
  role : Role
  frequency : Option Nat
  code : Option Nat
  users : Nat
  watch : Bool
  activity : Activity
  partnerOf : Option TunerId
  af : AfState
  streak : Nat
  measurement : Option Measurement
  /-- Area of the previous program measurement (R79). -/
  prevArea : Option Area
  retune : Option Retune
  search : Option Search
  check : Option Check
  scan : Option ScanStep
  /-- The frequency a switch being confirmed came from (R83). -/
  oldFrequency : Option Nat
  deriving DecidableEq, Repr

/-- The pairing link (3.6). -/
inductive PairLink where
  | none | requested | paired | broken
  deriving DecidableEq, Repr

/-- The scan policy (R73). -/
inductive ScanPolicy where
  | off | interleaved | full
  deriving DecidableEq, Repr

/-- The tuner policy (R85); the scan interval in seconds. -/
structure TunerPolicy where
  diversity : Bool
  /-- Attach mode CANCEL. -/
  cancel : Bool
  scan : ScanPolicy
  interval : Nat
  hysteresis : Nat
  deriving DecidableEq, Repr

/-- The report condition of PROGRAM_QUALITY (R79). -/
inductive Report where
  | never | enterI | enterII | enterIII | leaveI | leaveII | leaveIII | anyChange
  deriving DecidableEq, Repr

/-- An entry of the waiting list (R66). -/
structure Waiting where
  handle : Handle
  code : Nat
  deriving DecidableEq, Repr

/-- The Tuner Allocator (3.2). -/
structure Tuners where
  plan : BandPlan
  t1 : Tuner
  t2 : Tuner
  link : PairLink
  /-- The scan interval timer, in milliseconds (R75). -/
  interval : Option Nat
  watch : Option Nat
  waiting : List Waiting
  policy : TunerPolicy
  report : Report
  deriving DecidableEq, Repr

/-! ## Station Table -/

/-- A station record (R88). Its in-use flag is membership of its frequency in the in-use set (R91). -/
structure Station where
  frequency : Nat
  code : Option Nat
  name : List (Option Byte)
  capable : Bool
  active : Bool
  afList : List Nat
  /-- Quality, area and source tag of the last measurement applied. -/
  last : Option (Nat × Area × Tag)
  age : Nat
  refreshed : Bool
  pinned : Bool
  deriving DecidableEq, Repr

/-- A subset of the five zones (R109). -/
structure ZoneSet where
  cabin : Bool
  front : Bool
  driver : Bool
  hp1 : Bool
  hp2 : Bool
  deriving DecidableEq, Repr

/-- The Station Table (chapter 4). -/
structure Stations where
  records : List Station
  inUse : List Nat
  /-- In-use frequencies whose failed insertion has raised STATION_TABLE_FULL (R92). -/
  fullRaised : List Nat
  cursor : Nat
  returned : List Nat
  reserved1 : Option Nat
  reserved2 : Option Nat
  round : Byte
  retire : Nat
  bLow : Nat
  bHigh : Nat
  follow : ZoneSet
  watch : Option (Nat × TunerId)
  announcing : Bool
  announced : List Handle
  deriving DecidableEq, Repr

/-! ## Headphones, phone, calls, tones, lines -/

/-- A jack detector (R110): jack state and debounce timer in milliseconds. -/
structure Jack where
  present : Bool
  timer : Option Nat
  deriving DecidableEq, Repr

/-- The Headphone Outputs. -/
structure Jacks where
  j1 : Jack
  j2 : Jack
  safeStart : Nat
  deriving DecidableEq, Repr

/-- A telephone mode (chapter 6). -/
inductive Mode where
  | nb | wb | swb
  deriving DecidableEq, Repr

/-- A set of telephone modes. -/
structure ModeSet where
  nb : Bool
  wb : Bool
  swb : Bool
  deriving DecidableEq, Repr

/-- The link state (R120). -/
inductive LinkState where
  | down | negotiating | acknowledging | up | holdOff
  deriving DecidableEq, Repr

/-- The rate class (R124). -/
inductive RateClass where
  | none
  | mode (m : Mode)
  | other
  deriving DecidableEq, Repr

/-- The kind of a control word (R122). -/
inductive WordKind where
  | advertise | ack | idle
  deriving DecidableEq, Repr

/-- The content of a valid control word (R122). -/
structure ControlWord where
  kind : WordKind
  caps : ModeSet
  selected : Option Mode
  fault : Bool
  deriving DecidableEq, Repr

/-- The Phone Audio Port (R120). -/
structure Phone where
  link : LinkState
  mode : Option Mode
  negotiated : Bool
  selected : Option Mode
  stored : ModeSet
  inUse : ModeSet
  clock : Bool
  rate : RateClass
  upRate : Option Mode
  /-- The word of the run and its count (R126, R127). -/
  runWord : Option ControlWord
  runCount : Nat
  partner : Option ControlWord
  ownFault : Bool
  detectionFault : Bool
  partnerFault : Bool
  silence : Option Nat
  holdOff : Option Nat
  /-- The word count (R122, R125): how many frames after a frame that carries a word the next frame stands, 0..31; at 0
  it carries one itself. 0 in DOWN and HOLD_OFF. -/
  wordCount : Nat
  deriving DecidableEq, Repr

/-- The state of a call leg (R136). -/
inductive LegState where
  | ringing | active | held
  deriving DecidableEq, Repr

/-- A set of seats (R136). -/
structure SeatSet where
  driver : Bool
  passenger : Bool
  rearLeft : Bool
  rearRight : Bool
  deriving DecidableEq, Repr

/-- A call leg (R136). -/
structure Leg where
  id : Nat
  reuse : Byte
  owner : Nat
  state : LegState
  ring : Nat
  seats : SeatSet
  gain : Nat
  mute : Bool
  order : Nat
  deriving DecidableEq, Repr

/-- Microphone health (R143). -/
inductive Health where
  | unchecked | normal | opened | saturated
  deriving DecidableEq, Repr

/-- The state of an echo canceller (R145). -/
inductive Canceller where
  | idle | converging | converged | frozen
  deriving DecidableEq, Repr

/-- A microphone's health entry (R143) and its echo canceller (R145). `remembered` true stands for CONVERGED. -/
structure Mic where
  health : Health
  check : Option Nat
  canceller : Canceller
  sustain : Nat
  divergence : Nat
  /-- No window has adapted the filter since it was last cleared. -/
  filterEmpty : Bool
  lastMode : Option Mode
  remembered : Option Bool
  deriving DecidableEq, Repr

/-- The Call Processor (chapter 7). -/
structure Calls where
  legs : List Leg
  reuse : Vector Byte 3
  mics : Quad Mic
  echoTarget : Nat
  defaultGain : Nat
  deriving DecidableEq, Repr

/-- A segment of a tone pattern (R153): frequency in Hz, 0 silent; duration in ms; attenuation in q. -/
structure Segment where
  frequency : Nat
  duration : Nat
  level : Nat
  deriving DecidableEq, Repr

/-- A tone pattern (R153): three segments, the gap in ms, the repeat count (0 endless). -/
structure Pattern where
  s1 : Segment
  s2 : Segment
  s3 : Segment
  gap : Nat
  repeats : Nat
  deriving DecidableEq, Repr

/-- The state of a direct alert line (R156). -/
inductive LineState where
  | released | asserted | latchedOut
  deriving DecidableEq, Repr

/-- The record of a direct alert line (R156). -/
structure Line where
  enabled : Bool
  activeLow : Bool
  pattern : Nat
  zones : CabinSet
  level : Int
  quiet : Bool
  state : LineState
  timer : Option Nat
  routes : List Handle
  deriving DecidableEq, Repr

/-! ## Supervision, events, store, port -/

/-- The supervision state (8.5). -/
inductive SupState where
  | run | limp | quiet
  deriving DecidableEq, Repr

/-- The watchdog period (R165). -/
inductive Period where
  | off | ms250 | ms500 | ms1000 | ms2000
  deriving DecidableEq, Repr

/-- The Supervision Unit; the watchdog is ARMED exactly while `left` holds the milliseconds left. -/
structure Supervision where
  state : SupState
  period : Period
  left : Option Nat
  limpVolume : Nat
  deriving DecidableEq, Repr

/-- The Event Unit (R177, R179). Source k is bit k; slot s is bit s - 1; a set `lineB` bit routes the source to ATN_B. -/
structure Events where
  flags : BitVec 18
  mask : BitVec 24
  station : Bool
  lineB : BitVec 18
  enable : BitVec 18
  deriving DecidableEq, Repr

/-- A row of the Settings Store: fifteen data bytes and a check byte (R182). -/
structure StoreRow where
  data : Vector Byte 15
  check : Byte
  deriving DecidableEq, Repr

/-- The writer while WRITING (R182, R185): the row, its new data, the milliseconds left. -/
structure Writing where
  row : Nat
  data : Vector Byte 15
  left : Nat
  deriving DecidableEq, Repr

/-- The Settings Store (R182). -/
structure Store where
  rows : Vector StoreRow 31
  writeCount : Nat
  defect : BitVec 31
  writer : Option Writing
  deriving DecidableEq, Repr

/-- The kind of a reset (R174). -/
inductive ResetKind where
  | powerOn | part
  deriving DecidableEq, Repr

/-- The phase of the part (R174): held in reset, in start-up, running. -/
inductive Phase where
  | held | startUp | running
  deriving DecidableEq, Repr

/-- The response buffer (R170) with the bytes of the response it holds. -/
inductive Buffer where
  | empty
  | unread (bytes : List Byte)
  | read (bytes : List Byte)
  deriving DecidableEq, Repr

/-- The Command Port (chapter 9). -/
structure Port where
  phase : Phase
  requestBuffer : List Byte
  buffer : Buffer
  rearLock : Bool
  /-- The pending part reset and the milliseconds left to it (R175). -/
  resetPending : Option Nat
  resetKind : ResetKind
  /-- The bytes SDO carried in the last transfer (R168, R171). -/
  sdo : List Byte
  deriving DecidableEq, Repr

/-- The levels at the input pins the part samples. -/
structure Pins where
  resetN : Bool
  supply : Bool
  hpDet1 : Bool
  hpDet2 : Bool
  alertIn : Quad Bool
  deriving DecidableEq, Repr

/-- The state of the part. -/
structure State where
  /-- The commands that wait, first in first out (the model's own field). -/
  pending : List Instr
  /-- How many free values have been taken (the model's own field). -/
  freeCount : Nat
  pins : Pins
  port : Port
  routes : List Route
  /-- The reuse count of slot k at index k - 1 (R2). -/
  reuse : Vector Byte 24
  defaultRamp : ClassRamps
  /-- The alert maximum duration in force, in seconds (R160). -/
  alertMax : Nat
  mixer : Mixer
  thermal : Thermal
  tuners : Tuners
  stations : Stations
  jacks : Jacks
  phone : Phone
  calls : Calls
  tones : Vector Pattern 16
  lines : Quad Line
  sup : Supervision
  events : Events
  store : Store
  deriving DecidableEq, Repr

/-- Why the part could stop with a fault. No command of the RVC-8 stops the part (every error is a result code, R173),
so no meaning raises one; the type has the one constructor the interface needs. Safe. -/
inductive Fault where
  /-- Raised by nothing. -/
  | stopped
  deriving DecidableEq, Repr

/-- Why a command has no outcome. -/
inductive Refusal where
  /-- An instruction that has no meaning yet; raised by `exec`'s refused arms only. Safe: nothing is claimed of it. -/
  | notModelled (mnemonic : String)
  /-- The operands spell another row of the table: UNKNOWN_REQUEST with a code of the catalogue (R172), BAD_FRAME with
  bytes that pass the frame check or begin a read transfer (R168, R169). Raised by those two meanings. Safe: no sender
  can make such a command. -/
  | anotherCommand
  deriving DecidableEq, Repr

/-! ## The state after reset -/

/-- A tuner that is FREE and does nothing (R64). -/
def Tuner.free : Tuner :=
  { role := .free, frequency := none, code := none, users := 0, watch := false, activity := .none, partnerOf := none,
    af := .idle, streak := 0, measurement := none, prevArea := none, retune := none, search := none, check := none,
    scan := none, oldFrequency := none }

/-- A microphone before any check (R137). -/
def Mic.initial : Mic :=
  { health := .unchecked, check := none, canceller := .idle, sustain := 0, divergence := 0, filterEmpty := true,
    lastMode := none, remembered := none }

/-- A store row written out: its data bytes (0 after the last one given) and its check byte. -/
def StoreRow.ofNats (data : List Nat) (check : Nat) : StoreRow :=
  { data := tabOf 15 (fun i => BitVec.ofNat 8 (data.getD i 0)), check := BitVec.ofNat 8 check }

/-- The rows as a part leaves manufacture: the built-in values of every field with a valid check byte (R182). Bytes that
no field names, and the unused e(0), are 0 (DESIGN CHOICE, log entry 5). -/
def manufacturedRows : Vector StoreRow 31 :=
  #v[
    .ofNats [3, 20, 15, 32, 32, 255, 136, 30] 147,
    .ofNats [40, 24, 48, 1, 2, 2, 2, 3] 83,
    .ofNats [0, 95, 5] 71,
    .ofNats [1, 0, 1, 4, 20, 40, 3, 6] 194,
    .ofNats [7, 18, 24] 230,
    .ofNats [1, 1, 0, 1, 0, 0, 1, 1, 1, 1, 0, 0] 1,
    .ofNats [1, 1, 2, 1, 0, 0, 1, 1, 3, 1, 0, 0] 151,
    .ofNats [0, 88, 12, 0, 0, 0, 4, 0, 0, 66, 12, 8, 72, 0] 236,
    .ofNats [0, 88, 12, 0, 0, 0, 4, 0, 0, 66, 12, 8, 72, 0] 236,
    .ofNats [0, 88, 12, 0, 0, 0, 4, 0, 0, 66, 12, 8, 72, 0] 236,
    .ofNats [0, 88, 12, 0, 0, 0, 4, 0, 0, 66, 12, 8, 72, 0] 236,
    .ofNats [0, 88, 12, 0, 0, 0, 4, 0, 0, 66, 12, 8, 72, 0] 236,
    .ofNats [0, 88, 12, 0, 0, 0, 4, 0, 0, 66, 12, 8, 72, 0] 236,
    .ofNats [0, 88, 12, 0, 0, 0, 4, 0, 0, 66, 12, 8, 72, 0] 236,
    .ofNats [0, 88, 12, 0, 0, 0, 4, 0, 0, 66, 12, 8, 72, 0] 236,
    .ofNats [0, 88, 12, 0, 0, 0, 4, 0, 0, 66, 12, 8, 72, 0] 236,
    .ofNats [0, 88, 12, 0, 0, 0, 4, 0, 0, 66, 12, 8, 72, 0] 236,
    .ofNats [0, 88, 12, 0, 0, 0, 4, 0, 0, 66, 12, 8, 72, 0] 236,
    .ofNats [0, 88, 12, 0, 0, 0, 4, 0, 0, 66, 12, 8, 72, 0] 236,
    .ofNats [0, 88, 12, 0, 0, 0, 4, 0, 0, 66, 12, 8, 72, 0] 236,
    .ofNats [0, 88, 12, 0, 0, 0, 4, 0, 0, 66, 12, 8, 72, 0] 236,
    .ofNats [0, 88, 12, 0, 0, 0, 4, 0, 0, 66, 12, 8, 72, 0] 236,
    .ofNats [0, 88, 12, 0, 0, 0, 4, 0, 0, 66, 12, 8, 72, 0] 236,
    .ofNats [0, 155, 150, 145, 140, 135, 130, 125, 120, 115, 110, 105, 100, 95, 90] 99,
    .ofNats [85, 80, 75, 70, 65, 60, 57, 54, 51, 48, 45, 42, 39, 36, 33] 53,
    .ofNats [30, 27, 24, 21, 18, 15, 12, 9, 6, 3, 0] 61,
    .ofNats [48, 49, 48, 49, 48, 49, 50] 99,
    .ofNats [20, 21, 20, 21, 20, 21, 26] 141,
    .ofNats [112, 113, 48, 49, 18, 22] 158,
    .ofNats [15, 15, 15, 15, 15, 0, 0, 0] 39,
    .ofNats [0, 0] 144]

/-- The built-in speaker map (R36). -/
def builtInMap : Vector Speaker 20 :=
  #v[
    ⟨.left, .front, ⟨true, true, false⟩⟩,
    ⟨.right, .front, ⟨true, true, false⟩⟩,
    ⟨.left, .front, ⟨true, true, false⟩⟩,
    ⟨.right, .front, ⟨true, true, false⟩⟩,
    ⟨.left, .front, ⟨true, true, false⟩⟩,
    ⟨.right, .front, ⟨true, true, false⟩⟩,
    ⟨.centre, .front, ⟨true, true, false⟩⟩,
    ⟨.left, .rear, ⟨true, false, false⟩⟩,
    ⟨.right, .rear, ⟨true, false, false⟩⟩,
    ⟨.left, .rear, ⟨true, false, false⟩⟩,
    ⟨.right, .rear, ⟨true, false, false⟩⟩,
    ⟨.left, .rear, ⟨true, false, false⟩⟩,
    ⟨.right, .rear, ⟨true, false, false⟩⟩,
    ⟨.centre, .none, ⟨true, false, false⟩⟩,
    ⟨.left, .front, ⟨true, true, true⟩⟩,
    ⟨.right, .front, ⟨true, true, true⟩⟩,
    ⟨.left, .front, ⟨true, true, false⟩⟩,
    ⟨.right, .front, ⟨true, true, false⟩⟩,
    ⟨.centre, .front, ⟨true, false, false⟩⟩,
    ⟨.centre, .rear, ⟨true, false, false⟩⟩]

/-- The built-in volume curve in store units (R37): e(V) = 3·(40 - V) from 21 up, 60 + 5·(20 - V) below. -/
def builtInCurve : Vector Nat 41 :=
  tabOf 41 (fun v => if v = 0 then 0 else if 21 ≤ v then 3 * (40 - v) else 60 + 5 * (20 - v))

/-- The built-in tone pattern (R153). -/
def builtInPattern : Pattern :=
  { s1 := ⟨880, 120, 0⟩, s2 := ⟨0, 40, 0⟩, s3 := ⟨660, 120, 8⟩, gap := 720, repeats := 0 }

/-- The built-in map of direct line `n`, released (R156). -/
def builtInLine (n : Nat) : Line :=
  { enabled := true, activeLow := true, pattern := n, zones := ⟨true, false, false⟩, level := 0, quiet := false,
    state := .released, timer := none, routes := [] }

/-- The built-in routing (R178): PHONE_LINK, ECHO_STATE and LEG_CHANGE (bits 9 to 11) on ATN_B, all enabled. -/
def builtInLineB : BitVec 18 := 0x00E00#18

/-- The state after a power-on reset of a part as manufactured, at the end of start-up: every record at the value its
chapter states, the start-up response UNREAD. The levels at the input pins are the model's choice (log entry 2). -/
def State.reset : State :=
  { pending := []
    freeCount := 0
    pins := { resetN := true, supply := true, hpDet1 := false, hpDet2 := false, alertIn := ⟨true, true, true, true⟩ }
    port :=
      { phase := .running, requestBuffer := [], buffer := .unread [0#8, 0#8, 3#8, 0#8, 0#8, 0#8, 149#8],
        rearLock := false, resetPending := none, resetKind := .powerOn, sdo := [] }
    routes := []
    reuse := Vector.replicate 24 0#8
    defaultRamp := { alert := .fast, call := .normal, prompt := .normal, announcement := .normal, media := .slow }
    alertMax := 30
    mixer :=
      { cabin := { volume := 15, balance := 0, fade := 0, cap := 0, follow := false }
        front := { volume := 15, balance := 0, fade := 0, cap := 0, follow := false }
        driver := { volume := 15, balance := 0, fade := 0, cap := 0, follow := false }
        hp1 := { volume := 15, balance := 0, fade := 0, cap := 32, follow := false }
        hp2 := { volume := 15, balance := 0, fade := 0, cap := 32, follow := false }
        curve := builtInCurve
        depths := { alert := 40, call := 24, prompt := 48 }
        alertFloor := -120
        map := builtInMap
        wCabin := Vector.replicate 20 0
        wFront := Vector.replicate 20 0
        wDriver := Vector.replicate 20 0 }
    thermal :=
      { source := .internal, external := 25, reading := 25, knee := 95, slope := 5, computed := 0, derate := 0,
        recovery := 0 }
    tuners :=
      { plan := .a, t1 := .free, t2 := .free, link := .none, interval := none, watch := none, waiting := []
        policy := { diversity := true, cancel := false, scan := .interleaved, interval := 4, hysteresis := 6 }
        report := .never }
    stations :=
      { records := [], inUse := [], fullRaised := [], cursor := 8750, returned := [], reserved1 := none,
        reserved2 := none, round := 0, retire := 3, bLow := 20, bHigh := 40,
        follow := ⟨false, false, false, false, false⟩, watch := none, announcing := false, announced := [] }
    jacks := { j1 := { present := false, timer := none }, j2 := { present := false, timer := none }, safeStart := 15 }
    phone :=
      { link := .down, mode := none, negotiated := false, selected := none, stored := ⟨true, true, true⟩,
        inUse := ⟨true, true, true⟩, clock := false, rate := .none, upRate := none, runWord := none, runCount := 0,
        partner := none, ownFault := false, detectionFault := false, partnerFault := false, silence := none,
        holdOff := none, wordCount := 0 }
    calls :=
      { legs := [], reuse := Vector.replicate 3 0#8, mics := ⟨.initial, .initial, .initial, .initial⟩, echoTarget := 18,
        defaultGain := 24 }
    tones := Vector.replicate 16 builtInPattern
    lines := ⟨builtInLine 0, builtInLine 1, builtInLine 2, builtInLine 3⟩
    sup := { state := .run, period := .ms1000, left := none, limpVolume := 20 }
    events := { flags := 0, mask := 0, station := false, lineB := builtInLineB, enable := 0x3FFFF#18 }
    store := { rows := manufacturedRows, writeCount := 0, defect := 0, writer := none } }

end Sys2Proof.Machine
end

