-- ==== Sys2Proof/Machine/Operands.lean ====
section
/-! DEFINITION. Operands and replies: the fields of payloads (R168: most significant byte first, signed fields two's
complement), the codes of 9.3 and of the requests, the check byte (R169), and the response frame (R173). -/

namespace Sys2Proof.Machine

/-! ## Reading payload fields -/

/-- Byte `i` of a payload as a number, 0 past its end. -/
def u8At (p : List Byte) (i : Nat) : Nat := (p.getD i 0).toNat

/-- The two-byte field at byte `i` (R168). -/
def u16At (p : List Byte) (i : Nat) : Nat := 256 * u8At p i + u8At p (i + 1)

/-- Two's complement of `bits` bits read from a number below 2^bits. -/
def signed (bits n : Nat) : Int := if n < 2 ^ (bits - 1) then (n : Int) else (n : Int) - 2 ^ bits

/-- The signed byte at byte `i`. -/
def i8At (p : List Byte) (i : Nat) : Int := signed 8 (u8At p i)

/-- The signed two-byte field at byte `i`. -/
def i16At (p : List Byte) (i : Nat) : Int := signed 16 (u16At p i)

/-- The handle or leg identifier at byte `i` (R168). -/
def handleAt (p : List Byte) (i : Nat) : Handle := { slot := u8At p i, reuse := p.getD (i + 1) 0 }

/-- A value fitted to a range. -/
def fit (low high x : Int) : Int := if x < low then low else if high < x then high else x

/-- A number fitted to a range. -/
def fitNat (low high x : Nat) : Nat := if x < low then low else if high < x then high else x

/-! ## Writing reply fields -/

/-- One byte. -/
def u8 (n : Nat) : List Byte := [BitVec.ofNat 8 n]

/-- Two bytes, most significant first. -/
def u16 (n : Nat) : List Byte := [BitVec.ofNat 8 (n / 256), BitVec.ofNat 8 n]

/-- Three bytes, most significant first. -/
def u24 (n : Nat) : List Byte := [BitVec.ofNat 8 (n / 65536), BitVec.ofNat 8 (n / 256), BitVec.ofNat 8 n]

/-- Four bytes, most significant first. -/
def u32 (n : Nat) : List Byte := u16 (n / 65536) ++ u16 n

/-- A signed byte. -/
def i8 (x : Int) : List Byte := [BitVec.ofInt 8 x]

/-- A signed two-byte field. -/
def i16 (x : Int) : List Byte := u16 (BitVec.ofInt 16 x).toNat

/-- A flag (R173). -/
def flag (b : Bool) : List Byte := if b then [1] else [0]

/-- A handle or leg identifier (R168). -/
def handleBytes (h : Handle) : List Byte := u8 h.slot ++ [h.reuse]

/-- An absent value is 0 in all its bytes (R173). -/
def orZero (x : Option Nat) : Nat := x.getD 0

/-! ## Codes -/

/-- Zone codes (R18). -/
def zoneOf (n : Nat) : Option Zone :=
  match n with
  | 0 => some .cabin
  | 1 => some .front
  | 2 => some .driver
  | 3 => some .hp1
  | 4 => some .hp2
  | _ => none

/-- The code of a zone (R18). -/
def Zone.code (z : Zone) : Nat :=
  match z with
  | .cabin => 0
  | .front => 1
  | .driver => 2
  | .hp1 => 3
  | .hp2 => 4

/-- Class codes (R18). -/
def classOf (n : Nat) : Option RouteClass :=
  match n with
  | 0 => some .alert
  | 1 => some .call
  | 2 => some .prompt
  | 3 => some .announcement
  | 4 => some .media
  | _ => none

/-- The code of a class (R18). -/
def RouteClass.code (c : RouteClass) : Nat :=
  match c with
  | .alert => 0
  | .call => 1
  | .prompt => 2
  | .announcement => 3
  | .media => 4

/-- Ramp class codes 1 to 3 (R18, row 1 of 11.3). -/
def rampOf (n : Nat) : Option RampClass :=
  match n with
  | 1 => some .fast
  | 2 => some .normal
  | 3 => some .slow
  | _ => none

/-- The code of a ramp class (R18). -/
def RampClass.code (r : RampClass) : Nat :=
  match r with
  | .fast => 1
  | .normal => 2
  | .slow => 3

/-- The code of a route state (R23). -/
def RouteState.code (s : RouteState) : Nat :=
  match s with
  | .pending => 0
  | .rising => 1
  | .playing => 2
  | .yielding => 3
  | .suspended => 4
  | .closing => 5

/-- The code of a pending cause, 0 where absent (R23). -/
def causeCode (c : Option Cause) : Nat :=
  match c with
  | none => 0
  | some .sourceAbsent => 1
  | some .searching => 2
  | some .retune => 3
  | some .linkDown => 4
  | some .legHeld => 5
  | some .noListener => 6

/-- A gain as reported: -32768 stands for MUTE (R23). -/
def Gain.report (g : Gain) : Int :=
  match g with
  | .mute => -32768
  | .q v => v

/-- The code of a tuner, 0 for none (R23, R87). -/
def tunerCode (t : Option TunerId) : Nat :=
  match t with
  | none => 0
  | some .t1 => 1
  | some .t2 => 2

/-- The code of the thermal source (R48). -/
def ThermalSource.code (t : ThermalSource) : Nat :=
  match t with
  | .internal => 0
  | .external => 1

/-- The code of a role (R87). -/
def Role.code (r : Role) : Nat :=
  match r with
  | .free => 0
  | .program => 1
  | .partner => 2

/-- The code of an activity (R87). -/
def Activity.code (a : Activity) : Nat :=
  match a with
  | .none => 0
  | .dwell => 1
  | .selfAfJump => 2
  | .retune => 3
  | .partnerHold => 4
  | .afCheckForMaster => 5
  | .scanStep => 6

/-- The code of an AF search state (R87). -/
def AfState.code (a : AfState) : Nat :=
  match a with
  | .idle => 0
  | .searching => 1
  | .confirming => 2

/-- The code of an area (R87, R103). -/
def Area.code (a : Area) : Nat :=
  match a with
  | .i => 1
  | .ii => 2
  | .iii => 3

/-- The code of a source tag in a station record (R104). -/
def Tag.code (t : Tag) : Nat :=
  match t with
  | .program => 1
  | .paired => 2
  | .afCheck => 3
  | .scan => 4

/-- The code of a source tag in a tuner's last measurement (R87). -/
def Tag.tunerCode (t : Tag) : Nat :=
  match t with
  | .paired => 1
  | _ => 0

/-- The code of a band plan (R87). -/
def bandCode (b : BandPlan) : Nat :=
  match b with
  | .a => 0
  | .b => 1
  | .c => 2
  | .d => 3

/-- The code of the pairing link (R87). -/
def PairLink.code (l : PairLink) : Nat :=
  match l with
  | .none => 0
  | .requested => 1
  | .paired => 2
  | .broken => 3

/-- Scan policy codes (R85). -/
def scanPolicyOf (n : Nat) : Option ScanPolicy :=
  match n with
  | 0 => some .off
  | 1 => some .interleaved
  | 2 => some .full
  | _ => none

/-- The code of a scan policy (R85). -/
def ScanPolicy.code (p : ScanPolicy) : Nat :=
  match p with
  | .off => 0
  | .interleaved => 1
  | .full => 2

/-- Report condition codes (R86). -/
def reportOf (n : Nat) : Option Report :=
  match n with
  | 0 => some .never
  | 1 => some .enterI
  | 2 => some .enterII
  | 3 => some .enterIII
  | 4 => some .leaveI
  | 5 => some .leaveII
  | 6 => some .leaveIII
  | 7 => some .anyChange
  | _ => none

/-- The code of a report condition (R86). -/
def Report.code (r : Report) : Nat :=
  match r with
  | .never => 0
  | .enterI => 1
  | .enterII => 2
  | .enterIII => 3
  | .leaveI => 4
  | .leaveII => 5
  | .leaveIII => 6
  | .anyChange => 7

/-- The bits of a number as a set of flags. -/
def bitOf (n k : Nat) : Bool := n / 2 ^ k % 2 = 1

/-- A flag's share of a sum. -/
def weigh (b : Bool) (w : Nat) : Nat := if b then w else 0

/-- A set of zones from its sum (R109). -/
def zoneSetOf (n : Nat) : ZoneSet := ⟨bitOf n 0, bitOf n 1, bitOf n 2, bitOf n 3, bitOf n 4⟩

/-- The sum of a set of zones (R109). -/
def ZoneSet.sum (z : ZoneSet) : Nat :=
  weigh z.cabin 1 + weigh z.front 2 + weigh z.driver 4 + weigh z.hp1 8 + weigh z.hp2 16

/-- A set of cabin-group zones from its sum (11.3). Every higher bit is dropped: bits 3 and 4, HP1 and HP2, as R156
states, and bits 5 to 7 too (DESIGN CHOICE, log entry 39: 11.3, R156 and R184 say nothing of them). -/
def cabinSetOf (n : Nat) : CabinSet := ⟨bitOf n 0, bitOf n 1, bitOf n 2⟩

/-- The sum of a set of cabin-group zones (R161). -/
def CabinSet.sum (z : CabinSet) : Nat := weigh z.cabin 1 + weigh z.front 2 + weigh z.driver 4

/-- A set of seats from its sum (R138). -/
def seatSetOf (n : Nat) : SeatSet := ⟨bitOf n 0, bitOf n 1, bitOf n 2, bitOf n 3⟩

/-- The sum of a set of seats (R138). -/
def SeatSet.sum (s : SeatSet) : Nat :=
  weigh s.driver 1 + weigh s.passenger 2 + weigh s.rearLeft 4 + weigh s.rearRight 8

/-- A set of modes from its sum (R134). -/
def modeSetOf (n : Nat) : ModeSet := ⟨bitOf n 0, bitOf n 1, bitOf n 2⟩

/-- The sum of a set of modes (R134). -/
def ModeSet.sum (m : ModeSet) : Nat := weigh m.nb 1 + weigh m.wb 2 + weigh m.swb 4

/-- Membership of a mode. -/
def ModeSet.has (s : ModeSet) (m : Mode) : Bool :=
  match m with
  | .nb => s.nb
  | .wb => s.wb
  | .swb => s.swb

/-- The code of a mode, 0 where absent (R135, R122). -/
def modeCode (m : Option Mode) : Nat :=
  match m with
  | none => 0
  | some .nb => 1
  | some .wb => 2
  | some .swb => 3

/-- Mode codes 1 to 3 (R122). -/
def modeOf (n : Nat) : Option Mode :=
  match n with
  | 1 => some .nb
  | 2 => some .wb
  | 3 => some .swb
  | _ => none

/-- The code of a link state (R135). -/
def LinkState.code (l : LinkState) : Nat :=
  match l with
  | .down => 0
  | .negotiating => 1
  | .acknowledging => 2
  | .up => 3
  | .holdOff => 4

/-- The code of a rate class (R135). -/
def RateClass.code (r : RateClass) : Nat :=
  match r with
  | .none => 0
  | .mode .nb => 1
  | .mode .wb => 2
  | .mode .swb => 3
  | .other => 4

/-- The code of a control word's kind (R122). -/
def WordKind.code (k : WordKind) : Nat :=
  match k with
  | .advertise => 1
  | .ack => 2
  | .idle => 3

/-- The code of a leg state (R152). -/
def LegState.code (l : LegState) : Nat :=
  match l with
  | .ringing => 0
  | .active => 1
  | .held => 2

/-- The code of a microphone's health (R152). -/
def Health.code (h : Health) : Nat :=
  match h with
  | .unchecked => 0
  | .normal => 1
  | .opened => 2
  | .saturated => 3

/-- The code of a canceller's state (R152). -/
def Canceller.code (c : Canceller) : Nat :=
  match c with
  | .idle => 0
  | .converging => 1
  | .converged => 2
  | .frozen => 3

/-- The code of a line state (R161). -/
def LineState.code (l : LineState) : Nat :=
  match l with
  | .released => 0
  | .asserted => 1
  | .latchedOut => 2

/-- The code of the supervision state (R165). -/
def SupState.code (s : SupState) : Nat :=
  match s with
  | .run => 0
  | .limp => 1
  | .quiet => 2

/-- Watchdog period codes (R165). -/
def periodOf (n : Nat) : Option Period :=
  match n with
  | 0 => some .off
  | 1 => some .ms250
  | 2 => some .ms500
  | 3 => some .ms1000
  | 4 => some .ms2000
  | _ => none

/-- The code of a watchdog period (R165). -/
def Period.code (p : Period) : Nat :=
  match p with
  | .off => 0
  | .ms250 => 1
  | .ms500 => 2
  | .ms1000 => 3
  | .ms2000 => 4

/-- A watchdog period in milliseconds; OFF has none. -/
def Period.ms (p : Period) : Option Nat :=
  match p with
  | .off => none
  | .ms250 => some 250
  | .ms500 => some 500
  | .ms1000 => some 1000
  | .ms2000 => some 2000

/-- The seat's index in the order of the microphone input (R143). -/
def seatIndex (s : Seat) : Fin 4 :=
  match s with
  | .driver => 0
  | .passenger => 1
  | .rearLeft => 2
  | .rearRight => 3

/-- Membership of a seat. -/
def SeatSet.has (s : SeatSet) (x : Seat) : Bool :=
  match x with
  | .driver => s.driver
  | .passenger => s.passenger
  | .rearLeft => s.rearLeft
  | .rearRight => s.rearRight

/-- The seats in order. -/
def allSeats : List Seat := [.driver, .passenger, .rearLeft, .rearRight]

/-! ## Results and response frames -/

/-- The result codes of a response (R173). -/
inductive Result where
  | ok | badFrame | unknownRequest | badArgument | notFound | tableFull | tunerBusy | notPermitted | closing | limp
  | quiet | callPresent | storeBusy | storeWorn
  deriving DecidableEq, Repr

/-- The value of a result code (R173); 6 is not used. -/
def Result.code (r : Result) : Nat :=
  match r with
  | .ok => 0
  | .badFrame => 1
  | .unknownRequest => 2
  | .badArgument => 3
  | .notFound => 4
  | .tableFull => 5
  | .tunerBusy => 7
  | .notPermitted => 8
  | .closing => 9
  | .limp => 10
  | .quiet => 11
  | .callPresent => 12
  | .storeBusy => 13
  | .storeWorn => 14

/-- One shift of the CRC-8 register of polynomial x^8 + x^2 + x + 1 (R169). -/
def crcShift (r : Byte) : Byte := if r.msb then (r <<< 1) ^^^ 0x07#8 else r <<< 1

/-- A byte taken into the register, most significant bit first (R169). -/
def crcByte (r b : Byte) : Byte :=
  crcShift (crcShift (crcShift (crcShift (crcShift (crcShift (crcShift (crcShift (r ^^^ b))))))))

/-- The check byte of a run of bytes: the register starts at all ones (R169). -/
def crc8 (bytes : List Byte) : Byte := bytes.foldl crcByte 0xFF#8

/-- A response: request code, result code, payload length, payload, check byte (R168, R169, R173). -/
def response (code : Byte) (r : Result) (payload : List Byte) : List Byte :=
  let body := [code, BitVec.ofNat 8 r.code, BitVec.ofNat 8 payload.length] ++ payload
  body ++ [crc8 body]

/-- A request frame: request code, client, payload length, payload, check byte (R168, R169). -/
def requestFrame (code client : Byte) (payload : List Byte) : List Byte :=
  let body := [code, client, BitVec.ofNat 8 payload.length] ++ payload
  body ++ [crc8 body]

/-- The frame check of R169 on the bytes received. -/
def frameGood (bytes : List Byte) : Bool :=
  4 ≤ bytes.length && u8At bytes 2 ≤ 60 && bytes.length = u8At bytes 2 + 4 &&
    bytes.getLast? = some (crc8 bytes.dropLast)

end Sys2Proof.Machine
end

