-- ==== Sys2Proof/Machine/Flags.lean ====
section
/-! DEFINITION. The Event Unit (chapter 10): raising sources, marking slots, the conditions, and the attention lines. -/

namespace Sys2Proof.Machine

/-- The eighteen event sources (10.1). -/
inductive EventSource where
  | routeChange | routeAuto | autoRefused | alertCut | stationChange | stationTableFull | programQuality | afSwitch
  | watchLost | phoneLink | echoState | legChange | headphone | thermal | limp | storeDone | storeDefect | watchdogArmed
  deriving DecidableEq, Repr

/-- The number of a source (10.1). -/
def EventSource.number (e : EventSource) : Nat :=
  match e with
  | .routeChange => 0
  | .routeAuto => 1
  | .autoRefused => 2
  | .alertCut => 3
  | .stationChange => 4
  | .stationTableFull => 5
  | .programQuality => 6
  | .afSwitch => 7
  | .watchLost => 8
  | .phoneLink => 9
  | .echoState => 10
  | .legChange => 11
  | .headphone => 12
  | .thermal => 13
  | .limp => 14
  | .storeDone => 15
  | .storeDefect => 16
  | .watchdogArmed => 17

/-- The one-bit set of a source. -/
def EventSource.bit (e : EventSource) : BitVec 18 := 1#18 <<< e.number

/-- A source raised: its flag becomes or stays pending (R177). -/
def State.raise (s : State) (e : EventSource) : State :=
  { s with events.flags := s.events.flags ||| e.bit }

/-- A source raised where a condition holds. -/
def State.raiseIf (s : State) (c : Bool) (e : EventSource) : State := if c then s.raise e else s

/-- Slot marks joined to the route change mask; a mark raises ROUTE_CHANGE (R33, R177). -/
def State.markSlots (s : State) (m : BitVec 24) : State :=
  if m = 0 then s
  else { s with events.mask := s.events.mask ||| m, events.flags := s.events.flags ||| EventSource.routeChange.bit }

/-- The mask bit of a slot (R180). -/
def slotBit (slot : Nat) : BitVec 24 := if 1 ≤ slot then 1#24 <<< (slot - 1) else 0

/-- The station change flag set, and STATION_CHANGE raised (R92, R177). -/
def State.stationChanged (s : State) : State :=
  { s with events.station := true, events.flags := s.events.flags ||| EventSource.stationChange.bit }

/-- The conditions now true (R177, R180): THERMAL, LIMP, STORE_DEFECT. -/
def State.conditions (s : State) : BitVec 18 :=
  (if 0 < s.thermal.derate then EventSource.thermal.bit else 0) |||
    (if s.sup.state = .limp then EventSource.limp.bit else 0) |||
    (if s.store.defect ≠ 0 then EventSource.storeDefect.bit else 0)

/-- ATN_A: high while a pending, enabled source is routed to it; low while the part is held in reset (R174, R179). -/
def State.atnA (s : State) : Bool :=
  s.port.phase ≠ .held && (s.events.flags &&& s.events.enable &&& ~~~s.events.lineB) ≠ 0

/-- ATN_B, as ATN_A for its own sources (R179). -/
def State.atnB (s : State) : Bool :=
  s.port.phase ≠ .held && (s.events.flags &&& s.events.enable &&& s.events.lineB) ≠ 0

/-- The lines byte (R180). -/
def State.linesByte (s : State) : Nat := weigh s.atnA 1 + weigh s.atnB 2

/-- READY: high exactly while the response buffer is UNREAD outside reset and start-up (R170, R174). -/
def State.ready (s : State) : Bool :=
  s.port.phase = .running &&
    match s.port.buffer with
    | .unread _ => true
    | _ => false

end Sys2Proof.Machine
end

