-- ==== Sys2Proof/Machine/Gain.lean ====
section
/-! DEFINITION. The gain path (chapter 2): zone records, the volume curve, channel weights, route targets and ramps. -/

namespace Sys2Proof.Machine

/-- The precedence domain of a zone (1.4). -/
def Zone.domain (z : Zone) : Domain :=
  match z with
  | .hp1 => .hp1
  | .hp2 => .hp2
  | _ => .cabinGroup

/-- The record of a zone (R34). -/
def Mixer.zone (m : Mixer) (z : Zone) : ZoneRecord :=
  match z with
  | .cabin => m.cabin
  | .front => m.front
  | .driver => m.driver
  | .hp1 => m.hp1
  | .hp2 => m.hp2

/-- The records with one zone's replaced. -/
def Mixer.setZone (m : Mixer) (z : Zone) (x : ZoneRecord) : Mixer :=
  match z with
  | .cabin => { m with cabin := x }
  | .front => { m with front := x }
  | .driver => { m with driver := x }
  | .hp1 => { m with hp1 := x }
  | .hp2 => { m with hp2 := x }

/-- The highest volume step a zone may take: 40, or the cap of an HP zone (R58, R113). -/
def Mixer.limit (m : Mixer) (z : Zone) : Nat :=
  match z with
  | .hp1 => m.hp1.cap
  | .hp2 => m.hp2.cap
  | _ => 40

/-- The attenuation A(V) of a volume step, in q (R37). -/
def Mixer.attenuation (m : Mixer) (v : Nat) : Int := -(2 * ((tabGet m.curve v 0 : Nat) : Int))

/-- A sum of target terms: MUTE below the floor of -384 q (R49). -/
def gainOf (sum : Int) : Gain := if sum < -384 then .mute else .q sum

/-- The derate term of a zone's routes (R46, R49). -/
def State.derateTerm (s : State) (z : Zone) : Int :=
  if z.domain = .cabinGroup then (s.thermal.derate : Int) else 0

/-- The computed target of a route (R49). -/
def State.computedTarget (s : State) (r : Route) : Gain :=
  let v := (s.mixer.zone r.zone).volume
  let a := s.mixer.attenuation v
  match r.cls with
  | .alert => gainOf (r.level + (if v = 0 then s.mixer.alertFloor else max a s.mixer.alertFloor) - s.derateTerm r.zone)
  | _ => if v = 0 then .mute else gainOf (r.level + a - (r.duck : Int) - s.derateTerm r.zone)

/-! ## Channel weights -/

/-- The target weight of a channel for a balance and a fade (R38). -/
def weightFor (balance fade : Int) (c : Speaker) : Int :=
  let b :=
    match c.side with
    | .left => -6 * max 0 balance
    | .right => -6 * max 0 (-balance)
    | .centre => 0
  let f :=
    match c.row with
    | .front => -6 * max 0 (-fade)
    | .rear => -6 * max 0 fade
    | .none => 0
  b + f

/-- The entry of channel index `i` of the speaker map (R36). -/
def Mixer.speaker (m : Mixer) (i : Nat) : Speaker := tabGet m.map i ⟨.centre, .none, ⟨false, false, false⟩⟩

/-- The target weight of CABIN on channel index `i` (R38). -/
def Mixer.cabinTarget (m : Mixer) (i : Nat) : Int := weightFor m.cabin.balance m.cabin.fade (m.speaker i)

/-- The target weight of FRONT on channel index `i`: its fade is 0 (R38). -/
def Mixer.frontTarget (m : Mixer) (i : Nat) : Int := weightFor m.front.balance 0 (m.speaker i)

/-- One step of 1 q toward a target (R39). -/
def stepToward (target x : Int) : Int := if x < target then x + 1 else if target < x then x - 1 else x

/-- The applied weights after one weight step (R39); the target weight of every DRIVER channel is 0 (R38). -/
def Mixer.weightStep (m : Mixer) : Mixer :=
  { m with
    wCabin := tabOf 20 (fun i => stepToward (m.cabinTarget i) (tabGet m.wCabin i 0))
    wFront := tabOf 20 (fun i => stepToward (m.frontTarget i) (tabGet m.wFront i 0))
    wDriver := tabOf 20 (fun i => stepToward 0 (tabGet m.wDriver i 0)) }

/-- Every applied weight set equal to its target weight (R39). -/
def Mixer.settleWeights (m : Mixer) : Mixer :=
  { m with
    wCabin := tabOf 20 m.cabinTarget
    wFront := tabOf 20 m.frontTarget
    wDriver := tabOf 20 (fun _ => 0) }

/-- The applied weight of a zone on channel index `i`; HP zones have weight 0 (R38). -/
def Mixer.weight (m : Mixer) (z : Zone) (i : Nat) : Int :=
  match z with
  | .cabin => tabGet m.wCabin i 0
  | .front => tabGet m.wFront i 0
  | .driver => tabGet m.wDriver i 0
  | _ => 0

/-! ## Ramps -/

/-- The ring of a CALL route ends (R155); a TONE route's playback goes on (R154). -/
def Route.ringOff (r : Route) : Route := if r.cls = .call then { r with play := none } else r

/-- The ramp end as the Route Table takes it, but for the removal of a CLOSING route: RISING becomes PLAYING unless the
route carries the retune fade mark, YIELDING becomes SUSPENDED (R8, R13, R15). -/
def Route.rampEnded (r : Route) : Route :=
  match r.state with
  | .rising => if r.fadeMark then r else { r with state := .playing }
  | .yielding => { r.ringOff with state := .suspended, target := none }
  | _ => r

/-- A re-aim toward a target with a step time (R51, R52): a ramp from MUTE toward a level begins at -384 q; a ramp that
starts at its target ends at once. -/
def Route.aim (t : Gain) (st : RampClass) (r : Route) : Route :=
  let r := { r with target := some t, step := st }
  match r.applied, t with
  | .mute, .mute => { r with running := false }.rampEnded
  | .mute, .q v =>
    if v = -384 then { r with applied := .q (-384), running := false }.rampEnded
    else { r with applied := .q (-384), running := true }
  | .q a, .q v => if a = v then { r with running := false }.rampEnded else { r with running := true }
  | .q _, .mute => { r with running := true }

/-- Whether a route is in RISING or PLAYING. -/
def RouteState.sounding (s : RouteState) : Bool := s = .rising || s = .playing

/-- A recomputation of a route's target: a route in RISING or PLAYING without the retune fade mark re-aims if its ramp
target changes (R50). -/
def State.retarget (s : State) (st : RampClass) (r : Route) : Route :=
  if r.state.sounding && !r.fadeMark && r.target ≠ some (s.computedTarget r) then r.aim (s.computedTarget r) st else r

/-- One step of a running ramp (R51): 1 q toward the target, MUTE being aimed at as -385 q. -/
def Route.rampStep (r : Route) : Route :=
  match r.applied, r.target with
  | .q a, some (.q v) =>
    let n := stepToward v a
    if n = v then { r with applied := .q n, running := false }.rampEnded else { r with applied := .q n }
  | .q a, some .mute =>
    let n := stepToward (-385) a
    if n = -385 then { r with applied := .mute, running := false }.rampEnded else { r with applied := .q n }
  | _, _ => r

end Sys2Proof.Machine
end

