-- ==== Sys2Proof/Machine/RouteOps.lean ====
section
/-! DEFINITION. Shared operations of the Route Table (chapter 1): source conditions, the changes of a route's state, the
precedence re-run, duck attenuations, slot marks and reference changes, and the notices of availability. -/

namespace Sys2Proof.Machine

/-! ## Conditions (R5) -/

/-- The leg a LEG source names, while it exists (R136). -/
def State.leg (s : State) (id : Nat) (reuse : Byte) : Option Leg :=
  s.calls.legs.find? (fun l => l.id = id && l.reuse = reuse)

/-- The leg of a route. -/
def State.legOf (s : State) (r : Route) : Option Leg :=
  match r.source with
  | .leg id reuse => s.leg id reuse
  | _ => none

/-- Whether a route plays a leg that is RINGING, or ACTIVE. -/
def State.legIs (s : State) (r : Route) (st : LegState) : Bool :=
  match s.legOf r with
  | some l => l.state = st
  | none => false

/-- The listener condition of a zone: cabin-group zones have none (R5). -/
def State.listener (s : State) (z : Zone) : Bool :=
  match z with
  | .hp1 => s.jacks.j1.present
  | .hp2 => s.jacks.j2.present
  | _ => true

/-- The source condition of a route (R5). A leg that is gone delivers nothing; its routes are CLOSING (R141). -/
def State.condition (s : State) (r : Route) : Condition :=
  match r.source with
  | .stream _ => .available
  | .tone _ => .available
  | .tunerFrequency _ => r.condition
  | .tunerCode _ => r.condition
  | .leg id reuse =>
    match s.leg id reuse with
    | none => .legHeld
    | some l =>
      match l.state with
      | .ringing => .available
      | .active => if s.phone.link = .up then .available else .linkDown
      | .held => .legHeld

/-- Whether a route is available (R5). -/
def State.available (s : State) (r : Route) : Bool := s.listener r.zone && s.condition r = .available

/-- The pending cause of a route that is not available (R5). -/
def State.causeOf (s : State) (r : Route) : Cause :=
  if s.listener r.zone then
    match s.condition r with
    | .searching => .searching
    | .retune => .retune
    | .linkDown => .linkDown
    | .legHeld => .legHeld
    | _ => .sourceAbsent
  else .noListener

/-! ## Changes of state -/

/-- The start of a playback (R154, R155). -/
def playStart : PlayPosition := { cycle := 1, element := .segment1, time := 0 }

/-- Entry into RISING: the ring of a RINGING leg starts anew (R155), and the applied gain ramps from where it is toward
the computed target at the route's ramp class (R7, R10, R12, R16). -/
def State.enterRising (s : State) (r : Route) : Route :=
  let r := { r with state := .rising, cause := none, fadeMark := false }
  let r := if r.cls = .call then { r with play := if s.legIs r .ringing then some playStart else none } else r
  r.aim (s.computedTarget r) r.ramp

/-- Entry into PENDING: the gain is MUTE at once, the cause recorded (R7, R9, R12, R53). -/
def State.enterPending (s : State) (r : Route) : Route :=
  { r.ringOff with
    state := .pending, cause := some (s.causeOf r), applied := .mute, target := none, running := false,
    fadeMark := false }

/-- Entry into SUSPENDED at MUTE without a ramp (R7, R9, R11, R53). -/
def Route.suspend (r : Route) : Route :=
  { r.ringOff with
    state := .suspended, cause := none, applied := .mute, target := none, running := false, fadeMark := false }

/-- Entry into YIELDING: a ramp toward MUTE at the ramp class (R11). -/
def Route.yieldUp (r : Route) : Route :=
  { r with state := .yielding, fadeMark := false }.aim .mute r.ramp

/-- Entry into CLOSING: a ramp toward MUTE at the ramp class (R21). -/
def Route.close (r : Route) : Route :=
  { r with state := .closing, fadeMark := false }.aim .mute r.ramp

/-- What a change of its source or listener condition makes of a route (R9, R10). -/
def State.refresh (s : State) (r : Route) : Route :=
  if s.available r then
    match r.state with
    | .pending => s.enterRising r
    | _ => r
  else
    match r.state with
    | .rising => s.enterPending r
    | .playing => s.enterPending r
    | .yielding => r.suspend
    | .pending => { r with cause := some (s.causeOf r) }
    | _ => r

/-! ## Precedence (1.4) -/

/-- Whether a route counts as an outranker (R25). -/
def RouteState.counts (s : RouteState) : Bool := s = .pending || s = .rising || s = .playing

/-- The candidates of a class in a domain: its routes that are not CLOSING (R27). -/
def candidates (d : Domain) (c : RouteClass) (rs : List Route) : List Route :=
  rs.filter (fun r => r.zone.domain = d && r.cls = c && r.state ≠ .closing)

/-- Whether a route is the newest of a list of candidates (R4). -/
def newestOf (r : Route) (cs : List Route) : Bool := cs.all (fun c => c.rank ≤ r.rank)

/-- Whether a candidate is the winner of its class in its domain (R27): for CALL the newest on an ACTIVE leg if any
candidate's leg is ACTIVE, else the newest. -/
def State.winner (s : State) (rs : List Route) (r : Route) : Bool :=
  let cs := candidates r.zone.domain r.cls rs
  if r.cls = .call && cs.any (fun c => s.legIs c .active) then
    s.legIs r .active && newestOf r (cs.filter (fun c => s.legIs c .active))
  else newestOf r cs

/-- Whether a route of the class that counts stands in the domain (R26). -/
def anyCounts (d : Domain) (c : RouteClass) (rs : List Route) : Bool :=
  rs.any (fun r => r.zone.domain = d && r.cls = c && r.state.counts)

/-- Whether a route is outranked by the routes of its domain or by LIMP (R26, R27). -/
def State.outranked (s : State) (rs : List Route) (r : Route) : Bool :=
  match r.cls with
  | .alert => false
  | .prompt => s.sup.state = .limp
  | .call => !s.winner rs r
  | .announcement => s.sup.state = .limp || anyCounts r.zone.domain .call rs || !s.winner rs r
  | .media =>
    s.sup.state = .limp || anyCounts r.zone.domain .call rs || anyCounts r.zone.domain .announcement rs ||
      !s.winner rs r

/-- What a re-run makes of one route (R11, R12); CLOSING routes are not judged. -/
def State.judged (s : State) (rs : List Route) (r : Route) : Route :=
  if r.state = .closing then r
  else if s.outranked rs r then
    match r.state with
    | .pending => r.suspend
    | .rising => r.yieldUp
    | .playing => r.yieldUp
    | _ => r
  else
    match r.state with
    | .yielding => s.enterRising r
    | .suspended => if s.available r then s.enterRising r else s.enterPending r
    | _ => r

/-- One class of a domain judged. The classes are judged from the highest down, so that a class is outranked by the
routes that count once the classes above it have been judged (log entry 10). -/
def State.judgeClass (s : State) (d : Domain) (c : RouteClass) (rs : List Route) : List Route :=
  rs.map (fun r => if r.zone.domain = d && r.cls = c then s.judged rs r else r)

/-- The depth by which a sounding route of one class ducks a route of another (R28). -/
def DuckDepths.depth (t : DuckDepths) (ducker ducked : RouteClass) : Nat :=
  match ducker, ducked with
  | .alert, .call => t.alert
  | .alert, .prompt => t.alert
  | .alert, .announcement => t.alert
  | .alert, .media => t.alert
  | .call, .prompt => t.call
  | .prompt, .announcement => t.prompt
  | .prompt, .media => t.prompt
  | _, _ => 0

/-- The duck attenuation of a route: the largest depth among the sounding routes of its domain (R28). -/
def State.duckOf (s : State) (rs : List Route) (r : Route) : Nat :=
  rs.foldl
    (fun m x =>
      if x.zone.domain = r.zone.domain && x.state.sounding then max m (s.mixer.depths.depth x.cls r.cls) else m) 0

/-- A route's duck attenuation replaced; a route it re-aims ramps at NORMAL (R16, R28, R50). -/
def State.withDuck (s : State) (d : Nat) (r : Route) : Route :=
  if r.duck = d then r else s.retarget .normal { r with duck := d }

/-- The duck attenuations of a domain recomputed (R28). -/
def State.duckPass (s : State) (d : Domain) (rs : List Route) : List Route :=
  rs.map (fun r => if r.zone.domain = d then s.withDuck (s.duckOf rs r) r else r)

/-- The precedence re-run of a domain (R25): the classes judged, then the duck attenuations. -/
def State.rerunRoutes (s : State) (d : Domain) (rs : List Route) : List Route :=
  s.duckPass d (s.judgeClass d .media (s.judgeClass d .announcement (s.judgeClass d .prompt
    (s.judgeClass d .call (s.judgeClass d .alert rs)))))

/-! ## Marks and reference changes -/

/-- Whether the part's own change of a route marks its slot (R33). -/
def markedChange (old new : Route) : Bool :=
  (old.state = .pending) != (new.state = .pending) ||
    (old.state = .pending && old.cause ≠ new.cause) ||
    ((new.state = .yielding || new.state = .suspended) && (old.state = .pending || old.state.sounding)) ||
    (new.state.sounding && (old.state = .yielding || old.state = .suspended))

/-- The slots marked when the routes of a list change in place (R33). -/
def marksOf (old new : List Route) : BitVec 24 :=
  (old.zip new).foldl (fun m p => if markedChange p.1 p.2 then m ||| slotBit p.2.slot else m) 0

/-- Whether a cabin-group route enters RISING from outside, or leaves RISING and PLAYING (R32, R147). -/
def referenceMoved (old new : List Route) : Bool :=
  (old.zip new).any (fun p => p.1.zone.domain = .cabinGroup && p.1.state.sounding != p.2.state.sounding)

/-- A canceller at a reference change (R147). -/
def Mic.referenceChange (m : Mic) : Mic :=
  match m.canceller with
  | .converging => { m with sustain := 0, divergence := 0 }
  | .converged => { m with canceller := .converging, sustain := 0, divergence := 0 }
  | .frozen => { m with remembered := m.remembered.map (fun _ => false) }
  | .idle => m

/-- Whether some canceller is CONVERGED. -/
def Calls.anyConverged (c : Calls) : Bool := c.mics.toList.any (fun m => m.canceller = .converged)

/-- A reference change taken by the cancellers; leaving CONVERGED raises ECHO_STATE (R146, R147). -/
def State.referenceChange (s : State) : State :=
  { s with calls.mics := s.calls.mics.map Mic.referenceChange }.raiseIf s.calls.anyConverged .echoState

/-- The routes changed in place, with the reference change this makes. -/
def State.putRoutes (s : State) (rs : List Route) : State :=
  let t := { s with routes := rs }
  if referenceMoved s.routes rs then t.referenceChange else t

/-- The routes changed in place by the part, with marks (R33) and reference change. -/
def State.commitRoutes (s : State) (rs : List Route) : State := (s.putRoutes rs).markSlots (marksOf s.routes rs)

/-- The precedence re-run of a domain (R25). -/
def State.rerun (s : State) (d : Domain) : State := s.commitRoutes (s.rerunRoutes d s.routes)

/-- Re-runs of the domains of a list, each once. -/
def State.rerunAll (s : State) (ds : List Domain) : State :=
  [Domain.cabinGroup, .hp1, .hp2].foldl (fun t d => if d ∈ ds then t.rerun d else t) s

/-- The domains that hold a route of the given kind. -/
def domainsOf (p : Route → Bool) (rs : List Route) : List Domain := (rs.filter p).map (fun r => r.zone.domain)

/-! ## Notices -/

/-- A notice of changed conditions to the routes selected, and the re-run of their domains (R9, R10, R25). -/
def State.notice (s : State) (p : Route → Bool) (f : Route → Route) : State :=
  let t := s.commitRoutes (s.routes.map (fun r => if p r then f r else r))
  t.rerunAll (domainsOf p s.routes)

/-- A source condition notified to one route (R5, R9, R10); AVAILABLE to a marked route clears the retune fade mark and
re-aims it toward its normal target (R15). -/
def State.notified (s : State) (c : Condition) (r : Route) : Route :=
  let r := { r with condition := c }
  if r.fadeMark && c = .available && r.state.sounding && s.available r then
    { r with fadeMark := false }.aim (s.computedTarget r) r.ramp
  else s.refresh r

/-- A source condition notified to every route a tuner's program serves (R67). -/
def State.notifyTuner (s : State) (t : TunerId) (c : Condition) : State :=
  s.notice (fun r => r.tuner = some t) (s.notified c)

/-- The retune fade notice to one route (R15): MUTE is its target, at FAST. -/
def Route.fade (r : Route) : Route := if r.state.sounding then { r with fadeMark := true }.aim .mute .fast else r

/-- The routes of a zone re-aimed after a change of its target terms (R50). -/
def State.retargetWhere (s : State) (p : Route → Bool) (st : RampClass) : State :=
  s.putRoutes (s.routes.map (fun r => if p r then s.retarget st r else r))

end Sys2Proof.Machine
end

