-- ==== Sys2Proof/Machine/StationOps.lean ====
section
/-! DEFINITION. Shared operations of the Station Table (chapter 4): the raster, lookups, insertion and replacement, decoded
items, the in-use set, and the scan position. -/

namespace Sys2Proof.Machine

/-! ## The raster (R62) -/

/-- The lowest frequency of a band plan. -/
def bandLow (p : BandPlan) : Nat :=
  match p with
  | .a => 8750
  | .b => 8790
  | .c => 7600
  | .d => 8750

/-- The highest frequency of a band plan. -/
def bandHigh (p : BandPlan) : Nat :=
  match p with
  | .a => 10800
  | .b => 10790
  | .c => 9500
  | .d => 10800

/-- The step of a band plan. -/
def bandStep (p : BandPlan) : Nat :=
  match p with
  | .a => 10
  | .b => 20
  | .c => 10
  | .d => 5

/-- Whether a frequency is on the raster (R62). -/
def onRaster (p : BandPlan) (f : Nat) : Bool :=
  bandLow p ≤ f && f ≤ bandHigh p && (f - bandLow p) % bandStep p = 0

/-! ## Measurements (R78) -/

/-- The quality of a field strength and a multipath (R78). -/
def qualityOf (field multipath : Nat) : Nat := min 120 (field - (3 * multipath + 5) / 10)

/-- The area of a quality under the limits in force (R78). -/
def areaOf (bLow bHigh q : Nat) : Area := if bHigh ≤ q then .i else if bLow ≤ q then .ii else .iii

/-- A measurement taken now (R78). -/
def State.measure (s : State) (field multipath : Nat) (tag : Tag) : Measurement :=
  let q := qualityOf field multipath
  { field := field, multipath := multipath, quality := q, area := areaOf s.stations.bLow s.stations.bHigh q, tag := tag }

/-! ## Records -/

/-- A record as created (R88). -/
def Station.new (f : Nat) : Station :=
  { frequency := f, code := none, name := List.replicate 8 none, capable := false, active := false, afList := [],
    last := none, age := 0, refreshed := true, pinned := false }

/-- The record of a frequency (R99). -/
def Stations.find (t : Stations) (f : Nat) : Option Station := t.records.find? (fun r => r.frequency = f)

/-- Whether a frequency is in use (R91). -/
def Stations.isInUse (t : Stations) (f : Nat) : Bool := f ∈ t.inUse

/-- A record of the table changed. -/
def Stations.update (t : Stations) (f : Nat) (g : Station → Station) : Stations :=
  { t with records := t.records.map (fun r => if r.frequency = f then g r else r) }

/-- The area a record ranks with: without a measurement, III (R88). -/
def Station.rankArea (r : Station) : Nat :=
  match r.last with
  | some (_, a, _) => a.code
  | none => 3

/-- The quality a record ranks with: without a measurement, 0 (R88). -/
def Station.rankQuality (r : Station) : Nat :=
  match r.last with
  | some (q, _, _) => q
  | none => 0

/-- Whether a record is better than another for a lookup: area, then quality, then lower frequency (R99). -/
def Station.better (a b : Station) : Bool :=
  a.rankArea < b.rankArea ||
    (a.rankArea = b.rankArea &&
      (b.rankQuality < a.rankQuality || (a.rankQuality = b.rankQuality && a.frequency < b.frequency)))

/-- The best record carrying a code (R99). -/
def Stations.best (t : Stations) (c : Nat) : Option Station :=
  (t.records.filter (fun r => r.code = some c)).foldl
    (fun m r =>
      match m with
      | none => some r
      | some b => if r.better b then some r else some b) none

/-- Whether a record goes before another as victim: worst area, highest age, lowest quality, lowest frequency (R92). -/
def Station.worse (a b : Station) : Bool :=
  b.rankArea < a.rankArea ||
    (a.rankArea = b.rankArea &&
      (b.age < a.age ||
        (a.age = b.age &&
          (a.rankQuality < b.rankQuality || (a.rankQuality = b.rankQuality && a.frequency < b.frequency)))))

/-- The victim among the records neither pinned nor in use (R92). -/
def Stations.victim (t : Stations) : Option Station :=
  (t.records.filter (fun r => !r.pinned && !t.isInUse r.frequency)).foldl
    (fun m r =>
      match m with
      | none => some r
      | some b => if r.worse b then some r else some b) none

/-- A record placed in frequency order (R88). -/
def insertRecord (r : Station) (rs : List Station) : List Station :=
  match rs with
  | [] => [r]
  | x :: xs => if r.frequency < x.frequency then r :: x :: xs else x :: insertRecord r xs

/-- The records without one frequency's. -/
def dropRecord (f : Nat) (rs : List Station) : List Station := rs.filter (fun r => r.frequency ≠ f)

/-- The records after an insertion; none where it is dropped (R92). -/
def Stations.inserted (t : Stations) (r : Station) : Option (List Station) :=
  if t.records.length < 48 then some (insertRecord r t.records)
  else
    match t.victim with
    | some v => some (insertRecord r (dropRecord v.frequency t.records))
    | none => none

/-- An insertion that is dropped in silence where there is no victim (R92; STATION_ADD, R107). -/
def State.insertSilently (s : State) (r : Station) : State :=
  match s.stations.inserted r with
  | some rs => { s with stations.records := rs }.stationChanged
  | none => s

/-- STATION_TABLE_FULL for a dropped insertion: for an in-use frequency only at its first failure (R92). -/
def State.reportFull (s : State) (f : Nat) : State :=
  if s.stations.isInUse f then
    if f ∈ s.stations.fullRaised then s
    else { s with stations.fullRaised := f :: s.stations.fullRaised }.raise .stationTableFull
  else s.raise .stationTableFull

/-- An insertion of the part's own (R92). -/
def State.insertStation (s : State) (r : Station) : State :=
  match s.stations.inserted r with
  | some rs => { s with stations.records := rs }.stationChanged
  | none => s.reportFull r.frequency

/-- A record for the frequency made to exist, if it can be (R90, R91). -/
def State.ensureStation (s : State) (f : Nat) : State :=
  match s.stations.find f with
  | some _ => s
  | none => s.insertStation (Station.new f)

/-- The removal of a record (R92). -/
def State.removeStation (s : State) (f : Nat) : State :=
  { s with stations.records := dropRecord f s.stations.records }.stationChanged

/-- A measurement applied to a record (4.2). -/
def Station.refresh (m : Measurement) (r : Station) : Station :=
  { r with last := some (m.quality, m.area, m.tag), age := 0, refreshed := true }

/-- The record of a frequency refreshed, created first where there is none (R90). -/
def State.refreshStation (s : State) (f : Nat) (m : Measurement) : State :=
  let t := s.ensureStation f
  { t with stations := t.stations.update f (Station.refresh m) }

/-! ## Decoded items (R94 to R96) -/

/-- A decoded program code applied to a record (R94). -/
def Station.withCode (c : Nat) (r : Station) : Station :=
  match r.code with
  | none => { r with code := some c }
  | some d => if d = c then r else { r with code := some c, name := List.replicate 8 none, afList := [] }

/-- A decoded name segment applied to a record (R95). -/
def Station.withSegment (position : Nat) (a b : Byte) (r : Station) : Station :=
  if position = 1 ∨ position = 3 ∨ position = 5 ∨ position = 7 then
    { r with name := (r.name.set (position - 1) (some a)).set position (some b) }
  else r

/-- A decoded traffic item applied to a record (R96). -/
def Station.withTraffic (capable active : Bool) (r : Station) : Station := { r with capable := capable, active := active }

/-- The entries of a decoded AF list that are kept: on the raster, not the record's own, not repeated, the first eight
(R96). -/
def keptAfs (p : BandPlan) (own : Nat) (fs : List Nat) : List Nat :=
  (fs.foldl (fun kept f => if onRaster p f && f ≠ own && !kept.contains f then kept ++ [f] else kept) []).take 8

/-- A decoded AF list applied to a record (R96). -/
def Station.withAfList (p : BandPlan) (fs : List Nat) (r : Station) : Station :=
  { r with afList := keptAfs p r.frequency fs }

/-! ## In-use set (R91) -/

/-- A frequency joins the in-use set; a record is inserted for it where there is none (R91). -/
def State.joinInUse (s : State) (f : Nat) : State :=
  ({ s with stations.inUse := f :: s.stations.inUse.filter (· ≠ f) }).ensureStation f

/-- A frequency leaves the in-use set (R91, R92). -/
def State.leaveInUse (s : State) (f : Nat) : State :=
  { s with
    stations.inUse := s.stations.inUse.filter (· ≠ f)
    stations.fullRaised := s.stations.fullRaised.filter (· ≠ f) }

/-! ## The scan position (4.5) -/

/-- The end of a scan round (R98). -/
def State.roundEnd (s : State) : State :=
  let t := s.stations
  let aged :=
    t.records.map (fun r => { r with age := if r.refreshed then r.age else min 15 (r.age + 1), refreshed := false })
  let keep := fun (r : Station) => r.age ≤ t.retire || r.pinned || t.isInUse r.frequency
  let u := { s with stations := { t with round := t.round + 1, records := aged.filter keep } }
  if aged.all keep then u else u.stationChanged

/-- The cursor moves on one raster frequency; from the highest it wraps and a round ends (R97). -/
def State.moveCursor (s : State) : State :=
  let p := s.tuners.plan
  if s.stations.cursor + bandStep p ≤ bandHigh p then
    { s with stations.cursor := s.stations.cursor + bandStep p }
  else { s with stations.cursor := bandLow p }.roundEnd

/-- The cursor moved past frequencies in use (R97). -/
def State.skipInUse (s : State) (fuel : Nat) : State :=
  match fuel with
  | 0 => s
  | n + 1 => if s.stations.isInUse s.stations.cursor then s.moveCursor.skipInUse n else s

/-- The reservation of a tuner's scan step. -/
def Stations.reserved (t : Stations) (x : TunerId) : Option Nat :=
  match x with
  | .t1 => t.reserved1
  | .t2 => t.reserved2

/-- The reservation of a tuner's scan step replaced. -/
def Stations.reserve (t : Stations) (x : TunerId) (f : Option Nat) : Stations :=
  match x with
  | .t1 => { t with reserved1 := f }
  | .t2 => { t with reserved2 := f }

/-- A frequency handed out for a scan step and reserved for the tuner (R97). -/
def State.handOut (s : State) (x : TunerId) : State :=
  match s.stations.returned.dropWhile (fun f => s.stations.isInUse f) with
  | f :: rest => { s with stations := { s.stations with returned := rest }.reserve x (some f) }
  | [] =>
    let t := { s with stations.returned := [] }.skipInUse (s.stations.inUse.length + 1)
    let f := t.stations.cursor
    let u := t.moveCursor
    { u with stations := u.stations.reserve x (some f) }

/-- A frequency placed in order in the return list (R97). -/
def insertOrdered (f : Nat) (fs : List Nat) : List Nat :=
  match fs with
  | [] => [f]
  | x :: xs => if f ≤ x then f :: x :: xs else x :: insertOrdered f xs

/-- A cancelled step's frequency returned and its reservation released (R97). -/
def Stations.giveBack (t : Stations) (x : TunerId) : Stations :=
  match t.reserved x with
  | some f => { t with returned := insertOrdered f t.returned }.reserve x none
  | none => t

end Sys2Proof.Machine
end

