-- ==== Sys2Proof/Machine/TunerOps.lean ====
section
/-! DEFINITION. Shared operations of the Tuner Allocator (chapter 3): claims, release, the waiting list, the watch, pairing,
retunes and alternate-frequency following; and decoded items as they reach records and tuners (chapter 4). -/

namespace Sys2Proof.Machine

/-! ## Records -/

/-- The other tuner. -/
def otherTuner (x : TunerId) : TunerId :=
  match x with
  | .t1 => .t2
  | .t2 => .t1

/-- A tuner's record (R63). -/
def State.tuner (s : State) (x : TunerId) : Tuner :=
  match x with
  | .t1 => s.tuners.t1
  | .t2 => s.tuners.t2

/-- A tuner's record replaced. -/
def State.setTuner (s : State) (x : TunerId) (t : Tuner) : State :=
  match x with
  | .t1 => { s with tuners.t1 := t }
  | .t2 => { s with tuners.t2 := t }

/-- Whether a tuner holds a program on a frequency. -/
def Tuner.holds (t : Tuner) (f : Nat) : Bool := t.role = .program && t.frequency = some f

/-- The tuner holding a program on a frequency, T1 before T2. -/
def State.holder (s : State) (f : Nat) : Option TunerId :=
  if s.tuners.t1.holds f then some .t1 else if s.tuners.t2.holds f then some .t2 else none

/-- The condition a program's routes hold now (R67). -/
def Tuner.programCondition (t : Tuner) : Condition :=
  if t.retune.isSome then .retune else if t.activity = .retune then .sourceAbsent else .available

/-- Whether a tuner's AF search checks its candidates through the other tuner, so that a check runs or waits there
(R72, R81). -/
def Tuner.checksThrough (t : Tuner) : Bool :=
  match t.search with
  | some q => q.partner
  | none => false

/-- Whether a tuner's AF search uses the other tuner: while its partner search checks, and until the switch that search
chose has settled (R74, R81; log entry 11). -/
def Tuner.usesOther (t : Tuner) : Bool :=
  t.checksThrough ||
    match t.retune with
    | some ⟨.switch _ false, _⟩ => true
    | _ => false

/-! ## Cancelling work -/

/-- A scan step cancelled: nothing is applied and its frequency is returned (R72, R97). -/
def State.cancelScan (s : State) (x : TunerId) : State :=
  if (s.tuner x).activity = .scanStep then
    { s with stations := s.stations.giveBack x }.setTuner x { s.tuner x with activity := .none, scan := none }
  else s

/-- A check cancelled: nothing is handed to the Station Table (R84). -/
def State.cancelCheck (s : State) (x : TunerId) : State :=
  if (s.tuner x).activity = .afCheckForMaster then
    s.setTuner x { s.tuner x with activity := .none, check := none }
  else s

/-- The other tuner's partner search ended because this tuner is taken: its streak is kept (R84). -/
def State.abortSearchBy (s : State) (x : TunerId) : State :=
  let m := s.tuner (otherTuner x)
  match m.search with
  | some q => if q.partner then s.setTuner (otherTuner x) { m with search := none, af := .idle } else s
  | none => s

/-- A tuner's role as partner given up (R76). -/
def Tuner.unpartnered (t : Tuner) : Tuner :=
  if t.role = .partner then { t with role := .free, activity := .none, partnerOf := none } else t

/-- The pairing link back to NONE, the partner FREE (R74, R76). -/
def State.unpair (s : State) : State :=
  { s with
    tuners.link := .none
    tuners.interval := none
    tuners.t1 := s.tuners.t1.unpartnered
    tuners.t2 := s.tuners.t2.unpartnered }

/-! ## Notices from programs -/

/-- A retune abandoned in its fade phase (R77): AVAILABLE is notified at once. -/
def State.abandonRetune (s : State) (x : TunerId) : State :=
  (s.setTuner x { s.tuner x with retune := none }).notifyTuner x .available

/-- An AF search in SEARCHING ended with streak 0 (R84): a running check is cancelled, and a retune still in its fade
phase is abandoned. -/
def State.endSearch (s : State) (x : TunerId) : State :=
  let t := s.tuner x
  let s1 := if t.usesOther then s.cancelCheck (otherTuner x) else s
  let s2 := s1.setTuner x { s1.tuner x with search := none, af := .idle, streak := 0 }
  match t.retune with
  | some ⟨_, false⟩ => s2.abandonRetune x
  | _ => s2

/-- The streak held at 0 while the program has no code or its record no AF list (R80), in every AF search state. -/
def State.holdStreak (s : State) (x : TunerId) : State :=
  let t := s.tuner x
  let listed :=
    match t.frequency with
    | some f =>
      match s.stations.find f with
      | some r => !r.afList.isEmpty
      | none => false
    | none => false
  if t.role = .program && !(t.code.isSome && listed) then s.setTuner x { t with streak := 0 } else s

/-- The new code of a record in use told to a tuner: but while CONFIRMING, its program code follows, and a search in
SEARCHING ends, also where the tuner holds that code already (R71, R84, R94). -/
def State.followCode (s : State) (x : TunerId) (f c : Nat) : State :=
  let t := s.tuner x
  if t.holds f && t.af ≠ .confirming then
    let s1 := s.setTuner x { t with code := some c }
    if t.af = .searching then s1.endSearch x else s1
  else s

/-! ## Claims (R65, R66) -/

/-- A tuner taken for a program (R65, R69): it gives up what it was doing and begins acquisition (R67). The frequency of
a watch-only tuner leaves the in-use set before the new one joins it (DESIGN CHOICE, log entry 36: the specification
gives no order, and in a full Station Table it decides the victim). -/
def State.takeTuner (s : State) (x : TunerId) (f users : Nat) (watch : Bool) : State :=
  let s1 := ((s.cancelScan x).cancelCheck x).abortSearchBy x
  let s2 := if s1.tuners.link = .none then s1 else s1.unpair
  let s3 :=
    match (s2.tuner x).frequency with
    | some old => s2.leaveInUse old
    | none => s2
  let s4 := s3.joinInUse f
  let code :=
    match s4.stations.find f with
    | some r => r.code
    | none => none
  s4.setTuner x
    { Tuner.free with
      role := .program, frequency := some f, code := code, users := users, watch := watch, activity := .retune }

/-- The Station Table told that the watch attaches or moves: frequency and tuner recorded, the record's
announcement-active flag cleared (R100). -/
def State.tellWatch (s : State) (f : Nat) (x : TunerId) : State :=
  { s with
    stations := { s.stations with watch := some (f, x) }.update f (fun r => { r with active := false }) }

/-- The watch of a watch-only tuner dropped by a claim (R70): it waits, and WATCH_LOST is raised. The watch had no
routes, so no announcement route is ended. -/
def State.dropWatch (s : State) (x : TunerId) : State :=
  let s1 := s.setTuner x { s.tuner x with watch := false }
  { s1 with stations := { s1.stations with watch := none, announcing := false, announced := [] } }.raise .watchLost

/-- Whether a tuner is held by the watch alone. -/
def Tuner.watchOnly (t : Tuner) : Bool := t.role = .program && t.users = 0 && t.watch

/-- A program shared with one more route (R65, case 1). The area history of R79 is kept: R79 clears it "at each claim", and
a share takes no tuner (DESIGN CHOICE, log entry 42). -/
def State.share (s : State) (x : TunerId) : State × Option (TunerId × Condition) :=
  let t := s.tuner x
  (s.setTuner x { t with users := t.users + 1 }, some (x, t.programCondition))

/-- A program claim by frequency (R65): the tuner and the route's condition, or none where it is refused. -/
def State.claim (s : State) (f : Nat) : State × Option (TunerId × Condition) :=
  match s.holder f with
  | some x => s.share x
  | none =>
    if s.tuners.t1.role ≠ .program then (s.takeTuner .t1 f 1 false, some (.t1, .sourceAbsent))
    else if s.tuners.t2.role ≠ .program then (s.takeTuner .t2 f 1 false, some (.t2, .sourceAbsent))
    else if s.tuners.t1.watchOnly then ((s.dropWatch .t1).takeTuner .t1 f 1 false, some (.t1, .sourceAbsent))
    else if s.tuners.t2.watchOnly then ((s.dropWatch .t2).takeTuner .t2 f 1 false, some (.t2, .sourceAbsent))
    else (s, none)

/-- Whether a tuner holds a program with a code. -/
def Tuner.holdsCode (t : Tuner) (c : Nat) : Bool := t.role = .program && t.code = some c

/-- What a claim by program code finds (R66): a program with the code, T1 before T2, or the best record's frequency. -/
inductive CodeTarget where
  | tuner (x : TunerId)
  | frequency (f : Nat)
  | unknown
  deriving DecidableEq, Repr

/-- The target of a claim by program code (R66). -/
def State.codeTarget (s : State) (c : Nat) : CodeTarget :=
  if s.tuners.t1.holdsCode c then .tuner .t1
  else if s.tuners.t2.holdsCode c then .tuner .t2
  else
    match s.stations.best c with
    | some r => .frequency r.frequency
    | none => .unknown

/-- Cases 1 and 2 of a claim by program code (R66). -/
def State.claimCode (s : State) (c : Nat) : State × Option (TunerId × Condition) :=
  match s.codeTarget c with
  | .tuner x => s.share x
  | .frequency f => s.claim f
  | .unknown => (s, none)

/-- An entry off the waiting list (R66). -/
def State.dropWaiting (s : State) (h : Handle) : State :=
  { s with tuners.waiting := s.tuners.waiting.filter (fun w => w.handle ≠ h) }

/-- A waiting entry tried at a notice of its code (R66). -/
def State.tryWaiting (s : State) (w : Waiting) : State :=
  if s.routes.any (fun r => r.handle = w.handle) then
    match s.claimCode w.code with
    | (t, some (x, c)) =>
      let u := t.dropWaiting w.handle
      u.notice (fun r => r.handle = w.handle) (fun r => u.notified c { r with tuner := some x })
    | (_, none) => s
  else s.dropWaiting w.handle

/-- A notice of a code to the Allocator: the waiting entries with the code, in order (R66). -/
def State.notifyCode (s : State) (c : Nat) : State :=
  (s.tuners.waiting.filter (fun w => w.code = c)).foldl State.tryWaiting s

/-! ## The watch's claims (R69, R70) -/

/-- The watch attached to a tuner that already holds its frequency (R69, case 2). -/
def State.attachWatch (s : State) (x : TunerId) (f : Nat) : State :=
  (s.setTuner x { s.tuner x with watch := true }).tellWatch f x

/-- A tuner taken for the watch (R69, case 3). -/
def State.takeForWatch (s : State) (x : TunerId) (f : Nat) : State := (s.takeTuner x f 0 true).tellWatch f x

/-- A WAITING watch attached, outside QUIET, to a tuner that holds its frequency or is FREE (R70). -/
def State.reattachWatch (s : State) : State :=
  match s.tuners.watch with
  | none => s
  | some f =>
    if s.sup.state = .quiet || s.tuners.t1.watch || s.tuners.t2.watch then s
    else
      match s.holder f with
      | some x => s.attachWatch x f
      | none =>
        if s.tuners.t1.role = .free then s.takeForWatch .t1 f
        else if s.tuners.t2.role = .free then s.takeForWatch .t2 f
        else s

/-! ## Release (R68) -/

/-- A PROGRAM tuner becomes FREE (R68). A break of its pairing ends at once with the link NONE, as a pairing does, and the
partner's step goes on as an ordinary one (DESIGN CHOICE, log entry 45: R75 looks at a break's conditions at the step's end).
-/
def State.freeTuner (s : State) (x : TunerId) : State :=
  let t := s.tuner x
  let s1 :=
    match t.frequency with
    | some f => s.leaveInUse f
    | none => s
  let s2 := if t.usesOther then s1.cancelCheck (otherTuner x) else s1
  let s3 := if s2.tuners.link = .none then s2 else s2.unpair
  s3.setTuner x .free

/-- A PROGRAM tuner that neither a route nor the watch holds becomes FREE (R68). -/
def State.freeIfUnheld (s : State) (x : TunerId) : State :=
  let t := s.tuner x
  if t.role = .program && t.users = 0 && !t.watch then s.freeTuner x else s

/-- A route gone from the program of a tuner (R68). A tuner that becomes FREE by it is claimed for a WAITING watch at
that moment, before a later removal frees the other one (R70). -/
def State.leaveTuner (s : State) (x : TunerId) : State :=
  let s1 := s.setTuner x { s.tuner x with users := (s.tuner x).users - 1 }
  let s2 := s1.freeIfUnheld x
  if (s1.tuner x).role = .program && (s2.tuner x).role = .free then s2.reattachWatch else s2

/-- A route's removal told to the Allocator (R14, R66, R68). -/
def State.releaseRoute (s : State) (r : Route) : State :=
  match r.source, r.tuner with
  | .tunerFrequency _, some x => s.leaveTuner x
  | .tunerCode _, some x => s.leaveTuner x
  | .tunerCode _, none => s.dropWaiting r.handle
  | _, _ => s

/-! ## Retunes (R77) -/

/-- A retune begun (R77): its fade phase, with the fade notice to the program's routes. -/
def State.beginRetune (s : State) (x : TunerId) (k : RetuneKind) : State :=
  let s1 := s.setTuner x { s.tuner x with retune := some ⟨k, false⟩ }
  s1.putRoutes (s1.routes.map (fun r => if r.tuner = some x then r.fade else r))

/-- Whether the fade phase has ended: no marked route of the program has sound left (R77; log entry 12). -/
def State.fadeDone (s : State) (x : TunerId) : Bool :=
  s.routes.all (fun r => !(r.tuner = some x && r.fadeMark && r.applied ≠ .mute))

/-- The program moved to a frequency at the tuning phase: the in-use mark and a watch move, AF_SWITCH is raised
(R77, R83, R69). The streak counts by the new frequency's record (R80). -/
def State.moveProgram (s : State) (x : TunerId) (k : RetuneKind) (dest : Nat) (confirm : Bool) : State :=
  let t := s.tuner x
  let s1 :=
    match t.frequency with
    | some f => s.leaveInUse f
    | none => s
  let s2 := s1.joinInUse dest
  let s3 :=
    s2.setTuner x
      { s2.tuner x with
        frequency := some dest, activity := .retune, retune := some ⟨k, true⟩,
        oldFrequency := if confirm then t.frequency else none }
  let s4 := if t.watch then { s3 with tuners.watch := some dest }.tellWatch dest x else s3
  (s4.holdStreak x).raise .afSwitch

/-- The tuning phase of a retune (R77). A move onto a frequency the other tuner now holds is not made (R63, R83): a
switch ends without it, a revert leaves the program on the candidate with the code that was decoded. -/
def State.beginTuning (s : State) (x : TunerId) (k : RetuneKind) : State :=
  match k with
  | .jump c =>
    let s1 := s.notifyTuner x .retune
    s1.setTuner x { s1.tuner x with activity := .selfAfJump, retune := some ⟨.jump c, true⟩ }
  | .switch dest confirm =>
    if (s.tuner (otherTuner x)).holds dest then
      (s.setTuner x { s.tuner x with af := .idle, streak := 0, search := none }).abandonRetune x
    else (s.notifyTuner x .retune).moveProgram x k dest confirm
  | .revert dest decoded =>
    if (s.tuner (otherTuner x)).holds dest then
      (s.setTuner x { s.tuner x with af := .idle, streak := 0, code := decoded, oldFrequency := none }).abandonRetune x
    else (s.notifyTuner x .retune).moveProgram x k dest false

/-- The end of a fade phase, if it has come (R77). -/
def State.endFade (s : State) (x : TunerId) : State :=
  match (s.tuner x).retune with
  | some ⟨k, false⟩ => if s.fadeDone x then s.beginTuning x k else s
  | _ => s

/-- The fade phases that have ended, whichever change ended them (R77). Where one step ends those of both tuners, T1
enters its tuning phase first, so T1 wins a candidate both would switch to (DESIGN CHOICE, log entry 44: R77 and R83 give no
order). -/
def State.endFades (s : State) : State := ((s.endFade .t1).endFade .t2).endFade .t1

/-- The switch of a search to its chosen candidate, or the end of a search without one (R81 to R83). -/
def State.concludeSearch (s : State) (x : TunerId) (best : Option (Nat × Nat)) (confirm : Bool) : State :=
  match best with
  | some (f, _) =>
    if (s.tuner (otherTuner x)).holds f then
      s.setTuner x { s.tuner x with af := .idle, streak := 0, search := none }
    else (s.setTuner x { s.tuner x with search := none }).beginRetune x (.switch f confirm)
  | none => s.setTuner x { s.tuner x with af := .idle, streak := 0, search := none }

/-- The better of the best candidate so far and one more: the higher quality, the earlier on a tie (R81, R82). -/
def betterCandidate (best : Option (Nat × Nat)) (f q : Nat) : Option (Nat × Nat) :=
  match best with
  | some (g, p) => if p < q then some (f, q) else some (g, p)
  | none => some (f, q)

/-- The best of the candidates found (R81, R82). -/
def bestCandidate (found : List (Nat × Nat)) : Option (Nat × Nat) :=
  found.foldl (fun b c => betterCandidate b c.1 c.2) none

/-- Whether a candidate's quality is good enough: at least the quality of the program's most recent measurement plus the
AF hysteresis (R81, R82). -/
def State.goodEnough (s : State) (x : TunerId) (quality : Nat) : Bool :=
  match (s.tuner x).measurement with
  | some p => p.quality + s.tuners.policy.hysteresis ≤ quality
  | none => false

/-- Whether a self jump's candidate qualifies: area I or II, and a quality good enough (R82). -/
def State.qualifies (s : State) (x : TunerId) (m : Measurement) : Bool := m.area ≠ .iii && s.goodEnough x m.quality

/-! ## Decoded items on records (4.4) -/

/-- A decoded code applied to the record of a frequency (R94). -/
def State.applyCode (s : State) (f c : Nat) : State :=
  match s.stations.find f with
  | none => s
  | some r =>
    if r.code = some c then s
    else
      let s1 := { s with stations := s.stations.update f (Station.withCode c) }.notifyCode c
      let s2 := (s1.followCode .t1 f c).followCode .t2 f c
      (s2.holdStreak .t1).holdStreak .t2

/-- A decoded item other than an announcement's effect applied to the record of a frequency (R94 to R96). An item for a
frequency without a record is discarded (4.4). -/
def State.applyItem (s : State) (f : Nat) (i : DataItem) : State :=
  match i with
  | .programCode c => if c = 0 then s else s.applyCode f c.toNat
  | .nameSegment p a b => { s with stations := s.stations.update f (Station.withSegment p a b) }
  | .traffic c a => { s with stations := s.stations.update f (Station.withTraffic c a) }
  | .afList fs =>
    (({ s with stations := s.stations.update f (Station.withAfList s.tuners.plan fs) }).holdStreak .t1).holdStreak .t2

/-! ## The arbiter (3.5, 3.6) -/

/-- The next check of a partner search begun on the other tuner, if that tuner is FREE in NONE (R72, R81). A break of
the pairing ends there (R75). -/
def State.beginCheck (s : State) (x : TunerId) : State :=
  let o := s.tuner (otherTuner x)
  match (s.tuner x).search with
  | some ⟨true, c :: rest, found⟩ =>
    if o.role = .free && o.activity = .none then
      let s1 := s.setTuner x { s.tuner x with search := some ⟨true, rest, found⟩ }
      let s2 :=
        s1.setTuner (otherTuner x)
          { s1.tuner (otherTuner x) with activity := .afCheckForMaster, check := some ⟨c, none⟩ }
      { s2 with tuners.link := .none, tuners.interval := none }
    else s
  | _ => s

/-- Master and partner of a pairing the first list of R74 allows. -/
def State.pairReady (s : State) : Option (TunerId × TunerId) :=
  if s.tuners.policy.diversity && s.tuners.policy.scan ≠ .full && s.sup.state ≠ .quiet then
    if s.tuners.t1.role = .program && s.tuners.t2.role = .free && !s.tuners.t1.usesOther then some (.t1, .t2)
    else if s.tuners.t2.role = .program && s.tuners.t1.role = .free && !s.tuners.t2.usesOther then some (.t2, .t1)
    else none
  else none

/-- The start of a pairing (R74). -/
def State.startPairing (s : State) (m p : TunerId) : State :=
  let s1 := s.setTuner p { s.tuner p with role := .partner, partnerOf := some m, activity := .partnerHold }
  { s1 with
    tuners.link := .paired
    tuners.interval := if s1.tuners.policy.scan = .interleaved then some (1000 * s1.tuners.policy.interval) else none }

/-- A pairing request meeting the partner's activity (R74). -/
def State.meetPartner (s : State) (m p : TunerId) : State :=
  match (s.tuner p).activity with
  | .none => s.startPairing m p
  | .scanStep =>
    if s.tuners.policy.cancel then (s.cancelScan p).startPairing m p else { s with tuners.link := .requested }
  | _ => { s with tuners.link := .requested }

/-- A pairing request made, met or withdrawn, whatever change brings the moment about (R74). -/
def State.settlePairing (s : State) : State :=
  match s.tuners.link with
  | .none =>
    match s.pairReady with
    | some (m, p) => s.meetPartner m p
    | none => s
  | .requested =>
    match s.pairReady with
    | some (m, p) => s.meetPartner m p
    | none => { s with tuners.link := .none }
  | _ => s

/-- What follows in the Allocator from a change of routes or tuners: fade phases that have ended, then claims on FREE
tuners in the order of R72. -/
def State.arbitrate (s : State) : State :=
  let s1 := s.endFades.reattachWatch
  ((s1.beginCheck .t1).beginCheck .t2).settlePairing

end Sys2Proof.Machine
end

