-- ==== Sys2Proof/Machine/Ops.lean ====
section
/-! DEFINITION. Shared operations over several blocks: opening, retiring and removing routes, announcements and direct
lines, zone volumes, legs and cancellers, the link's entry into and exit from UP, LIMP entry, and the free choice. -/

namespace Sys2Proof.Machine

/-! ## Routes: lookup, opening, removal -/

/-- The route in a slot (R1). -/
def State.routeIn (s : State) (slot : Nat) : Option Route := s.routes.find? (fun r => r.slot = slot)

/-- The live route a handle names (R2). -/
def State.routeOf (s : State) (h : Handle) : Option Route := s.routes.find? (fun r => r.slot = h.slot && r.reuse = h.reuse)

/-- The slots of the live routes among some handles. -/
def State.liveSlots (s : State) (hs : List Handle) : List Nat :=
  (s.routes.filter (fun r => r.handle ∈ hs)).map (fun r => r.slot)

/-- The lowest free slot (R19). -/
def State.freeSlot (s : State) : Option Nat :=
  ((List.range 24).find? (fun i => s.routes.all (fun r => r.slot ≠ i + 1))).map (· + 1)

/-- A route placed in slot order. -/
def insertRoute (r : Route) (rs : List Route) : List Route :=
  match rs with
  | [] => [r]
  | x :: xs => if r.slot < x.slot then r :: x :: xs else x :: insertRoute r xs

/-- The default ramp class of a route class (R18). -/
def ClassRamps.get (c : ClassRamps) (k : RouteClass) : RampClass :=
  match k with
  | .alert => c.alert
  | .call => c.call
  | .prompt => c.prompt
  | .announcement => c.announcement
  | .media => c.media

/-- A route at its opening, before its first state: newest of its domain, at MUTE, its tone at the start (R4, R7, R154). -/
def State.newRoute (s : State) (slot owner : Nat) (z : Zone) (c : RouteClass) (src : Source) (level : Int)
    (ramp : RampClass) (duration : Option Nat) (x : Option TunerId) (cond : Condition) (line : Option (Fin 4)) :
    Route :=
  { slot := slot, reuse := tabGet s.reuse (slot - 1) 0, owner := owner, zone := z, cls := c, source := src,
    level := level, ramp := ramp, maxDuration := duration, state := .pending, cause := none, applied := .mute,
    duck := 0, rank := (s.routes.filter (fun r => r.zone.domain = z.domain)).length + 1, tuner := x, cut := false,
    condition := cond, fadeMark := false, target := none, step := ramp, running := false,
    play :=
      match src with
      | .tone _ => some playStart
      | _ => none
    age := 0, line := line }

/-- The first state a route enters (R7). -/
def State.firstState (s : State) (r : Route) : RouteState :=
  if s.outranked (insertRoute r s.routes) r then .suspended else if s.available r then .rising else .pending

/-- A route entering its first state (R7). -/
def State.firstEntry (s : State) (r : Route) : Route :=
  match s.firstState r with
  | .suspended => r.suspend
  | .rising => s.enterRising r
  | _ => s.enterPending r

/-- A route opened: it enters its first state and precedence is re-run for its domain (R7, R19, R25, R147). -/
def State.openRoute (s : State) (r : Route) : State :=
  let n := s.firstEntry r
  let s1 := { s with routes := insertRoute n s.routes }
  let s2 := if n.zone.domain = .cabinGroup && n.state.sounding then s1.referenceChange else s1
  s2.rerun r.zone.domain

/-- The removal of a route but for the re-run (R14): the slot is free, its reuse count rises, newer ranks of the domain
fall, the Tuner Allocator is told, and the slot is marked where the removal marks (R33). -/
def State.removeRoute (s : State) (slot : Nat) (mark : Bool) : State :=
  match s.routeIn slot with
  | none => s
  | some r =>
    let left := s.routes.filter (fun x => x.slot ≠ slot)
    let ranked :=
      left.map (fun x => if x.zone.domain = r.zone.domain && r.rank < x.rank then { x with rank := x.rank - 1 } else x)
    let s1 := { s with routes := ranked, reuse := tabSet s.reuse (slot - 1) (tabGet s.reuse (slot - 1) 0 + 1) }
    let s2 := s1.releaseRoute r
    if mark then s2.markSlots (slotBit slot) else s2

/-- A route of the list changed. -/
def onSlot (slot : Nat) (f : Route → Route) (rs : List Route) : List Route :=
  rs.map (fun r => if r.slot = slot then f r else r)

/-- One route retired but for the re-run (R21, R30): PENDING and SUSPENDED are removed at once; RISING, PLAYING and
YIELDING enter CLOSING, and are removed at once where they are at MUTE already (R13, R52). `auto`: an auto-retirement,
which marks every change; `own`: ROUTE_RETIRE of the route it names, whose removal at once does not mark (R33). -/
def State.retireSlot (s : State) (auto own : Bool) (slot : Nat) : State :=
  match s.routeIn slot with
  | none => s
  | some r =>
    match r.state with
    | .closing => s
    | .pending => s.removeRoute slot (!own)
    | .suspended => s.removeRoute slot (!own)
    | _ =>
      let s1 := s.putRoutes (onSlot slot Route.close s.routes)
      let s2 := if auto then s1.markSlots (slotBit slot) else s1
      if r.applied = .mute then s2.removeRoute slot true else s2

/-- Routes retired in slot order, with one re-run of each domain concerned (R22, R25, R30). -/
def State.retireSlots (s : State) (auto own : Bool) (slots : List Nat) : State :=
  (slots.foldl (State.retireSlot · auto own) s).rerunAll
    (domainsOf (fun r => r.slot ∈ slots && r.state ≠ .closing) s.routes)

/-- The auto-retirement notice for the live routes among some handles (R30). -/
def State.autoRetire (s : State) (hs : List Handle) : State := s.retireSlots true false (s.liveSlots hs)

/-- A step of a route's ramp, and what its end brings: a CLOSING route is removed at MUTE (R8, R13, R51). -/
def State.rampStepSlot (s : State) (slot : Nat) : State :=
  match s.routeIn slot with
  | none => s
  | some r =>
    if r.running then
      let s1 := s.putRoutes (onSlot slot Route.rampStep s.routes)
      if r.state = .closing && r.rampStep.applied = .mute then (s1.removeRoute slot true).rerun r.zone.domain else s1
    else s

/-! ## Automatic openings (R29) -/

/-- An automatic opening of an ALERT route by a direct line (R29, R157), with its handle. -/
def State.openAlert (s : State) (l : Fin 4) (z : Zone) (pattern : Nat) (level : Int) : State × List Handle :=
  match s.freeSlot with
  | none => (s.raise .autoRefused, [])
  | some k =>
    let r :=
      s.newRoute k 7 z .alert (.tone pattern) level s.defaultRamp.alert (some s.alertMax) none .available (some l)
    (((s.openRoute r).markSlots (slotBit k)).raise .routeAuto, [r.handle])

/-- An automatic opening of an ANNOUNCEMENT route on the watch tuner's program (R29, R101), with its handle. -/
def State.openAnnouncement (s : State) (x : TunerId) (f : Nat) (z : Zone) : State × List Handle :=
  match s.freeSlot with
  | none => (s.raise .autoRefused, [])
  | some k =>
    let cond := (s.tuner x).programCondition
    let s1 := s.setTuner x { s.tuner x with users := (s.tuner x).users + 1 }
    let r :=
      s1.newRoute k 6 z .announcement (.tunerFrequency f) 0 s.defaultRamp.announcement none (some x) cond none
    (((s1.openRoute r).markSlots (slotBit k)).raise .routeAuto, [r.handle])

/-- The zones of a follow set, in order (R101). -/
def ZoneSet.zones (z : ZoneSet) : List Zone :=
  (if z.cabin then [Zone.cabin] else []) ++ (if z.front then [Zone.front] else []) ++
    (if z.driver then [Zone.driver] else []) ++ (if z.hp1 then [Zone.hp1] else []) ++
    (if z.hp2 then [Zone.hp2] else [])

/-- The zones of a line's zone set, in order (R157). -/
def CabinSet.zones (z : CabinSet) : List Zone :=
  (if z.cabin then [Zone.cabin] else []) ++ (if z.front then [Zone.front] else []) ++
    (if z.driver then [Zone.driver] else [])

/-- The start of an announcement (R101). -/
def State.startAnnouncement (s : State) (x : TunerId) (f : Nat) : State :=
  let s0 := { s with stations.announcing := true, stations.announced := [] }
  s.stations.follow.zones.foldl
    (fun t z =>
      let (u, hs) := t.openAnnouncement x f z
      { u with stations.announced := u.stations.announced ++ hs }) s0

/-- The end of an announcement (R102). -/
def State.endAnnouncement (s : State) : State :=
  if s.stations.announcing then
    let t := s.autoRetire s.stations.announced
    { t with stations.announced := [], stations.announcing := false }
  else s

/-- The watch's end told to the Station Table (R100). -/
def State.watchEnded (s : State) : State := { s with stations.watch := none }.endAnnouncement

/-- An assertion of a direct line (R157). -/
def State.assertLine (s : State) (i : Fin 4) : State :=
  let l := s.lines.get i
  let s0 := { s with lines := s.lines.set i { l with state := .asserted, timer := none, routes := [] } }
  if l.enabled && (s.sup.state ≠ .quiet || l.quiet) then
    l.zones.zones.foldl
      (fun t z =>
        let (u, hs) := t.openAlert i z l.pattern l.level
        { u with lines := u.lines.set i { u.lines.get i with routes := (u.lines.get i).routes ++ hs } }) s0
  else s0

/-- A release of a direct line (R158). -/
def State.releaseLine (s : State) (i : Fin 4) : State :=
  let l := s.lines.get i
  let s1 := s.autoRetire l.routes
  { s1 with lines := s1.lines.set i { s1.lines.get i with state := .released, timer := none, routes := [] } }

/-- Whether a pin level means asserted (R156). -/
def Line.assertedBy (l : Line) (level : Bool) : Bool := level != l.activeLow

/-- Whether a line state counts as asserted for the debounce (R156). -/
def LineState.isAsserted (l : LineState) : Bool := l ≠ .released

/-! ## Zone volumes -/

/-- A zone's volume step set, its routes re-aimed at NORMAL if it changes (R50, R58). -/
def State.setVolume (s : State) (z : Zone) (v : Nat) : State :=
  if (s.mixer.zone z).volume = v then s
  else
    let s1 := { s with mixer := s.mixer.setZone z { s.mixer.zone z with volume := v } }
    s1.retargetWhere (fun r => r.zone = z) .normal

/-- A step moved by a change, fitted to 0 and a limit (R58, R115). -/
def movedStep (v : Nat) (change : Int) (limit : Nat) : Nat := (fit 0 limit ((v : Int) + change)).toNat

/-- The follow rule on one HP zone (R115). -/
def State.followOne (s : State) (z : Zone) (change : Int) : State :=
  let r := s.mixer.zone z
  if r.follow then s.setVolume z (movedStep r.volume change r.cap) else s

/-- A CABIN change handed to the follow rule (R115). -/
def State.follow (s : State) (change : Int) : State :=
  if change = 0 then s else (s.followOne .hp1 change).followOne .hp2 change

/-- A zone's volume step set by ZONE_VOLUME or the limp lowering, a CABIN change handed on (R58, R61). -/
def State.setVolumeAndFollow (s : State) (z : Zone) (v : Nat) : State :=
  let old := (s.mixer.zone z).volume
  let s1 := s.setVolume z v
  if z = .cabin then s1.follow ((v : Int) - (old : Int)) else s1

/-- The limp lowering of a cabin-group zone (R61). -/
def State.lowerZone (s : State) (z : Zone) : State :=
  if s.sup.limpVolume < (s.mixer.zone z).volume then s.setVolumeAndFollow z s.sup.limpVolume else s

/-! ## LIMP (R163) -/

/-- Entry into LIMP: the re-run of all domains, the limp lowering, the LIMP condition (R163). -/
def State.enterLimp (s : State) : State :=
  let s1 := { s with sup := { s.sup with state := .limp, left := none } }
  let s2 := s1.rerunAll [.cabinGroup, .hp1, .hp2]
  let s3 := ((s2.lowerZone .cabin).lowerZone .front).lowerZone .driver
  (s3.raise .limp).arbitrate

/-! ## Legs and microphones (chapter 7) -/

/-- The ACTIVE leg (R136). -/
def Calls.active (c : Calls) : Option Leg := c.legs.find? (fun l => l.state = .active)

/-- Whether a microphone is included in the uplink (R144). -/
def Calls.included (c : Calls) (x : Seat) : Bool :=
  let m := c.mics.get (seatIndex x)
  (match c.active with
    | some l => l.seats.has x
    | none => false) && m.check = none && m.health = .normal

/-- Whether the uplink runs (R149). -/
def State.uplinkRuns (s : State) : Bool := s.calls.active.isSome && s.phone.link = .up

/-- A microphone dropped from the uplink: its check abandoned, its canceller IDLE with its filter cleared (R144, R148). -/
def Mic.dropped (m : Mic) : Mic :=
  { m with check := none, canceller := .idle, sustain := 0, divergence := 0, filterEmpty := true, remembered := none }

/-- The microphones changed seat by seat. -/
def Calls.onSeats (c : Calls) (p : Seat → Bool) (f : Mic → Mic) : Calls :=
  { c with
    mics :=
      allSeats.foldl (fun q x => if p x then q.set (seatIndex x) (f (q.get (seatIndex x))) else q) c.mics }

/-- Some microphones dropped from the uplink; leaving CONVERGED raises ECHO_STATE (R144, R146, R148). -/
def State.dropSeats (s : State) (p : Seat → Bool) : State :=
  { s with calls := s.calls.onSeats p Mic.dropped }.raiseIf
    (allSeats.any (fun x => p x && (s.calls.mics.get (seatIndex x)).canceller = Canceller.converged)) .echoState

/-- Checks of some microphones started (R143). -/
def State.startChecks (s : State) (p : Seat → Bool) : State :=
  { s with calls := s.calls.onSeats p (fun m => { m with check := some 100 }) }

/-- A leg of the list changed. -/
def Calls.updateLeg (c : Calls) (id : Nat) (f : Leg → Leg) : Calls :=
  { c with legs := c.legs.map (fun l => if l.id = id then f l else l) }

/-- A leg's state told to the Route Table (R140): the ring ends outside RINGING (R155), the leg's routes take the new
condition, and precedence is re-run in their domains (R25). -/
def State.legNotice (s : State) (id : Nat) (reuse : Byte) : State :=
  s.notice (fun r => r.source = .leg id reuse)
    (fun r => s.refresh (if s.legIs r .ringing then r else { r with play := none }))

/-- A leg put on hold (R139): its checks abandoned, its cancellers IDLE, the notice to its routes. -/
def State.holdLeg (s : State) (l : Leg) : State :=
  let s1 := if l.state = .active then s.dropSeats l.seats.has else s
  let s2 := { s1 with calls := s1.calls.updateLeg l.id (fun x => { x with state := .held }) }
  s2.legNotice l.id l.reuse

/-- Any other ACTIVE leg put on hold, LEG_CHANGE raised for it (R138, R139). -/
def State.holdActive (s : State) : State :=
  match s.calls.active with
  | some l => (s.holdLeg l).raise .legChange
  | none => s

/-! ## The link's entry into and exit from UP (R132, R148) -/

/-- A canceller entering CONVERGING from an empty filter (R145, R148). -/
def Mic.converge (mode : Option Mode) (m : Mic) : Mic :=
  { m with
    canceller := .converging, sustain := 0, divergence := 0, filterEmpty := true, lastMode := mode, remembered := none }

/-- A canceller at the link's entry into UP in a mode (R148). -/
def Mic.linkUp (included : Bool) (mode : Option Mode) (m : Mic) : Mic :=
  match m.canceller with
  | .idle => if included then m.converge mode else m
  | .frozen =>
    if m.lastMode = mode then
      { m with
        canceller := if m.remembered = some true then .converged else .converging
        sustain := 0, divergence := 0, lastMode := mode, remembered := none }
    else m.converge mode
  | _ => m

/-- A canceller when the link leaves UP (R148). -/
def Mic.linkDown (m : Mic) : Mic :=
  match m.canceller with
  | .converging => { m with canceller := .frozen, remembered := some false }
  | .converged => { m with canceller := .frozen, remembered := some true }
  | _ => m

/-- The Call Processor at the link's entry into UP (R148); a restored CONVERGED raises ECHO_STATE (R146). -/
def State.callsLinkUp (s : State) : State :=
  let c := allSeats.foldl (fun c x => c.onSeats (· = x) (Mic.linkUp (s.calls.included x) s.phone.mode)) s.calls
  { s with calls := c }.raiseIf (!s.calls.anyConverged && c.anyConverged) .echoState

/-- The Call Processor when the link leaves UP (R148); leaving CONVERGED raises ECHO_STATE (R146). -/
def State.callsLinkDown (s : State) : State :=
  { s with calls.mics := s.calls.mics.map Mic.linkDown }.raiseIf s.calls.anyConverged .echoState

/-- The link's change told to the Route Table: routes on an ACTIVE leg take their new condition (R5, R9, R10). -/
def State.routesLink (s : State) : State := s.notice (fun r => s.legIs r .active) s.refresh

/-- Two notices whose order is open, taken in the order a free value picks (R132; log entry 4). -/
def State.eitherOrder (s : State) (callsFirst routesFirst : State → State) : State :=
  let t := { s with freeCount := s.freeCount + 1 }
  if Config.callProcessorFirst s.freeCount then callsFirst t else routesFirst t

/-- The notices at the link's entry into UP. -/
def State.noticeUp (s : State) : State :=
  s.eitherOrder (fun t => t.callsLinkUp.routesLink.arbitrate) (fun t => t.routesLink.callsLinkUp.arbitrate)

/-- The notices at the link's exit from UP. -/
def State.noticeNotUp (s : State) : State :=
  s.eitherOrder (fun t => t.callsLinkDown.routesLink.arbitrate) (fun t => t.routesLink.callsLinkDown.arbitrate)

/-- The phone port's record replaced: PHONE_LINK at a change of link state or at a fault turning set, and the notices of
an entry into or exit from UP (R132). -/
def State.setPhone (s : State) (p : Phone) : State :=
  let o := s.phone
  let rose :=
    o.link ≠ p.link || (!o.ownFault && p.ownFault) || (!o.detectionFault && p.detectionFault) ||
      (!o.partnerFault && p.partnerFault)
  let s1 := { s with phone := p }.raiseIf rose .phoneLink
  if o.link ≠ .up && p.link = .up then s1.noticeUp
  else if o.link = .up && p.link ≠ .up then s1.noticeNotUp
  else s1

end Sys2Proof.Machine
end

