-- ==== Sys2Proof/Machine/Load.lean ====
section
/-! DEFINITION. Reset and start-up (R174): the load of the Settings Store (R183, R184), the starting values of every
block, the abort of a row write (R186), and the start-up response. -/

namespace Sys2Proof.Machine

/-! ## Rows -/

/-- The data bytes of a row in order. -/
def StoreRow.bytes (r : StoreRow) : List Byte := (List.range 15).map (fun i => tabGet r.data i 0)

/-- A row is good when its check byte equals the CRC-8 of its data (R182). -/
def StoreRow.good (r : StoreRow) : Bool := r.check = crc8 r.bytes

/-- A row that holds fifteen bytes and the check byte the part computes over them (R185, R186). -/
def StoreRow.written (data : Vector Byte 15) : StoreRow :=
  { data := data, check := crc8 (StoreRow.bytes { data := data, check := 0 }) }

/-- Row `k` of the store. -/
def Store.row (s : Store) (k : Nat) : StoreRow := tabGet s.rows k { data := tabOf 15 (fun _ => 0), check := 0 }

/-- The data of row `k` if the row is good. -/
def Store.goodRow (s : Store) (k : Nat) : Option (List Byte) :=
  if (s.row k).good then some (s.row k).bytes else none

/-- The defective rows of the store (R183). -/
def Store.defects (s : Store) : BitVec 31 :=
  (List.range 31).foldl (fun d k => if (s.row k).good then d else d ||| (1#31 <<< k)) 0

/-- The number of rows in a defect set. -/
def defectCount (d : BitVec 31) : Nat := (List.range 31).countP (fun k => d.getLsbD k)

/-- A field read from a good row, its built-in value for a defective one (R183). -/
def fieldOf {α : Type} (row : Option (List Byte)) (builtIn : α) (read : List Byte → α) : α :=
  match row with
  | some p => read p
  | none => builtIn

/-- What an aborted write leaves of a row: free bytes and a check byte that does not match (R186; log entry 7). -/
def tornRow (free : Nat) : StoreRow :=
  let data := tabOf 15 (Config.tornByte free)
  let good := StoreRow.written data
  let x := Config.tornCheck free
  { data := data, check := good.check ^^^ (if x = 0 then 1 else x) }

/-- A row write in progress aborted (R186). -/
def State.abortWrite (s : State) : State :=
  match s.store.writer with
  | none => s
  | some w =>
    { s with
      store := { s.store with rows := tabSet s.store.rows w.row (tornRow s.freeCount), writer := none }
      freeCount := s.freeCount + 1 }

/-! ## Row 0: general -/

/-- Watchdog period (R162). -/
def loadPeriod (row : Option (List Byte)) : Period := fieldOf row .ms1000 (fun p => (periodOf (u8At p 0)).getD .ms1000)

/-- Limp volume (R162). -/
def loadLimpVolume (row : Option (List Byte)) : Nat := fieldOf row 20 (fun p => min 40 (u8At p 1))

/-- Safe start volume (R112). -/
def loadSafeStart (row : Option (List Byte)) : Nat := fieldOf row 15 (fun p => min 40 (u8At p 2))

/-- The cap of HP1 (byte 3) or HP2 (byte 4) (R35). -/
def loadCap (row : Option (List Byte)) (i : Nat) : Nat := fieldOf row 32 (fun p => min 40 (u8At p i))

/-- Alert floor (R42). -/
def loadFloor (row : Option (List Byte)) : Int := fieldOf row (-120) (fun p => fit (-240) 0 (i16At p 5))

/-- Alert maximum duration in force (R160). -/
def loadAlertMax (row : Option (List Byte)) : Nat := fieldOf row 30 (fun p => fitNat 1 120 (u8At p 7))

/-! ## Rows 1 to 4 -/

/-- The duck depths (R40). -/
def loadDepths (row : Option (List Byte)) : DuckDepths :=
  fieldOf row { alert := 40, call := 24, prompt := 48 }
    (fun p => { alert := min 240 (u8At p 0), call := min 240 (u8At p 1), prompt := min 240 (u8At p 2) })

/-- The default ramp classes (R18, R40, R184). -/
def loadRamps (row : Option (List Byte)) : ClassRamps :=
  fieldOf row { alert := .fast, call := .normal, prompt := .normal, announcement := .normal, media := .slow }
    (fun p =>
      { alert := (rampOf (u8At p 3)).getD .fast
        call := (rampOf (u8At p 4)).getD .normal
        prompt := (rampOf (u8At p 5)).getD .normal
        announcement := (rampOf (u8At p 6)).getD .normal
        media := (rampOf (u8At p 7)).getD .slow })

/-- The Thermal Derating Unit after a reset (R43, R184). -/
def loadThermal (row : Option (List Byte)) : Thermal :=
  { source := fieldOf row .internal (fun p => if u8At p 0 = 1 then .external else .internal)
    external := 25, reading := 25
    knee := fieldOf row 95 (fun p => fitNat 60 120 (u8At p 1))
    slope := fieldOf row 5 (fun p => fitNat 1 15 (u8At p 2))
    computed := 0, derate := 0, recovery := 0 }

/-- The tuner policy (R64): a code outside its set takes the built-in value, a number is fitted. -/
def loadPolicy (row : Option (List Byte)) : TunerPolicy :=
  { diversity := fieldOf row true (fun p => u8At p 0 ≠ 0)
    cancel := fieldOf row false (fun p => u8At p 1 = 1)
    scan := fieldOf row .interleaved (fun p => (scanPolicyOf (u8At p 2)).getD .interleaved)
    interval := fieldOf row 4 (fun p => fitNat 1 60 (u8At p 3))
    hysteresis := fieldOf row 6 (fun p => min 30 (u8At p 7)) }

/-- B_low (R89, R184). -/
def loadBLow (row : Option (List Byte)) : Nat := fieldOf row 20 (fun p => min 120 (u8At p 4))

/-- B_high, raised to B_low (R89, R184). -/
def loadBHigh (row : Option (List Byte)) : Nat := fieldOf row 40 (fun p => max (min 120 (u8At p 4)) (min 120 (u8At p 5)))

/-- Retire limit (R89). -/
def loadRetire (row : Option (List Byte)) : Nat := fieldOf row 3 (fun p => fitNat 1 15 (u8At p 6))

/-- The stored set of phone modes (R120). -/
def loadModes (row : Option (List Byte)) : ModeSet :=
  fieldOf row ⟨true, true, true⟩
    (fun p => if u8At p 0 = 0 ∨ 7 < u8At p 0 then ⟨true, true, true⟩ else modeSetOf (u8At p 0))

/-- Echo target (R137). -/
def loadEchoTarget (row : Option (List Byte)) : Nat := fieldOf row 18 (fun p => fitNat 10 30 (u8At p 1))

/-- Default microphone gain (R137). -/
def loadMicGain (row : Option (List Byte)) : Nat := fieldOf row 24 (fun p => min 96 (u8At p 2))

/-! ## Rows 5 to 22: lines and tones -/

/-- A direct line after a reset, its pin at a level: the state as sampled (R156, R184). Bits 5 to 7 of a stored zone set
are dropped (DESIGN CHOICE, log entry 39). -/
def loadLine (row : Option (List Byte)) (n base : Nat) (level : Bool) : Line :=
  let l :=
    fieldOf row (builtInLine n)
      (fun p =>
        { enabled := u8At p base ≠ 0
          activeLow := u8At p (base + 1) ≠ 0
          pattern := if 15 < u8At p (base + 2) then n else u8At p (base + 2)
          zones := cabinSetOf (u8At p (base + 3))
          level := -((min 240 (u8At p (base + 4)) : Nat) : Int)
          quiet := u8At p (base + 5) ≠ 0
          state := .released, timer := none, routes := [] })
  { l with state := if l.assertedBy level then .asserted else .released }

/-- A segment of a stored pattern (R153, R184). -/
def loadSegment (p : List Byte) (base : Nat) : Segment :=
  { frequency := if u16At p base = 0 then 0 else fitNat 200 4000 (10 * u16At p base)
    duration := if u8At p (base + 2) = 0 then 10 else 10 * u8At p (base + 2)
    level := min 160 (u8At p (base + 3)) }

/-- A stored pattern (R153). -/
def loadPattern (row : Option (List Byte)) : Pattern :=
  fieldOf row builtInPattern
    (fun p =>
      { s1 := loadSegment p 0, s2 := loadSegment p 4, s3 := loadSegment p 8, gap := 10 * u8At p 12
        repeats := u8At p 13 })

/-! ## Rows 23 to 30: curve, map, zones -/

/-- The volume curve: its three rows stand or fall together (R37). -/
def Store.loadCurve (s : Store) : Vector Nat 41 :=
  match s.goodRow 23, s.goodRow 24, s.goodRow 25 with
  | some p, some q, some r =>
    tabOf 41 (fun v => if v < 15 then u8At p v else if v < 30 then u8At q (v - 15) else u8At r (v - 30))
  | _, _, _ => builtInCurve

/-- A speaker map entry from its byte; none where it gives the built-in entry (R184). -/
def speakerOf (b : Nat) : Option Speaker :=
  let side : Option Side :=
    match b % 4 with
    | 0 => some .left
    | 1 => some .right
    | 2 => some .centre
    | _ => none
  let row : Option Row :=
    match b / 4 % 4 with
    | 0 => some .front
    | 1 => some .rear
    | 2 => some .none
    | _ => none
  match side, row with
  | some x, some y => if 127 < b then none else some { side := x, row := y, member := cabinSetOf (b / 16) }
  | _, _ => none

/-- The speaker map (R36, R184). -/
def Store.loadMap (s : Store) : Vector Speaker 20 :=
  tabOf 20 (fun i =>
    let b := tabGet builtInMap i ⟨.centre, .none, ⟨false, false, false⟩⟩
    fieldOf (s.goodRow (26 + i / 7)) b (fun p => (speakerOf (u8At p (i % 7))).getD b))

/-- A volume step of row 29, fitted to its zone's limit (R35). -/
def loadVolume (row : Option (List Byte)) (i limit : Nat) : Nat :=
  min limit (fieldOf row 15 (fun p => min 40 (u8At p i)))

/-- A balance or fade of row 29 (R35). -/
def loadBalance (row : Option (List Byte)) (i : Nat) : Int := fieldOf row 0 (fun p => fit (-10) 10 (i8At p i))

/-- A follow flag of row 30 (R35). -/
def loadFollow (row : Option (List Byte)) (i : Nat) : Bool := fieldOf row false (fun p => u8At p i ≠ 0)

/-- The Zone Mixer after a reset (R35 to R37, R39, R40, R42). -/
def Store.loadMixer (s : Store) : Mixer :=
  let cap1 := loadCap (s.goodRow 0) 3
  let cap2 := loadCap (s.goodRow 0) 4
  let r := s.goodRow 29
  Mixer.settleWeights
    { cabin := { volume := loadVolume r 0 40, balance := loadBalance r 5, fade := loadBalance r 6, cap := 0, follow := false }
      front := { volume := loadVolume r 1 40, balance := loadBalance r 7, fade := 0, cap := 0, follow := false }
      driver := { volume := loadVolume r 2 40, balance := 0, fade := 0, cap := 0, follow := false }
      hp1 := { volume := loadVolume r 3 cap1, balance := 0, fade := 0, cap := cap1, follow := loadFollow (s.goodRow 30) 0 }
      hp2 := { volume := loadVolume r 4 cap2, balance := 0, fade := 0, cap := cap2, follow := loadFollow (s.goodRow 30) 1 }
      curve := s.loadCurve
      depths := loadDepths (s.goodRow 1)
      alertFloor := loadFloor (s.goodRow 0)
      map := s.loadMap
      wCabin := tabOf 20 (fun _ => 0)
      wFront := tabOf 20 (fun _ => 0)
      wDriver := tabOf 20 (fun _ => 0) }

/-! ## Start-up (R174) -/

/-- The Phone Audio Port after a reset (R120). -/
def Phone.initial (stored : ModeSet) : Phone :=
  { link := .down, mode := none, negotiated := false, selected := none, stored := stored, inUse := stored,
    clock := false, rate := .none, upRate := none, runWord := none, runCount := 0, partner := none,
    ownFault := false, detectionFault := false, partnerFault := false, silence := none, holdOff := none,
    wordCount := 0 }

/-- The Station Table after a reset (R89). -/
def Stations.initial (plan : BandPlan) (row : Option (List Byte)) : Stations :=
  { records := [], inUse := [], fullRaised := [], cursor := bandLow plan, returned := [], reserved1 := none,
    reserved2 := none, round := 0, retire := loadRetire row, bLow := loadBLow row, bHigh := loadBHigh row,
    follow := ⟨false, false, false, false, false⟩, watch := none, announcing := false, announced := [] }

/-- Every record at its starting value, before the lines sampled as asserted act (R6, R174, R183). The pins, the
waiting commands, the rows and the write count are kept. -/
def State.startingValues (s : State) (kind : ResetKind) (plan : BandPlan) : State :=
  let t := s.store
  { pending := s.pending
    freeCount := s.freeCount
    pins := s.pins
    port :=
      { phase := .startUp, requestBuffer := [], buffer := .empty, rearLock := false, resetPending := none,
        resetKind := kind, sdo := s.port.sdo }
    routes := []
    reuse := tabOf 24 (fun _ => 0)
    defaultRamp := loadRamps (t.goodRow 1)
    alertMax := loadAlertMax (t.goodRow 0)
    mixer := t.loadMixer
    thermal := loadThermal (t.goodRow 2)
    tuners :=
      { plan := plan, t1 := .free, t2 := .free, link := .none, interval := none, watch := none, waiting := []
        policy := loadPolicy (t.goodRow 3), report := .never }
    stations := Stations.initial plan (t.goodRow 3)
    jacks :=
      { j1 := { present := s.pins.hpDet1, timer := none }, j2 := { present := s.pins.hpDet2, timer := none }
        safeStart := loadSafeStart (t.goodRow 0) }
    phone := Phone.initial (loadModes (t.goodRow 4))
    calls :=
      { legs := [], reuse := tabOf 3 (fun _ => 0), mics := ⟨.initial, .initial, .initial, .initial⟩
        echoTarget := loadEchoTarget (t.goodRow 4), defaultGain := loadMicGain (t.goodRow 4) }
    tones := tabOf 16 (fun n => loadPattern (t.goodRow (7 + n)))
    lines :=
      ⟨loadLine (t.goodRow 5) 0 0 (s.pins.alertIn.get 0), loadLine (t.goodRow 5) 1 6 (s.pins.alertIn.get 1),
        loadLine (t.goodRow 6) 2 0 (s.pins.alertIn.get 2), loadLine (t.goodRow 6) 3 6 (s.pins.alertIn.get 3)⟩
    sup := { state := .run, period := loadPeriod (t.goodRow 0), left := none, limpVolume := loadLimpVolume (t.goodRow 0) }
    events := { flags := 0, mask := 0, station := false, lineB := builtInLineB, enable := 0x3FFFF#18 }
    store := { t with defect := t.defects, writer := none } }

/-- A line sampled as asserted at start-up is treated as an assertion, if it is enabled (R156). -/
def State.assertSampled (s : State) (i : Fin 4) : State :=
  if (s.lines.get i).enabled && (s.lines.get i).state = .asserted then s.assertLine i else s

/-- The beginning of start-up (R174): the store loads, every block takes its starting values, the detectors and lines
sample their inputs, STORE_DEFECT is raised where the defect set is not empty (R178, R183). The lines sampled as asserted
are treated in the order 0, 1, 2, 3 (DESIGN CHOICE, log entry 37: R156 gives no order, and it decides the slots and
handles of the lines' routes). -/
def State.startUp (s : State) (kind : ResetKind) (plan : BandPlan) : State :=
  let s1 := s.abortWrite.startingValues kind plan
  let s2 := s1.raiseIf (s1.store.defect ≠ 0) .storeDefect
  (((s2.assertSampled 0).assertSampled 1).assertSampled 2).assertSampled 3

/-- The code of a reset kind (R174, R176). -/
def ResetKind.code (k : ResetKind) : Nat :=
  match k with
  | .powerOn => 0
  | .part => 1

/-- The start-up response (R174). -/
def State.startUpResponse (s : State) : List Byte :=
  response 0 .ok (u8 s.port.resetKind.code ++ u8 (bandCode s.tuners.plan) ++ u8 (defectCount s.store.defect))

/-- The pending part reset takes effect (R175): routes are left without ramps, a write is aborted, start-up begins. -/
def State.partReset (s : State) : State := s.startUp .part s.tuners.plan

end Sys2Proof.Machine
end

