-- ==== Sys2Proof/Machine/Port.lean ====
section
/-! DEFINITION. The Command Port (chapter 9): the catalogue, the checks of a request, its response, the watchdog's share
in it, and the read transfer. -/

namespace Sys2Proof.Machine

/-- What the rear-seat checks ask of a request of client 2 whether or not the lock is set (R117): nothing, a zone byte of
HP1 or HP2, or that it is never made. -/
inductive RearRule where
  | free | hpZone | never
  deriving DecidableEq, Repr

/-- A request of the catalogue (9.6): its code, whether LIMP and QUIET take it, whether it is a query (R117). -/
structure Request where
  code : Byte
  limp : Bool
  quiet : Bool
  query : Bool
  rear : RearRule
  deriving DecidableEq, Repr

/-! ## The catalogue (9.6) -/

/-- ROUTE_OPEN. -/
def Request.routeOpen : Request :=
  { code := 0x10#8, limp := false, quiet := false, query := false, rear := .hpZone }

/-- ROUTE_LEVEL. -/
def Request.routeLevel : Request :=
  { code := 0x11#8, limp := false, quiet := true, query := false, rear := .free }

/-- ROUTE_RETIRE. -/
def Request.routeRetire : Request :=
  { code := 0x12#8, limp := true, quiet := true, query := false, rear := .free }

/-- RETIRE_OWNER. -/
def Request.retireOwner : Request :=
  { code := 0x13#8, limp := true, quiet := true, query := false, rear := .free }

/-- ROUTE_GET. -/
def Request.routeGet : Request :=
  { code := 0x14#8, limp := true, quiet := true, query := true, rear := .free }

/-- ROUTE_LIST. -/
def Request.routeList : Request :=
  { code := 0x15#8, limp := true, quiet := true, query := true, rear := .free }

/-- ZONE_VOLUME. -/
def Request.zoneVolume : Request :=
  { code := 0x20#8, limp := false, quiet := true, query := false, rear := .hpZone }

/-- ZONE_BALANCE. -/
def Request.zoneBalance : Request :=
  { code := 0x21#8, limp := false, quiet := true, query := false, rear := .never }

/-- ZONE_GET. -/
def Request.zoneGet : Request :=
  { code := 0x22#8, limp := true, quiet := true, query := true, rear := .free }

/-- DUCK_DEPTHS. -/
def Request.duckDepths : Request :=
  { code := 0x23#8, limp := false, quiet := true, query := false, rear := .free }

/-- TEMPERATURE. -/
def Request.temperature : Request :=
  { code := 0x24#8, limp := false, quiet := true, query := false, rear := .free }

/-- DERATE_SET. -/
def Request.derateSet : Request :=
  { code := 0x25#8, limp := false, quiet := true, query := false, rear := .free }

/-- TUNER_POLICY. -/
def Request.tunerPolicy : Request :=
  { code := 0x30#8, limp := false, quiet := true, query := false, rear := .free }

/-- TRAFFIC_WATCH. -/
def Request.trafficWatch : Request :=
  { code := 0x31#8, limp := false, quiet := true, query := false, rear := .free }

/-- QUALITY_LIMITS. -/
def Request.qualityLimits : Request :=
  { code := 0x32#8, limp := false, quiet := true, query := false, rear := .free }

/-- TUNER_GET. -/
def Request.tunerGet : Request :=
  { code := 0x33#8, limp := true, quiet := true, query := true, rear := .free }

/-- STATION_LIST. -/
def Request.stationList : Request :=
  { code := 0x40#8, limp := true, quiet := true, query := true, rear := .free }

/-- STATION_GET. -/
def Request.stationGet : Request :=
  { code := 0x41#8, limp := true, quiet := true, query := true, rear := .free }

/-- STATION_PIN. -/
def Request.stationPin : Request :=
  { code := 0x42#8, limp := false, quiet := true, query := false, rear := .free }

/-- STATION_FORGET. -/
def Request.stationForget : Request :=
  { code := 0x43#8, limp := false, quiet := true, query := false, rear := .free }

/-- STATION_ADD. -/
def Request.stationAdd : Request :=
  { code := 0x44#8, limp := false, quiet := true, query := false, rear := .free }

/-- STATION_AGING. -/
def Request.stationAging : Request :=
  { code := 0x45#8, limp := false, quiet := true, query := false, rear := .free }

/-- ANNOUNCE_FOLLOW. -/
def Request.announceFollow : Request :=
  { code := 0x46#8, limp := false, quiet := true, query := false, rear := .free }

/-- HP_CAP. -/
def Request.hpCap : Request :=
  { code := 0x50#8, limp := false, quiet := true, query := false, rear := .never }

/-- HP_FOLLOW. -/
def Request.hpFollow : Request :=
  { code := 0x51#8, limp := false, quiet := true, query := false, rear := .free }

/-- REAR_LOCK. -/
def Request.rearLock : Request :=
  { code := 0x52#8, limp := false, quiet := true, query := false, rear := .never }

/-- PHONE_ADVERTISE. -/
def Request.phoneAdvertise : Request :=
  { code := 0x60#8, limp := false, quiet := true, query := false, rear := .free }

/-- PHONE_RESTART. -/
def Request.phoneRestart : Request :=
  { code := 0x61#8, limp := false, quiet := false, query := false, rear := .free }

/-- PHONE_GET. -/
def Request.phoneGet : Request :=
  { code := 0x62#8, limp := true, quiet := true, query := true, rear := .free }

/-- LEG_OPEN. -/
def Request.legOpen : Request :=
  { code := 0x70#8, limp := false, quiet := false, query := false, rear := .free }

/-- LEG_STATE. -/
def Request.legState : Request :=
  { code := 0x71#8, limp := true, quiet := true, query := false, rear := .free }

/-- LEG_SEATS. -/
def Request.legSeats : Request :=
  { code := 0x72#8, limp := false, quiet := true, query := false, rear := .free }

/-- LEG_UPLINK. -/
def Request.legUplink : Request :=
  { code := 0x73#8, limp := false, quiet := true, query := false, rear := .free }

/-- LEG_CLOSE. -/
def Request.legClose : Request :=
  { code := 0x74#8, limp := true, quiet := true, query := false, rear := .free }

/-- LEG_GET. -/
def Request.legGet : Request :=
  { code := 0x75#8, limp := true, quiet := true, query := true, rear := .free }

/-- ECHO_TARGET. -/
def Request.echoTarget : Request :=
  { code := 0x76#8, limp := false, quiet := true, query := false, rear := .free }

/-- ALERT_LIMITS. -/
def Request.alertLimits : Request :=
  { code := 0x80#8, limp := false, quiet := true, query := false, rear := .free }

/-- DIRECT_LINE_GET. -/
def Request.directLineGet : Request :=
  { code := 0x81#8, limp := true, quiet := true, query := true, rear := .free }

/-- WATCHDOG. -/
def Request.watchdog : Request :=
  { code := 0x82#8, limp := false, quiet := true, query := false, rear := .free }

/-- KEEPALIVE. -/
def Request.keepalive : Request :=
  { code := 0x83#8, limp := false, quiet := true, query := false, rear := .free }

/-- RESUME. -/
def Request.resume : Request :=
  { code := 0x84#8, limp := true, quiet := false, query := false, rear := .free }

/-- QUIET_ENTER. -/
def Request.quietEnter : Request :=
  { code := 0x85#8, limp := false, quiet := true, query := false, rear := .free }

/-- QUIET_EXIT. -/
def Request.quietExit : Request :=
  { code := 0x86#8, limp := false, quiet := true, query := false, rear := .free }

/-- EVENT_FETCH. -/
def Request.eventFetch : Request :=
  { code := 0x90#8, limp := true, quiet := true, query := false, rear := .free }

/-- EVENT_ROUTING. -/
def Request.eventRouting : Request :=
  { code := 0x91#8, limp := false, quiet := true, query := false, rear := .free }

/-- STORE_READ. -/
def Request.storeRead : Request :=
  { code := 0xA0#8, limp := true, quiet := true, query := false, rear := .free }

/-- STORE_WRITE. -/
def Request.storeWrite : Request :=
  { code := 0xA1#8, limp := false, quiet := true, query := false, rear := .free }

/-- PART_INFO. -/
def Request.partInfo : Request :=
  { code := 0xF0#8, limp := true, quiet := true, query := false, rear := .free }

/-- PART_RESET. -/
def Request.partReset : Request :=
  { code := 0xF1#8, limp := true, quiet := true, query := false, rear := .free }

/-- The catalogue (9.6). -/
def catalogue : List Request :=
  [ .routeOpen, .routeLevel, .routeRetire, .retireOwner, .routeGet,
    .routeList, .zoneVolume, .zoneBalance, .zoneGet, .duckDepths,
    .temperature, .derateSet, .tunerPolicy, .trafficWatch, .qualityLimits,
    .tunerGet, .stationList, .stationGet, .stationPin, .stationForget,
    .stationAdd, .stationAging, .announceFollow, .hpCap, .hpFollow,
    .rearLock, .phoneAdvertise, .phoneRestart, .phoneGet, .legOpen,
    .legState, .legSeats, .legUplink, .legClose, .legGet,
    .echoTarget, .alertLimits, .directLineGet, .watchdog, .keepalive,
    .resume, .quietEnter, .quietExit, .eventFetch, .eventRouting,
    .storeRead, .storeWrite, .partInfo, .partReset ]

/-- Whether a code is in the catalogue (R172). -/
def inCatalogue (code : Byte) : Bool := catalogue.any (fun k => k.code = code)

/-! ## The checks of R172 -/

/-- The rear-seat checks (R117); a payload without the byte examined passes. -/
def Request.rearRefuses (k : Request) (locked : Bool) (client : Byte) (payload : List Byte) : Bool :=
  client = 2 &&
    ((locked && !k.query) ||
      match k.rear with
      | .free => false
      | .never => true
      | .hpZone =>
        match payload with
        | [] => false
        | z :: _ => z ≠ 3 && z ≠ 4)

/-- Checks 2 to 4 of R172 for a request of the catalogue: the result of the first that fails. -/
def State.gate (s : State) (k : Request) (client : Byte) (payload : List Byte) : Option Result :=
  if 5 < client.toNat then some .badArgument
  else if s.sup.state = .limp && !k.limp then some .limp
  else if s.sup.state = .quiet && !k.quiet then some .quiet
  else if k.rearRefuses s.port.rearLock client payload then some .notPermitted
  else none

/-! ## Transfers -/

/-- Zero bytes on SDO. -/
def zeroBytes (n : Nat) : List Byte := List.replicate n 0

/-- Whether a request transfer is taken (R168): the part runs and no part reset is pending. -/
def State.takesRequests (s : State) : Bool := s.port.phase = .running && s.port.resetPending.isNone

/-- A transfer ignored whole: SDO carries zero bytes (R168). -/
def State.ignoreTransfer (s : State) (n : Nat) : State := { s with port.sdo := zeroBytes n }

/-- The frame received and its response placed (R168, R170). -/
def State.answered (s : State) (frame resp : List Byte) : State :=
  { s with port := { s.port with requestBuffer := frame, buffer := .unread resp, sdo := zeroBytes frame.length } }

/-- What a valid request does to the watchdog (R162). -/
def State.validRequest (s : State) : State :=
  match s.sup.state, s.sup.period.ms with
  | .run, some ms => { s with sup.left := some ms }.raiseIf s.sup.left.isNone .watchdogArmed
  | _, _ => s

/-- The owning block's answer: the state it leaves, the result, and the payload, read from the state once the watchdog
has taken the request. -/
structure Answer where
  state : State
  result : Result
  reply : State → List Byte

/-- A refusal: no effect, no payload (R172, R173). -/
def Answer.refuse (s : State) (r : Result) : Answer := { state := s, result := r, reply := fun _ => [] }

/-- An OK answer with a payload. -/
def Answer.ok (s : State) (payload : List Byte) : Answer := { state := s, result := .ok, reply := fun _ => payload }

/-- The payload of a refusal: empty, but for RESUME's report of the supervision state (R164, R173). -/
def State.refusalPayload (s : State) (k : Request) (r : Result) : List Byte :=
  if k = .resume && r = .quiet then u8 s.sup.state.code else []

/-- The watchdog after a request carried out: a request that brings the part to RUN leaves it UNARMED (R162). -/
def State.watchdogAfter (s t : State) : State :=
  if s.sup.state ≠ .run && t.sup.state = .run then t else t.validRequest

/-- A request transfer of the catalogue from first byte to response (R168 to R173): ignored whole, answered BAD_FRAME
where its length byte is above 60, refused by a check, or handed to its owning block. -/
def State.request (s : State) (k : Request) (client : Byte) (payload : List Byte) (body : State → Answer) : State :=
  let frame := requestFrame k.code client payload
  if !s.takesRequests then s.ignoreTransfer frame.length
  else if 60 < payload.length then s.answered frame (response k.code .badFrame [])
  else
    match s.gate k client payload with
    | some r =>
      let t := s.validRequest
      t.answered frame (response k.code r (t.refusalPayload k r))
    | none =>
      let a := body s
      let t := s.watchdogAfter a.state
      t.answered frame (response k.code a.result (a.reply t))

/-- The code of the response buffer's state (R176). -/
def Buffer.code (b : Buffer) : Nat :=
  match b with
  | .empty => 0
  | .unread _ => 1
  | .read _ => 2

/-- A read transfer of at least one byte while the port is neither in reset nor in start-up (R171). -/
def State.readOut (s : State) (clocked : Nat) : State :=
  match s.port.buffer with
  | .empty => { s with port.sdo := zeroBytes clocked }
  | .read r => { s with port.sdo := (r ++ zeroBytes clocked).take clocked }
  | .unread r =>
    let t := { s with port.sdo := (r ++ zeroBytes clocked).take clocked }
    if r.length ≤ clocked then { t with port.buffer := .read r } else t

/-- Whether a read transfer clocks the whole response. -/
def Buffer.readInFull (b : Buffer) (clocked : Nat) : Bool :=
  match b with
  | .empty => false
  | .read r => r.length ≤ clocked
  | .unread r => r.length ≤ clocked

end Sys2Proof.Machine
end

