-- ==== Sys2Proof/Decode.lean ====
section
/-! DEFINITION. Decoding. The opcode table gives no row any bits, so no table word spells a command; what spells a command
on the link is a transfer, and the transfers are decoded and encoded here (R168, R169, 9.6). -/

namespace Sys2Proof

/-- The command a word of the table's bits spells: none, since the table gives no row any bits. -/
def decodeTableWord (_nbits _w : Nat) : Option Instr := none

/-- The request of the catalogue with a code, as a command (9.6). -/
def requestCommand (code client : Byte) (payload : List Byte) : Option Instr :=
  match code.toNat with
  | 0x10 => some (.routeOpen client payload)
  | 0x11 => some (.routeLevel client payload)
  | 0x12 => some (.routeRetire client payload)
  | 0x13 => some (.retireOwner client payload)
  | 0x14 => some (.routeGet client payload)
  | 0x15 => some (.routeList client payload)
  | 0x20 => some (.zoneVolume client payload)
  | 0x21 => some (.zoneBalance client payload)
  | 0x22 => some (.zoneGet client payload)
  | 0x23 => some (.duckDepths client payload)
  | 0x24 => some (.temperature client payload)
  | 0x25 => some (.derateSet client payload)
  | 0x30 => some (.tunerPolicy client payload)
  | 0x31 => some (.trafficWatch client payload)
  | 0x32 => some (.qualityLimits client payload)
  | 0x33 => some (.tunerGet client payload)
  | 0x40 => some (.stationList client payload)
  | 0x41 => some (.stationGet client payload)
  | 0x42 => some (.stationPin client payload)
  | 0x43 => some (.stationForget client payload)
  | 0x44 => some (.stationAdd client payload)
  | 0x45 => some (.stationAging client payload)
  | 0x46 => some (.announceFollow client payload)
  | 0x50 => some (.hpCap client payload)
  | 0x51 => some (.hpFollow client payload)
  | 0x52 => some (.rearLock client payload)
  | 0x60 => some (.phoneAdvertise client payload)
  | 0x61 => some (.phoneRestart client payload)
  | 0x62 => some (.phoneGet client payload)
  | 0x70 => some (.legOpen client payload)
  | 0x71 => some (.legState client payload)
  | 0x72 => some (.legSeats client payload)
  | 0x73 => some (.legUplink client payload)
  | 0x74 => some (.legClose client payload)
  | 0x75 => some (.legGet client payload)
  | 0x76 => some (.echoTarget client payload)
  | 0x80 => some (.alertLimits client payload)
  | 0x81 => some (.directLineGet client payload)
  | 0x82 => some (.watchdog client payload)
  | 0x83 => some (.keepalive client payload)
  | 0x84 => some (.resume client payload)
  | 0x85 => some (.quietEnter client payload)
  | 0x86 => some (.quietExit client payload)
  | 0x90 => some (.eventFetch client payload)
  | 0x91 => some (.eventRouting client payload)
  | 0xa0 => some (.storeRead client payload)
  | 0xa1 => some (.storeWrite client payload)
  | 0xf0 => some (.partInfo client payload)
  | 0xf1 => some (.partReset client payload)
  | _ => none

/-- The command a transfer's bytes from the host spell (R168, R169, R172): first byte 0 a read transfer, a good frame a
request of the catalogue or an unknown one, any other bytes a bad frame; no byte is no transfer. -/
def decodeTransfer (bytes : List Byte) : Option Instr :=
  match bytes with
  | [] => none
  | code :: rest =>
    if code = 0 then some (.readTransfer bytes.length)
    else if Machine.frameGood bytes then
      let client := rest.getD 0 0
      let payload := (rest.drop 2).dropLast
      match requestCommand code client payload with
      | some i => some i
      | none => some (.unknownRequest code client payload)
    else some (.badFrame bytes)

/-- The bytes the host sends for a command that is a transfer (R168); none for the events of the part. -/
def encodeTransfer (i : Instr) : Option (List Byte) :=
  match i with
  | .routeOpen client payload => some (Machine.requestFrame Machine.Request.routeOpen.code client payload)
  | .routeLevel client payload => some (Machine.requestFrame Machine.Request.routeLevel.code client payload)
  | .routeRetire client payload => some (Machine.requestFrame Machine.Request.routeRetire.code client payload)
  | .retireOwner client payload => some (Machine.requestFrame Machine.Request.retireOwner.code client payload)
  | .routeGet client payload => some (Machine.requestFrame Machine.Request.routeGet.code client payload)
  | .routeList client payload => some (Machine.requestFrame Machine.Request.routeList.code client payload)
  | .zoneVolume client payload => some (Machine.requestFrame Machine.Request.zoneVolume.code client payload)
  | .zoneBalance client payload => some (Machine.requestFrame Machine.Request.zoneBalance.code client payload)
  | .zoneGet client payload => some (Machine.requestFrame Machine.Request.zoneGet.code client payload)
  | .duckDepths client payload => some (Machine.requestFrame Machine.Request.duckDepths.code client payload)
  | .temperature client payload => some (Machine.requestFrame Machine.Request.temperature.code client payload)
  | .derateSet client payload => some (Machine.requestFrame Machine.Request.derateSet.code client payload)
  | .tunerPolicy client payload => some (Machine.requestFrame Machine.Request.tunerPolicy.code client payload)
  | .trafficWatch client payload => some (Machine.requestFrame Machine.Request.trafficWatch.code client payload)
  | .qualityLimits client payload => some (Machine.requestFrame Machine.Request.qualityLimits.code client payload)
  | .tunerGet client payload => some (Machine.requestFrame Machine.Request.tunerGet.code client payload)
  | .stationList client payload => some (Machine.requestFrame Machine.Request.stationList.code client payload)
  | .stationGet client payload => some (Machine.requestFrame Machine.Request.stationGet.code client payload)
  | .stationPin client payload => some (Machine.requestFrame Machine.Request.stationPin.code client payload)
  | .stationForget client payload => some (Machine.requestFrame Machine.Request.stationForget.code client payload)
  | .stationAdd client payload => some (Machine.requestFrame Machine.Request.stationAdd.code client payload)
  | .stationAging client payload => some (Machine.requestFrame Machine.Request.stationAging.code client payload)
  | .announceFollow client payload => some (Machine.requestFrame Machine.Request.announceFollow.code client payload)
  | .hpCap client payload => some (Machine.requestFrame Machine.Request.hpCap.code client payload)
  | .hpFollow client payload => some (Machine.requestFrame Machine.Request.hpFollow.code client payload)
  | .rearLock client payload => some (Machine.requestFrame Machine.Request.rearLock.code client payload)
  | .phoneAdvertise client payload => some (Machine.requestFrame Machine.Request.phoneAdvertise.code client payload)
  | .phoneRestart client payload => some (Machine.requestFrame Machine.Request.phoneRestart.code client payload)
  | .phoneGet client payload => some (Machine.requestFrame Machine.Request.phoneGet.code client payload)
  | .legOpen client payload => some (Machine.requestFrame Machine.Request.legOpen.code client payload)
  | .legState client payload => some (Machine.requestFrame Machine.Request.legState.code client payload)
  | .legSeats client payload => some (Machine.requestFrame Machine.Request.legSeats.code client payload)
  | .legUplink client payload => some (Machine.requestFrame Machine.Request.legUplink.code client payload)
  | .legClose client payload => some (Machine.requestFrame Machine.Request.legClose.code client payload)
  | .legGet client payload => some (Machine.requestFrame Machine.Request.legGet.code client payload)
  | .echoTarget client payload => some (Machine.requestFrame Machine.Request.echoTarget.code client payload)
  | .alertLimits client payload => some (Machine.requestFrame Machine.Request.alertLimits.code client payload)
  | .directLineGet client payload => some (Machine.requestFrame Machine.Request.directLineGet.code client payload)
  | .watchdog client payload => some (Machine.requestFrame Machine.Request.watchdog.code client payload)
  | .keepalive client payload => some (Machine.requestFrame Machine.Request.keepalive.code client payload)
  | .resume client payload => some (Machine.requestFrame Machine.Request.resume.code client payload)
  | .quietEnter client payload => some (Machine.requestFrame Machine.Request.quietEnter.code client payload)
  | .quietExit client payload => some (Machine.requestFrame Machine.Request.quietExit.code client payload)
  | .eventFetch client payload => some (Machine.requestFrame Machine.Request.eventFetch.code client payload)
  | .eventRouting client payload => some (Machine.requestFrame Machine.Request.eventRouting.code client payload)
  | .storeRead client payload => some (Machine.requestFrame Machine.Request.storeRead.code client payload)
  | .storeWrite client payload => some (Machine.requestFrame Machine.Request.storeWrite.code client payload)
  | .partInfo client payload => some (Machine.requestFrame Machine.Request.partInfo.code client payload)
  | .partReset client payload => some (Machine.requestFrame Machine.Request.partReset.code client payload)
  | .unknownRequest code client payload => some (Machine.requestFrame code client payload)
  | .badFrame bytes => some bytes
  | .readTransfer clocked => some (Machine.zeroBytes clocked)
  | .partResetTimeout => none
  | .resetNAssert _ => none
  | .resetNRelease _ => none
  | .startUpEnd => none
  | .watchdogExpiry => none
  | .rampStep _ => none
  | .weightRampStep => none
  | .thermalReading _ => none
  | .alertCut _ => none
  | .tonePatternEnd _ => none
  | .hpDetChange _ _ => none
  | .hpDebounceExpiry _ => none
  | .alertInChange _ _ => none
  | .lineDebounceExpiry _ => none
  | .acquisitionSettle _ => none
  | .programMeasurement _ _ _ => none
  | .dataItemDecoded _ _ => none
  | .scanStepBegin _ => none
  | .scanMeasurement _ _ _ => none
  | .scanStepComplete _ => none
  | .scanIntervalExpiry => none
  | .afCheckMeasurement _ _ _ => none
  | .afCheckEnd _ _ => none
  | .retuneSettle _ => none
  | .selfAfJumpEnd _ _ _ => none
  | .afConfirmTimeout _ => none
  | .clockDetectPresent => none
  | .clockDetectAbsent => none
  | .rateSpanEnd _ => none
  | .partnerWord _ => none
  | .silenceTimerExpiry => none
  | .holdOffExpiry => none
  | .micCheckEnd _ _ => none
  | .echoWindowEnd _ _ _ _ => none
  | .storeWriteEnd => none
  | .supplyApplication _ => none

end Sys2Proof
end

