-- ==== Sys2Proof/Machine/Routes.lean ====
section
/-! DEFINITION. The requests on routes (R18 to R24). -/

namespace Sys2Proof.Machine

/-- Whether a handle's slot number is one of 1..24 (R2). -/
def Handle.inRange (h : Handle) : Bool := 1 ≤ h.slot && h.slot ≤ 24

/-- Whether a client may change a record of an owner: the owner and client 0 may (R17). -/
def mayChange (client : Byte) (owner : Nat) : Bool := client = 0 || client.toNat = owner

/-! ## ROUTE_OPEN -/

/-- The source a kind and a value name; none where either is out of range (R3, R18). -/
def sourceOf (plan : BandPlan) (kind v : Nat) : Option Source :=
  match kind with
  | 0 => if v ≤ 3 then some (.stream v) else none
  | 1 => if v ≤ 15 then some (.tone v) else none
  | 2 => if onRaster plan v then some (.tunerFrequency v) else none
  | 3 => if v = 0 then none else some (.tunerCode v)
  | 4 => if 1 ≤ v / 256 ∧ v / 256 ≤ 3 then some (.leg (v / 256) (BitVec.ofNat 8 v)) else none
  | _ => none

/-- Whether a class may take a source of its kind (R3). -/
def allowed (c : RouteClass) (src : Source) : Bool :=
  match src with
  | .stream _ => c ≠ .call
  | .tone _ => c = .alert || c = .prompt
  | .tunerFrequency _ => c = .announcement || c = .media
  | .tunerCode _ => c = .announcement || c = .media
  | .leg _ _ => c = .call

/-- The checks on a LEG source (R17, R18). -/
def State.legCheck (s : State) (client : Byte) (src : Source) : Option Result :=
  match src with
  | .leg id reuse =>
    match s.leg id reuse with
    | none => some .notFound
    | some l => if mayChange client l.owner then none else some .notPermitted
  | _ => none

/-- The tuner and source condition a new route is given, or none where the tuner is refused (R19, R65, R66). -/
def State.serve (s : State) (src : Source) (h : Handle) : Option (State × Option TunerId × Condition) :=
  match src with
  | .tunerFrequency f =>
    match s.claim f with
    | (t, some (x, c)) => some (t, some x, c)
    | (_, none) => none
  | .tunerCode c =>
    match s.codeTarget c with
    | .unknown =>
      some ({ s with tuners.waiting := s.tuners.waiting ++ [{ handle := h, code := c }] }, none, .searching)
    | _ =>
      match s.claimCode c with
      | (t, some (x, k)) => some (t, some x, k)
      | (_, none) => none
  | _ => some (s, none, .available)

/-- The response to a ROUTE_OPEN carried out (R19): the route as it entered its first state. -/
def openReply (r : Route) (first : RouteState) : List Byte :=
  handleBytes r.handle ++ u8 first.code ++ u8 (causeCode r.cause) ++ i16 r.level ++ u8 r.ramp.code ++
    match r.maxDuration with
    | some d => u8 d
    | none => []

/-- The fields of a ROUTE_OPEN that its checks pass on (R18). -/
structure OpenFields where
  zone : Zone
  cls : RouteClass
  source : Source
  level : Int
  /-- 0 default, 1 to 3 a ramp class. -/
  ramp : Nat
  /-- In seconds; 0 default. -/
  duration : Nat
  deriving DecidableEq, Repr

/-- The fields of a ROUTE_OPEN payload, the level and duration fitted; none where a check of values fails (R18). -/
def openFields (plan : BandPlan) (p : List Byte) : Option OpenFields :=
  if p.length ≠ 9 then none
  else
    match zoneOf (u8At p 0), classOf (u8At p 1), sourceOf plan (u8At p 2) (u16At p 3) with
    | some z, some c, some src =>
      if 3 < u8At p 7 || !allowed c src || (u8At p 8 ≠ 0 && c ≠ .alert) then none
      else
        some
          { zone := z, cls := c, source := src, level := fit (-240) 0 (i16At p 5), ramp := u8At p 7
            duration := min 120 (u8At p 8) }
    | _, _, _ => none

/-- The maximum duration a new route takes (R1, R18). -/
def State.openDuration (s : State) (o : OpenFields) : Option Nat :=
  if o.cls = .alert then some (if o.duration = 0 then s.alertMax else o.duration) else none

/-- ROUTE_OPEN (R18, R19). -/
def routeOpen (client : Byte) (p : List Byte) (s : State) : Answer :=
  match openFields s.tuners.plan p with
  | none => .refuse s .badArgument
  | some o =>
    match s.legCheck client o.source with
    | some r => .refuse s r
    | none =>
      match s.freeSlot with
      | none => .refuse s .tableFull
      | some k =>
        match s.serve o.source { slot := k, reuse := tabGet s.reuse (k - 1) 0 } with
        | none => .refuse s .tunerBusy
        | some (t, x, c) =>
          let r :=
            t.newRoute k client.toNat o.zone o.cls o.source o.level
              ((rampOf o.ramp).getD (t.defaultRamp.get o.cls)) (t.openDuration o) x c none
          .ok (t.openRoute r).arbitrate (openReply (t.firstEntry r) (t.firstState r))

/-! ## ROUTE_LEVEL, ROUTE_RETIRE, RETIRE_OWNER -/

/-- The route a handle at the start of a payload names, checked in the order of R172: its slot number, its existence,
the client's permission on it (R2, R17). -/
def State.namedRoute (s : State) (client : Byte) (p : List Byte) : Except Result Route :=
  if !(handleAt p 0).inRange then .error .badArgument
  else
    match s.routeOf (handleAt p 0) with
    | none => .error .notFound
    | some r => if mayChange client r.owner then .ok r else .error .notPermitted

/-- A route with a new level target and ramp class; a sounding one without the retune fade mark re-aims (R20). -/
def State.relevel (s : State) (level : Int) (ramp : RampClass) (r : Route) : Route :=
  let n := { r with level := level, ramp := ramp }
  if n.state.sounding && !n.fadeMark then n.aim (s.computedTarget n) n.ramp else n

/-- ROUTE_LEVEL (R20). -/
def routeLevel (client : Byte) (p : List Byte) (s : State) : Answer :=
  if p.length ≠ 5 || 3 < u8At p 4 then .refuse s .badArgument
  else
    match s.namedRoute client p with
    | .error e => .refuse s e
    | .ok r =>
      if r.state = .closing then .refuse s .closing
      else
        let level := fit (-240) 0 (i16At p 2)
        let ramp := (rampOf (u8At p 4)).getD r.ramp
        .ok (s.putRoutes (onSlot r.slot (s.relevel level ramp) s.routes)) (i16 level ++ u8 ramp.code)

/-- Whether a state retires by removal at once (R21). -/
def RouteState.removedAtOnce (st : RouteState) : Bool := st = .pending || st = .suspended

/-- ROUTE_RETIRE (R21): the response reports 0 REMOVED or 1 CLOSING (R173). -/
def routeRetire (client : Byte) (p : List Byte) (s : State) : Answer :=
  if p.length ≠ 2 then .refuse s .badArgument
  else
    match s.namedRoute client p with
    | .error e => .refuse s e
    | .ok r =>
      .ok (s.retireSlots false true [r.slot]).arbitrate (u8 (if r.state.removedAtOnce then 0 else 1))

/-- RETIRE_OWNER (R22): one byte, an owner 0..7. A fade phase that loses its last marked route to it ends after all the
owner's routes are treated and precedence is re-run (DESIGN CHOICE, log entry 43: R22 and R77 give no order). -/
def retireOwner (client : Byte) (p : List Byte) (s : State) : Answer :=
  if p.length ≠ 1 || 7 < u8At p 0 then .refuse s .badArgument
  else if client ≠ 0 && client.toNat ≠ u8At p 0 then .refuse s .notPermitted
  else
    let own := s.routes.filter (fun r => r.owner = u8At p 0 && r.state ≠ .closing)
    let gone := own.filter (fun r => r.state.removedAtOnce)
    .ok (s.retireSlots false false (own.map (fun r => r.slot))).arbitrate
      (u8 gone.length ++ u8 (own.length - gone.length))

/-! ## ROUTE_GET, ROUTE_LIST -/

/-- The code of a source's kind (R18, R23). -/
def Source.kindCode (x : Source) : Nat :=
  match x with
  | .stream _ => 0
  | .tone _ => 1
  | .tunerFrequency _ => 2
  | .tunerCode _ => 3
  | .leg _ _ => 4

/-- The source value reported (R23): for a TUNER source the frequency its program is on now. -/
def State.sourceValue (s : State) (r : Route) : Nat :=
  match r.source with
  | .stream n => n
  | .tone n => n
  | .tunerFrequency f =>
    match r.tuner with
    | some x => (s.tuner x).frequency.getD f
    | none => f
  | .tunerCode c =>
    match r.tuner with
    | some x => (s.tuner x).frequency.getD c
    | none => c
  | .leg id reuse => 256 * id + reuse.toNat

/-- The fields of ROUTE_GET in order (R23). -/
def State.routeFields (s : State) (r : Route) : List Byte :=
  handleBytes r.handle ++ u8 r.owner ++ u8 r.zone.code ++ u8 r.cls.code ++ u8 r.source.kindCode ++
    u16 (s.sourceValue r) ++ i16 r.level ++ u8 r.ramp.code ++ u8 (orZero r.maxDuration) ++ u8 r.state.code ++
    u8 (causeCode r.cause) ++ i16 r.applied.report ++ u16 r.duck ++ u8 r.rank ++ u8 (tunerCode r.tuner) ++ flag r.cut

/-- ROUTE_GET (R23). -/
def routeGet (p : List Byte) (s : State) : Answer :=
  if p.length ≠ 2 || !(handleAt p 0).inRange then .refuse s .badArgument
  else
    match s.routeOf (handleAt p 0) with
    | none => .refuse s .notFound
    | some r => .ok s (s.routeFields r)

/-- The count and the handles of some routes (R24). -/
def handleList (rs : List Route) : List Byte := u8 rs.length ++ rs.flatMap (fun r => handleBytes r.handle)

/-- ROUTE_LIST (R24). -/
def routeList (p : List Byte) (s : State) : Answer :=
  match p with
  | [] => .ok s (handleList s.routes)
  | [o] =>
    if 7 < o.toNat then .refuse s .badArgument
    else .ok s (handleList (s.routes.filter (fun r => r.owner = o.toNat)))
  | _ => .refuse s .badArgument

/-! ## The meanings -/

/-- ROUTE_OPEN (R18, R19). -/
def execRouteOpen (client : Byte) (payload : List Byte) (s : State) : Host.Outcome State Fault Refusal :=
  .next (s.request .routeOpen client payload (routeOpen client payload))

/-- ROUTE_LEVEL (R20). -/
def execRouteLevel (client : Byte) (payload : List Byte) (s : State) : Host.Outcome State Fault Refusal :=
  .next (s.request .routeLevel client payload (routeLevel client payload))

/-- ROUTE_RETIRE (R21). -/
def execRouteRetire (client : Byte) (payload : List Byte) (s : State) : Host.Outcome State Fault Refusal :=
  .next (s.request .routeRetire client payload (routeRetire client payload))

/-- RETIRE_OWNER (R22). -/
def execRetireOwner (client : Byte) (payload : List Byte) (s : State) : Host.Outcome State Fault Refusal :=
  .next (s.request .retireOwner client payload (retireOwner client payload))

/-- ROUTE_GET (R23). -/
def execRouteGet (client : Byte) (payload : List Byte) (s : State) : Host.Outcome State Fault Refusal :=
  .next (s.request .routeGet client payload (routeGet payload))

/-- ROUTE_LIST (R24). -/
def execRouteList (client : Byte) (payload : List Byte) (s : State) : Host.Outcome State Fault Refusal :=
  .next (s.request .routeList client payload (routeList payload))

end Sys2Proof.Machine
end

