-- ==== Sys2Proof/Machine/Zones.lean ====
section
/-! DEFINITION. The requests on zones, ducks and derating, and the events of the gain path (R39 to R61). -/

namespace Sys2Proof.Machine

/-! ## Zone requests -/

/-- ZONE_VOLUME (R58): the new step is stored, the zone's routes re-aim, a CABIN change goes to the follow rule. -/
def zoneVolume (p : List Byte) (s : State) : Answer :=
  if p.length ≠ 3 then .refuse s .badArgument
  else
    match zoneOf (u8At p 0), u8At p 1 with
    | some z, 0 =>
      let v := min (u8At p 2) (s.mixer.limit z)
      .ok (s.setVolumeAndFollow z v) (u8 z.code ++ u8 v)
    | some z, 1 =>
      let v := movedStep (s.mixer.zone z).volume (i8At p 2) (s.mixer.limit z)
      .ok (s.setVolumeAndFollow z v) (u8 z.code ++ u8 v)
    | _, _ => .refuse s .badArgument

/-- ZONE_BALANCE (R59): CABIN takes balance and fade, FRONT balance alone; the weights re-aim of themselves (R39). -/
def zoneBalance (p : List Byte) (s : State) : Answer :=
  if p.length ≠ 3 then .refuse s .badArgument
  else
    let b := fit (-10) 10 (i8At p 1)
    let f := fit (-10) 10 (i8At p 2)
    match zoneOf (u8At p 0) with
    | some .cabin =>
      .ok { s with mixer.cabin := { s.mixer.cabin with balance := b, fade := f } } (u8 0 ++ i8 b ++ i8 f)
    | some .front => .ok { s with mixer.front := { s.mixer.front with balance := b } } (u8 1 ++ i8 b ++ i8 0)
    | _ => .refuse s .badArgument

/-- Whether a zone reports a listener present; a zone without a jack reports 0 (R60). -/
def State.jackReport (s : State) (z : Zone) : Bool :=
  match z with
  | .hp1 => s.jacks.j1.present
  | .hp2 => s.jacks.j2.present
  | _ => false

/-- ZONE_GET (R60). -/
def zoneGet (p : List Byte) (s : State) : Answer :=
  if p.length ≠ 1 then .refuse s .badArgument
  else
    match zoneOf (u8At p 0) with
    | none => .refuse s .badArgument
    | some z =>
      let r := s.mixer.zone z
      .ok s
        (u8 z.code ++ u8 r.volume ++ i16 (if r.volume = 0 then -32768 else s.mixer.attenuation r.volume) ++
          i8 r.balance ++ i8 r.fade ++ u8 r.cap ++ flag r.follow ++ flag (s.jackReport z) ++ i16 (s.derateTerm z) ++
          i16 s.thermal.reading)

/-- DUCK_DEPTHS (R41): the table replaced, the duck attenuations of every domain recomputed (R40). -/
def duckDepths (client : Byte) (p : List Byte) (s : State) : Answer :=
  if p.length ≠ 3 then .refuse s .badArgument
  else if client ≠ 0 then .refuse s .notPermitted
  else
    let d : DuckDepths :=
      { alert := min 240 (u8At p 0), call := min 240 (u8At p 1), prompt := min 240 (u8At p 2) }
    let t := { s with mixer.depths := d }
    let rs := t.duckPass .hp2 (t.duckPass .hp1 (t.duckPass .cabinGroup t.routes))
    .ok (t.putRoutes rs) (u8 d.alert ++ u8 d.call ++ u8 d.prompt)

/-! ## Thermal requests -/

/-- TEMPERATURE (R47). -/
def temperature (p : List Byte) (s : State) : Answer :=
  if p.length ≠ 2 then .refuse s .badArgument
  else
    let t := fit (-40) 150 (i16At p 0)
    .ok { s with thermal.external := t } (i16 t ++ u8 s.thermal.source.code ++ i16 s.thermal.derate)

/-- DERATE_SET (R48). -/
def derateSet (client : Byte) (p : List Byte) (s : State) : Answer :=
  if p.length ≠ 3 || 1 < u8At p 0 || u8At p 1 < 60 || 120 < u8At p 1 || u8At p 2 < 1 || 15 < u8At p 2 then
    .refuse s .badArgument
  else if client ≠ 0 then .refuse s .notPermitted
  else
    let src := if u8At p 0 = 1 then ThermalSource.external else .internal
    .ok { s with thermal := { s.thermal with source := src, knee := u8At p 1, slope := u8At p 2 } }
      (u8 src.code ++ u8 (u8At p 1) ++ u8 (u8At p 2) ++ i16 s.thermal.derate)

/-! ## Thermal readings -/

/-- The computed value of a reading (R44). -/
def computedDerate (reading knee : Int) (slope : Nat) : Nat :=
  if knee < reading then min 72 ((4 * (slope : Int) * (reading - knee) + 5) / 10).toNat else 0

/-- Derate and recovery count after a computed value (R45). -/
def derateStep (computed derate recovery : Nat) : Nat × Nat :=
  if derate < computed then (computed, 0)
  else if computed = derate then (derate, 0)
  else if recovery < 9 then (derate, recovery + 1)
  else (derate - 1, 0)

/-- The unit after a reading of the sensor (R43 to R45). -/
def Thermal.taken (t : Thermal) (sensor : Int) : Thermal :=
  let reading := fit (-40) 150 (if t.source = .external then t.external else sensor)
  let c := computedDerate reading t.knee t.slope
  { t with
    reading := reading, computed := c, derate := (derateStep c t.derate t.recovery).1
    recovery := (derateStep c t.derate t.recovery).2 }

/-- A thermal reading (R43 to R46): a change of the derate re-aims the cabin-group routes, a rise from 0 raises THERMAL. -/
def State.thermalReading (s : State) (sensor : Int) : State :=
  let t := { s with thermal := s.thermal.taken sensor }
  let u := if t.thermal.derate = s.thermal.derate then t else t.retargetWhere (fun r => r.zone.domain = .cabinGroup) .normal
  u.raiseIf (s.thermal.derate = 0 && 0 < t.thermal.derate) .thermal

/-- An event of the part: while the part is held in reset none occurs (R174). -/
def State.unlessHeld (s t : State) : State := if s.port.phase = .held then s else t

/-! ## The meanings -/

/-- ZONE_VOLUME (R58). -/
def execZoneVolume (client : Byte) (payload : List Byte) (s : State) : Host.Outcome State Fault Refusal :=
  .next (s.request .zoneVolume client payload (zoneVolume payload))

/-- ZONE_BALANCE (R59). -/
def execZoneBalance (client : Byte) (payload : List Byte) (s : State) : Host.Outcome State Fault Refusal :=
  .next (s.request .zoneBalance client payload (zoneBalance payload))

/-- ZONE_GET (R60). -/
def execZoneGet (client : Byte) (payload : List Byte) (s : State) : Host.Outcome State Fault Refusal :=
  .next (s.request .zoneGet client payload (zoneGet payload))

/-- DUCK_DEPTHS (R41). -/
def execDuckDepths (client : Byte) (payload : List Byte) (s : State) : Host.Outcome State Fault Refusal :=
  .next (s.request .duckDepths client payload (duckDepths client payload))

/-- TEMPERATURE (R47). -/
def execTemperature (client : Byte) (payload : List Byte) (s : State) : Host.Outcome State Fault Refusal :=
  .next (s.request .temperature client payload (temperature payload))

/-- DERATE_SET (R48). -/
def execDerateSet (client : Byte) (payload : List Byte) (s : State) : Host.Outcome State Fault Refusal :=
  .next (s.request .derateSet client payload (derateSet client payload))

/-- RAMP_STEP: the end of a step time of the running ramp of the route in a slot (R51). -/
def execRampStep (slot : Nat) (s : State) : Host.Outcome State Fault Refusal :=
  .next (s.unlessHeld (s.rampStepSlot slot).arbitrate)

/-- WEIGHT_RAMP_STEP: each applied weight moves 1 q toward its target weight (R39). -/
def execWeightRampStep (s : State) : Host.Outcome State Fault Refusal :=
  .next (s.unlessHeld { s with mixer := s.mixer.weightStep })

/-- THERMAL_READING with the temperature of the internal sensor (R43 to R46). -/
def execThermalReading (sensor : Int) (s : State) : Host.Outcome State Fault Refusal :=
  .next (s.unlessHeld (s.thermalReading sensor))

end Sys2Proof.Machine
end

