-- ==== Sys2Proof/Machine/CallLegs.lean ====
section
/-! DEFINITION. The Call Processor (chapter 7): legs, microphone checks, echo cancellers, requests. -/

namespace Sys2Proof.Machine

/-! ## Named legs (R136) -/

/-- The leg the first two bytes of a payload name, checked in the order of R172: identifier, existence, permission. -/
def State.namedLeg (s : State) (client : Byte) (p : List Byte) : Except Result Leg :=
  if u8At p 0 < 1 || 3 < u8At p 0 then .error .badArgument
  else
    match s.leg (u8At p 0) (p.getD 1 0) with
    | none => .error .notFound
    | some l => if mayChange client l.owner then .ok l else .error .notPermitted

/-- The name of a leg. -/
def Leg.handle (l : Leg) : Handle := { slot := l.id, reuse := l.reuse }

/-- The name of the ACTIVE leg, 0 where there is none (R138, R139). -/
def Calls.activeName (c : Calls) : Handle :=
  match c.active with
  | some l => l.handle
  | none => { slot := 0, reuse := 0 }

/-- The lowest identifier without a leg (R136). -/
def Calls.freeId (c : Calls) : Option Nat :=
  ((List.range 3).find? (fun i => c.legs.all (fun l => l.id ≠ i + 1))).map (· + 1)

/-! ## LEG_OPEN, LEG_STATE, LEG_CLOSE, LEG_SEATS -/

/-- A leg as created (R138). -/
def State.newLeg (s : State) (id owner : Nat) (st : LegState) (ring : Nat) (seats : SeatSet) : Leg :=
  { id := id, reuse := tabGet s.calls.reuse (id - 1) 0, owner := owner, state := st, ring := ring, seats := seats
    gain := s.calls.defaultGain, mute := false, order := s.calls.legs.length + 1 }

/-- LEG_OPEN (R138). -/
def legOpen (client : Byte) (p : List Byte) (s : State) : Answer :=
  if p.length ≠ 3 || 1 < u8At p 0 || 15 < u8At p 1 || 15 < u8At p 2 then .refuse s .badArgument
  else
    match s.calls.freeId with
    | none => .refuse s .tableFull
    | some id =>
      let st : LegState := if u8At p 0 = 1 then .active else .ringing
      let l := s.newLeg id client.toNat st (u8At p 1) (seatSetOf (u8At p 2))
      let held := if st = .active then s.calls.activeName else { slot := 0, reuse := 0 }
      let t := if st = .active then s.holdActive else s
      let u := { t with calls.legs := t.calls.legs ++ [l] }
      let v := if st = .active then u.startChecks l.seats.has else u
      .ok v.arbitrate (handleBytes l.handle ++ u8 st.code ++ handleBytes held)

/-- A leg made ACTIVE: any other goes on hold first, then its checks start and its routes are told (R139, R140). -/
def State.activateLeg (s : State) (l : Leg) : State :=
  let t := s.holdActive
  let u := { t with calls := t.calls.updateLeg l.id (fun x => { x with state := .active }) }
  (u.startChecks l.seats.has).legNotice l.id l.reuse

/-- LEG_STATE (R139). A HELD request replies 0 for the leg put on hold, also where it holds the ACTIVE leg it names (DESIGN
CHOICE, log entry 48: R139 does not say which). -/
def legState (client : Byte) (p : List Byte) (s : State) : Answer :=
  if p.length ≠ 3 || (u8At p 2 ≠ 1 && u8At p 2 ≠ 2) then .refuse s .badArgument
  else
    match s.namedLeg client p with
    | .error e => .refuse s e
    | .ok l =>
      let none2 : List Byte := [0, 0]
      if u8At p 2 = 2 then
        if l.state = .held then .ok s (u8 LegState.held.code ++ none2)
        else .ok (s.holdLeg l).arbitrate (u8 LegState.held.code ++ none2)
      else if l.state = .active then .ok s (u8 LegState.active.code ++ none2)
      else .ok (s.activateLeg l).arbitrate (u8 LegState.active.code ++ handleBytes s.calls.activeName)

/-- The CALL routes of a leg that are not CLOSING (R141). -/
def State.legRoutes (s : State) (l : Leg) : List Route :=
  s.routes.filter (fun r => r.source = .leg l.id l.reuse && r.state ≠ .closing)

/-- A leg out of the list: its reuse count rises, the orders of newer legs fall (R136, R141). -/
def Calls.removeLeg (c : Calls) (l : Leg) : Calls :=
  { c with
    legs := (c.legs.filter (fun x => x.id ≠ l.id)).map (fun x => if l.order < x.order then { x with order := x.order - 1 } else x)
    reuse := tabSet c.reuse (l.id - 1) (tabGet c.reuse (l.id - 1) 0 + 1) }

/-- A leg closed (R141, R155). -/
def State.closeLeg (s : State) (l : Leg) : State :=
  let s1 := if l.state = .active then s.dropSeats l.seats.has else s
  let s2 := s1.autoRetire ((s1.legRoutes l).map (fun r => r.handle))
  { s2 with
    calls := s2.calls.removeLeg l
    routes := s2.routes.map (fun r => if r.source = .leg l.id l.reuse then { r with play := none } else r) }

/-- LEG_CLOSE (R141). -/
def legClose (client : Byte) (p : List Byte) (s : State) : Answer :=
  if p.length ≠ 2 then .refuse s .badArgument
  else
    match s.namedLeg client p with
    | .error e => .refuse s e
    | .ok l =>
      let rs := s.legRoutes l
      let gone := rs.filter (fun r => r.state.removedAtOnce)
      .ok (s.closeLeg l).arbitrate (u8 (rs.length - gone.length) ++ u8 gone.length)

/-- New seats of a leg (R142): on the ACTIVE leg, seats removed leave the uplink and seats added are checked. -/
def State.setSeats (s : State) (l : Leg) (n : SeatSet) : State :=
  let t := { s with calls := s.calls.updateLeg l.id (fun x => { x with seats := n }) }
  if l.state = .active then
    (t.dropSeats (fun x => l.seats.has x && !n.has x)).startChecks (fun x => n.has x && !l.seats.has x)
  else t

/-- LEG_SEATS (R142). -/
def legSeats (client : Byte) (p : List Byte) (s : State) : Answer :=
  if p.length ≠ 3 || 15 < u8At p 2 then .refuse s .badArgument
  else
    match s.namedLeg client p with
    | .error e => .refuse s e
    | .ok l => .ok (s.setSeats l (seatSetOf (u8At p 2))) (u8 (u8At p 2))

/-- LEG_UPLINK (R150). -/
def legUplink (client : Byte) (p : List Byte) (s : State) : Answer :=
  if p.length ≠ 4 || 1 < u8At p 3 then .refuse s .badArgument
  else
    match s.namedLeg client p with
    | .error e => .refuse s e
    | .ok l =>
      let g := min 96 (u8At p 2)
      let b : Bool := u8At p 3 = 1
      .ok { s with calls := s.calls.updateLeg l.id (fun x => { x with gain := g, mute := b }) } (u8 g ++ flag b)

/-- ECHO_TARGET (R151). -/
def echoTarget (client : Byte) (p : List Byte) (s : State) : Answer :=
  if p.length ≠ 1 || u8At p 0 < 10 || 30 < u8At p 0 then .refuse s .badArgument
  else if client ≠ 0 then .refuse s .notPermitted
  else .ok { s with calls.echoTarget := u8At p 0 } (u8 (u8At p 0))

/-! ## LEG_GET (R152) -/

/-- A remembered state as reported (R152). -/
def rememberedCode (r : Option Bool) : Nat :=
  match r with
  | none => 0
  | some false => 1
  | some true => 2

/-- A microphone's eight items (R152). -/
def Calls.micBytes (c : Calls) (x : Seat) : List Byte :=
  let m := c.mics.get (seatIndex x)
  u8 m.health.code ++ flag m.check.isSome ++ flag (c.included x) ++ u8 m.canceller.code ++ u8 m.sustain ++
    u8 m.divergence ++ u8 (modeCode m.lastMode) ++ u8 (rememberedCode m.remembered)

/-- The common items (R152). -/
def State.callItems (s : State) : List Byte :=
  allSeats.flatMap s.calls.micBytes ++ u8 s.calls.echoTarget ++ flag s.uplinkRuns

/-- A leg's fields (R152). -/
def Leg.fields (l : Leg) : List Byte :=
  handleBytes l.handle ++ u8 l.owner ++ u8 l.state.code ++ u8 l.ring ++ u8 l.seats.sum ++ u8 l.gain ++ flag l.mute ++
    u8 l.order

/-- LEG_GET (R152). The legs stand in the list in opening order. -/
def legGet (p : List Byte) (s : State) : Answer :=
  if p.length ≠ 2 || 3 < u8At p 0 then .refuse s .badArgument
  else if u8At p 0 = 0 then
    .ok s
      (u8 s.calls.legs.length ++ s.calls.legs.flatMap (fun l => handleBytes l.handle ++ u8 l.state.code) ++ s.callItems)
  else
    match s.leg (u8At p 0) (p.getD 1 0) with
    | none => .refuse s .notFound
    | some l => .ok s (l.fields ++ s.callItems)

/-! ## Checks and windows (R143 to R146) -/

/-- The health a measured power gives, in hundredths of a dBFS (R143). -/
def healthOf (power : Int) : Health := if power < -9000 then .opened else if power ≤ -2000 then .normal else .saturated

/-- A microphone changed. -/
def State.setMic (s : State) (x : Seat) (m : Mic) : State := { s with calls.mics := s.calls.mics.set (seatIndex x) m }

/-- A microphone check ends (R143 to R145). -/
def State.micCheckEnd (s : State) (x : Seat) (power : Int) : State :=
  let m := s.calls.mics.get (seatIndex x)
  if m.check.isSome then
    let n := { m with check := none, health := healthOf power }
    match healthOf power with
    | .normal => s.setMic x (if s.phone.link = .up then n.converge s.phone.mode else n)
    | _ => (s.setMic x n).raise .legChange
  else s

/-- ERLE at least a target of `e` dB: 10·log10(m/r) ≥ e, that is m^10 ≥ 10^e·r^10; zero residual counts as above (R146). -/
def erleAtLeast (e mic residual : Nat) : Bool := residual = 0 || 10 ^ e * residual ^ 10 ≤ mic ^ 10

/-- A canceller at the end of an active window (R146). -/
def Mic.window (target mic residual : Nat) (m : Mic) : Mic :=
  match m.canceller with
  | .converging =>
    if erleAtLeast target mic residual then
      if 7 ≤ m.sustain then { m with canceller := .converged, sustain := 8, divergence := 0 }
      else { m with sustain := m.sustain + 1 }
    else { m with sustain := 0 }
  | .converged =>
    if erleAtLeast (target - 6) mic residual then { m with divergence := 0 }
    else if 3 ≤ m.divergence then { m with canceller := .converging, sustain := 0, divergence := 0 }
    else { m with divergence := m.divergence + 1 }
  | _ => m

/-- The end of a canceller's window (R146): inactive below -50 dBFS of downlink; the filter has adapted meanwhile. -/
def State.echoWindowEnd (s : State) (x : Seat) (downlink : Int) (mic residual : Nat) : State :=
  let m := s.calls.mics.get (seatIndex x)
  if m.canceller = .converging || m.canceller = .converged then
    let a := { m with filterEmpty := false }
    let n := if -5000 ≤ downlink then a.window s.calls.echoTarget mic residual else a
    (s.setMic x n).raiseIf (n.canceller ≠ m.canceller) .echoState
  else s

/-! ## The meanings -/

/-- LEG_OPEN (R138). -/
def execLegOpen (client : Byte) (payload : List Byte) (s : State) : Host.Outcome State Fault Refusal :=
  .next (s.request .legOpen client payload (legOpen client payload))

/-- LEG_STATE (R139). -/
def execLegState (client : Byte) (payload : List Byte) (s : State) : Host.Outcome State Fault Refusal :=
  .next (s.request .legState client payload (legState client payload))

/-- LEG_SEATS (R142). -/
def execLegSeats (client : Byte) (payload : List Byte) (s : State) : Host.Outcome State Fault Refusal :=
  .next (s.request .legSeats client payload (legSeats client payload))

/-- LEG_UPLINK (R150). -/
def execLegUplink (client : Byte) (payload : List Byte) (s : State) : Host.Outcome State Fault Refusal :=
  .next (s.request .legUplink client payload (legUplink client payload))

/-- LEG_CLOSE (R141). -/
def execLegClose (client : Byte) (payload : List Byte) (s : State) : Host.Outcome State Fault Refusal :=
  .next (s.request .legClose client payload (legClose client payload))

/-- LEG_GET (R152). -/
def execLegGet (client : Byte) (payload : List Byte) (s : State) : Host.Outcome State Fault Refusal :=
  .next (s.request .legGet client payload (legGet payload))

/-- ECHO_TARGET (R151). -/
def execEchoTarget (client : Byte) (payload : List Byte) (s : State) : Host.Outcome State Fault Refusal :=
  .next (s.request .echoTarget client payload (echoTarget client payload))

/-- MIC_CHECK_END with the mean power measured, in hundredths of a dBFS (R143, R144). -/
def execMicCheckEnd (seat : Seat) (power : Int) (s : State) : Host.Outcome State Fault Refusal :=
  .next (s.unlessHeld (s.micCheckEnd seat power))

/-- ECHO_WINDOW_END with the downlink power in hundredths of a dBFS and the two mean powers ERLE compares (R146). -/
def execEchoWindowEnd (seat : Seat) (downlink : Int) (micPower residualPower : Nat) (s : State) :
    Host.Outcome State Fault Refusal :=
  .next (s.unlessHeld (s.echoWindowEnd seat downlink micPower residualPower))

end Sys2Proof.Machine
end

