-- ==== Sys2Proof/Machine/Part.lean ====
section
/-! DEFINITION. Events, the Settings Store's requests, part requests, transfers and resets (chapters 9 to 11). -/

namespace Sys2Proof.Machine

/-! ## Events (R180, R181) -/

/-- The Event Unit after a fetch (R180): what stays pending is a condition flag whose condition is true. -/
def State.fetched (s : State) : State :=
  { s with events := { s.events with flags := s.events.flags &&& s.conditions, mask := 0, station := false } }

/-- EVENT_FETCH (R180). -/
def eventFetch (p : List Byte) (s : State) : Answer :=
  if p.length ≠ 0 then .refuse s .badArgument
  else
    .ok s.fetched
      (u24 s.events.flags.toNat ++ u24 s.events.mask.toNat ++ flag s.events.station ++ u24 s.conditions.toNat ++
        u8 s.fetched.linesByte)

/-- The sources an EVENT_ROUTING names: one, or all for 255 (R181). -/
def namedSources (n : Nat) : Option (BitVec 18) :=
  if n = 255 then some 0x3FFFF#18 else if n < 18 then some (1#18 <<< n) else none

/-- Some bits of a set put to a value. -/
def putBits (x m : BitVec 18) (b : Bool) : BitVec 18 := if b then x ||| m else x &&& ~~~m

/-- EVENT_ROUTING (R181). The lines byte of the response is formed before the request itself arms the watchdog (DESIGN
CHOICE, log entry 38: R162 and R172 give no clear order). -/
def eventRouting (client : Byte) (p : List Byte) (s : State) : Answer :=
  match (if p.length = 3 && u8At p 1 ≤ 1 && u8At p 2 ≤ 1 then namedSources (u8At p 0) else none) with
  | none => .refuse s .badArgument
  | some m =>
    if client ≠ 0 then .refuse s .notPermitted
    else
      let t :=
        { s with
          events :=
            { s.events with
              lineB := putBits s.events.lineB m (u8At p 1 = 1), enable := putBits s.events.enable m (u8At p 2 = 1) } }
      .ok t (u24 t.events.lineB.toNat ++ u24 t.events.enable.toNat ++ u8 t.linesByte)

/-! ## The store (R185 to R187) -/

/-- STORE_READ (R187). -/
def storeRead (p : List Byte) (s : State) : Answer :=
  if p.length ≠ 1 || 30 < u8At p 0 then .refuse s .badArgument
  else if s.store.writer.isSome then .refuse s .storeBusy
  else
    let r := s.store.row (u8At p 0)
    .ok s
      (u8 (u8At p 0) ++ r.bytes ++ [r.check] ++ flag r.good ++ flag (s.store.defect.getLsbD (u8At p 0)) ++
        u16 s.store.writeCount)

/-- STORE_WRITE (R185). -/
def storeWrite (client : Byte) (p : List Byte) (s : State) : Answer :=
  if p.length ≠ 16 || 30 < u8At p 0 then .refuse s .badArgument
  else if client ≠ 0 then .refuse s .notPermitted
  else if s.store.writer.isSome then .refuse s .storeBusy
  else if 4000 ≤ s.store.writeCount then .refuse s .storeWorn
  else
    let w : Writing := { row := u8At p 0, data := tabOf 15 (fun i => p.getD (i + 1) 0), left := 8 }
    .ok { s with store := { s.store with writeCount := s.store.writeCount + 1, writer := some w } }
      (u8 (u8At p 0) ++ u16 (s.store.writeCount + 1))

/-- A row write completes, if one runs (R186). -/
def State.storeWriteEnd (s : State) : State :=
  match s.store.writer with
  | none => s
  | some w =>
    { s with store := { s.store with rows := tabSet s.store.rows w.row (.written w.data), writer := none } }.raise
      .storeDone

/-! ## Part requests (R175, R176) -/

/-- PART_INFO (R176); byte 13 is the buffer's state before the request. -/
def partInfo (p : List Byte) (s : State) : Answer :=
  if p.length ≠ 0 then .refuse s .badArgument
  else
    .ok s
      ([0x5A, 0x08, 1] ++ u8 (bandCode s.tuners.plan) ++ u8 s.port.resetKind.code ++ u8 s.sup.state.code ++
        flag s.port.rearLock ++ u16 s.store.writeCount ++ u32 s.store.defect.toNat ++ u8 s.port.buffer.code)

/-- PART_RESET (R175): the reset is pending, at most 50 ms. -/
def partReset (client : Byte) (p : List Byte) (s : State) : Answer :=
  if p.length ≠ 0 then .refuse s .badArgument
  else if client ≠ 0 then .refuse s .notPermitted
  else .ok { s with port.resetPending := some 50 } []

/-! ## Other transfers -/

/-- A good frame whose code is not in the catalogue (R172): a valid request answered UNKNOWN_REQUEST. -/
def State.unknownRequest (s : State) (code client : Byte) (payload : List Byte) : State :=
  let frame := requestFrame code client payload
  if !s.takesRequests then s.ignoreTransfer frame.length
  else if 60 < payload.length then s.answered frame (response code .badFrame [])
  else s.validRequest.answered frame (response code .unknownRequest [])

/-- A request transfer whose frame fails the check (R169): BAD_FRAME, and nothing for the watchdog. -/
def State.badFrame (s : State) (first : Byte) (bytes : List Byte) : State :=
  if !s.takesRequests then s.ignoreTransfer bytes.length else s.answered bytes (response first .badFrame [])

/-- A read transfer (R168, R171): without a complete byte, or in reset or start-up, it is ignored; reading the whole
response of a pending part reset lets the reset take effect (R175). -/
def State.readTransfer (s : State) (clocked : Nat) : State :=
  if clocked = 0 then s
  else if s.port.phase ≠ .running then s.ignoreTransfer clocked
  else if s.port.resetPending.isSome && s.port.buffer.readInFull clocked then (s.readOut clocked).partReset
  else s.readOut clocked

/-! ## Resets (R174) -/

/-- The part held in reset: a pending part reset is not taken, a row write is aborted (R175, R186). -/
def State.hold (s : State) : State :=
  let t := s.abortWrite
  { t with port := { t.port with phase := .held, resetPending := none } }

/-- RESET_N falls, or the supply is lost (R174). -/
def State.resetAssert (s : State) (c : ResetCause) : State :=
  match c with
  | .resetN => { s with pins.resetN := false }.hold
  | .supplyLost => { s with pins.supply := false }.hold

/-- RESET_N rises, from low: with supply present start-up begins, the straps latched (R62, R174). -/
def State.resetRelease (s : State) (straps : BandPlan) : State :=
  if s.pins.resetN then s
  else
    let t := { s with pins.resetN := true }
    if s.pins.supply then t.startUp .powerOn straps else t

/-- Supply reaches its working level, from below: with RESET_N high start-up begins (R174). -/
def State.supplyApplied (s : State) (straps : BandPlan) : State :=
  if s.pins.supply then s
  else
    let t := { s with pins.supply := true }
    if s.pins.resetN then t.startUp .powerOn straps else t

/-- Start-up ends: the start-up response is placed and READY rises (R174). -/
def State.startUpEnd (s : State) : State :=
  if s.port.phase = .startUp then
    { s with port := { s.port with phase := .running, buffer := .unread s.startUpResponse } }
  else s

/-! ## The meanings -/

/-- EVENT_FETCH (R180). -/
def execEventFetch (client : Byte) (payload : List Byte) (s : State) : Host.Outcome State Fault Refusal :=
  .next (s.request .eventFetch client payload (eventFetch payload))

/-- EVENT_ROUTING (R181). -/
def execEventRouting (client : Byte) (payload : List Byte) (s : State) : Host.Outcome State Fault Refusal :=
  .next (s.request .eventRouting client payload (eventRouting client payload))

/-- STORE_READ (R187). -/
def execStoreRead (client : Byte) (payload : List Byte) (s : State) : Host.Outcome State Fault Refusal :=
  .next (s.request .storeRead client payload (storeRead payload))

/-- STORE_WRITE (R185). -/
def execStoreWrite (client : Byte) (payload : List Byte) (s : State) : Host.Outcome State Fault Refusal :=
  .next (s.request .storeWrite client payload (storeWrite client payload))

/-- PART_INFO (R176). -/
def execPartInfo (client : Byte) (payload : List Byte) (s : State) : Host.Outcome State Fault Refusal :=
  .next (s.request .partInfo client payload (partInfo payload))

/-- PART_RESET (R175). -/
def execPartReset (client : Byte) (payload : List Byte) (s : State) : Host.Outcome State Fault Refusal :=
  .next (s.request .partReset client payload (partReset client payload))

/-- UNKNOWN_REQUEST (R172); a code of the catalogue spells another row, and 0 a read transfer. -/
def execUnknownRequest (code client : Byte) (payload : List Byte) (s : State) : Host.Outcome State Fault Refusal :=
  if code = 0 || inCatalogue code then .refused .anotherCommand else .next (s.unknownRequest code client payload)

/-- BAD_FRAME with the bytes received (R169); no byte is no transfer (R168), a first byte 0 a read transfer, bytes that
pass the check another row. -/
def execBadFrame (bytes : List Byte) (s : State) : Host.Outcome State Fault Refusal :=
  match bytes with
  | [] => .next s
  | b :: _ => if b = 0 || frameGood bytes then .refused .anotherCommand else .next (s.badFrame b bytes)

/-- READ_TRANSFER of a number of bytes clocked (R171). -/
def execReadTransfer (clocked : Nat) (s : State) : Host.Outcome State Fault Refusal := .next (s.readTransfer clocked)

/-- PART_RESET_TIMEOUT: a pending part reset takes effect (R175). -/
def execPartResetTimeout (s : State) : Host.Outcome State Fault Refusal :=
  .next (if s.port.phase = .running && s.port.resetPending.isSome then s.partReset else s)

/-- RESET_N_ASSERT (R174). -/
def execResetNAssert (cause : ResetCause) (s : State) : Host.Outcome State Fault Refusal := .next (s.resetAssert cause)

/-- RESET_N_RELEASE with the straps' levels (R62, R174). -/
def execResetNRelease (straps : BandPlan) (s : State) : Host.Outcome State Fault Refusal := .next (s.resetRelease straps)

/-- START_UP_END (R174). -/
def execStartUpEnd (s : State) : Host.Outcome State Fault Refusal := .next s.startUpEnd

/-- STORE_WRITE_END (R186). -/
def execStoreWriteEnd (s : State) : Host.Outcome State Fault Refusal := .next (s.unlessHeld s.storeWriteEnd)

/-- SUPPLY_APPLICATION with the straps' levels (R62, R174). -/
def execSupplyApplication (straps : BandPlan) (s : State) : Host.Outcome State Fault Refusal :=
  .next (s.supplyApplied straps)

end Sys2Proof.Machine
end

