-- ==== Sys2Proof/Machine/PhonePort.lean ====
section
/-! DEFINITION. The Phone Audio Port (chapter 6): control words, clock and rate, negotiation, hold-off, requests. -/

namespace Sys2Proof.Machine

/-! ## Control words (R122) -/

/-- The number of ones among the low `n` bits of a word. -/
def onesBelow (n : Nat) (w : BitVec 16) : Nat := (List.range n).countP (fun k => w.getLsbD k)

/-- The kind of a word (R122). -/
def wordKindOf (n : Nat) : Option WordKind :=
  match n with
  | 1 => some .advertise
  | 2 => some .ack
  | 3 => some .idle
  | _ => none

/-- The content of a received word; none where it is not valid (R122). -/
def wordOf (w : BitVec 16) : Option ControlWord :=
  match wordKindOf (w.toNat / 16384) with
  | none => none
  | some k =>
    let sel := modeOf (w.toNat / 512 % 4)
    if onesBelow 16 w % 2 = 1 && (k = .advertise) = sel.isNone then
      some
        { kind := k, caps := ⟨w.getLsbD 11, w.getLsbD 12, w.getLsbD 13⟩, selected := sel, fault := w.getLsbD 8 }
    else none

/-- The bits of a word, its parity bit chosen for an odd number of ones (R122). -/
def ControlWord.bits (w : ControlWord) : BitVec 16 :=
  let v :=
    BitVec.ofNat 16
      (16384 * w.kind.code + weigh w.caps.swb 8192 + weigh w.caps.wb 4096 + weigh w.caps.nb 2048 +
        512 * modeCode w.selected + weigh w.fault 256)
  if onesBelow 16 v % 2 = 1 then v else v ||| 1#16

/-- The word the part sends in the frames that carry one (R122); none in the link states that send no words. -/
def Phone.wordSent (p : Phone) : Option ControlWord :=
  match p.link with
  | .negotiating => some { kind := .advertise, caps := p.inUse, selected := none, fault := p.ownFault }
  | .acknowledging => some { kind := .ack, caps := p.inUse, selected := p.selected, fault := false }
  | .up => some { kind := .idle, caps := p.inUse, selected := p.mode, fault := false }
  | _ => none

/-- The word count a number of frames later: it runs in the link states that send words, and every 32nd frame after the
first carries a word (R122). -/
def Phone.framesOn (p : Phone) (n : Nat) : Phone :=
  if p.wordSent.isSome then { p with wordCount := (p.wordCount + n) % 32 } else p

/-- The control slot of data out in the next frame (R122): the part's word where the frame carries one, else zero. -/
def Phone.controlSlot (p : Phone) : BitVec 16 :=
  match p.wordSent with
  | some w => if p.wordCount = 0 then w.bits else 0
  | none => 0

/-! ## Entries into link states -/

/-- The word run emptied. -/
def Phone.emptyRun (p : Phone) : Phone := { p with runWord := none, runCount := 0 }

/-- Entry into NEGOTIATING (R125): the word count starts afresh, so that the first frame carries a word (R122). -/
def Phone.toNegotiating (p : Phone) : Phone :=
  { p.emptyRun with
    link := .negotiating, mode := none, negotiated := false, selected := none, inUse := p.stored, upRate := none
    silence := some 300, holdOff := none, wordCount := 0 }

/-- Entry into ACKNOWLEDGING with a selected mode (R126). -/
def Phone.toAcknowledging (p : Phone) (m : Mode) : Phone :=
  { p.emptyRun with link := .acknowledging, selected := some m, ownFault := false }

/-- Entry into UP in a mode (R127, R130). -/
def Phone.toUp (p : Phone) (m : Mode) (negotiated : Bool) : Phone :=
  { p.emptyRun with
    link := .up, mode := some m, negotiated := negotiated, selected := none, upRate := some m, silence := none
    ownFault := false, detectionFault := false }

/-- The items of a link that is not negotiating cleared (R123, R131). -/
def Phone.cleared (p : Phone) : Phone :=
  { p.emptyRun with
    mode := none, negotiated := false, selected := none, upRate := none, partner := none, silence := none
    ownFault := false, detectionFault := false, partnerFault := false, wordCount := 0 }

/-- Entry into DOWN (R123, R133). -/
def Phone.toDown (p : Phone) : Phone := { p.cleared with link := .down, holdOff := none }

/-- Entry into HOLD_OFF, or its timer set again (R131). -/
def Phone.toHoldOff (p : Phone) : Phone := { p.cleared with link := .holdOff, holdOff := some 400 }

/-! ## Partner words (R126 to R128) -/

/-- The best mode of two sets (R126). -/
def bestCommon (a b : ModeSet) : Option Mode :=
  if a.swb && b.swb then some .swb else if a.wb && b.wb then some .wb else if a.nb && b.nb then some .nb else none

/-- A word counted as the first of a run. -/
def Phone.startRun (p : Phone) (w : ControlWord) : Phone := { p with runWord := some w, runCount := 1 }

/-- An ADVERTISE in NEGOTIATING (R126): the common set is formed when a word brings the count to 3. -/
def Phone.advertised (p : Phone) (w : ControlWord) : Phone :=
  if p.runWord = some w then
    let q := { p with runCount := min 3 (p.runCount + 1) }
    if p.runCount = 2 then
      match bestCommon p.inUse w.caps with
      | some m => q.toAcknowledging m
      | none => { q with ownFault := true }
    else q
  else p.startRun w

/-- Whether the link may enter UP from ACKNOWLEDGING (R127). -/
def Phone.agreed (p : Phone) : Option Mode :=
  match p.selected with
  | some m => if p.runCount = 3 && p.rate = .mode m then some m else none
  | none => none

/-- The entry into UP where count and rate allow it (R127). -/
def Phone.settle (p : Phone) : Phone :=
  match p.agreed with
  | some m => p.toUp m true
  | none => p

/-- A valid word taken as the partner word (R122): the silence timer restarts where it runs (R129). -/
def Phone.heard (p : Phone) (w : ControlWord) : Phone :=
  { p with partner := some w, partnerFault := w.fault, silence := p.silence.map (fun _ => 300) }

/-- A return to NEGOTIATING by a partner word, an ADVERTISE being counted there (R127, R128). -/
def Phone.renegotiate (p : Phone) (w : ControlWord) : Phone :=
  if w.kind = .advertise then p.toNegotiating.startRun w else p.toNegotiating

/-- A valid partner word acting on the negotiation (R126 to R128). -/
def Phone.word (p : Phone) (w : ControlWord) : Phone :=
  match p.link with
  | .negotiating => if w.kind = .advertise then (p.heard w).advertised w else (p.heard w).emptyRun
  | .acknowledging =>
    let q := p.heard w
    if w.kind ≠ .advertise && w.selected = p.selected then
      { q with runWord := some w, runCount := min 3 (q.runCount + 1) }.settle
    else q.renegotiate w
  | .up =>
    let q := p.heard w
    if w.kind = .advertise || (p.negotiated && w.selected ≠ p.mode) then q.renegotiate w else q
  | _ => p

/-! ## Clock, rate and timers (R123, R124, R129 to R131) -/

/-- The rate class of a frame rate in Hz while the clock is PRESENT (R124): within 2 % of 8, 16 or 32 kHz. -/
def rateClassOf (rate : Nat) : RateClass :=
  if 7840 ≤ rate && rate ≤ 8160 then .mode .nb
  else if 15680 ≤ rate && rate ≤ 16320 then .mode .wb
  else if 31360 ≤ rate && rate ≤ 32640 then .mode .swb
  else .other

/-- The detector becomes PRESENT (R123, R133). The rate class stays NONE until the next span ends (DESIGN CHOICE, log entry
46: R124 judges at span ends, the example 6.11 shows a class with PRESENT). -/
def Phone.clockPresent (p : Phone) (quiet : Bool) : Phone :=
  let q := { p with clock := true }
  if p.link = .down && !quiet then q.toNegotiating else q

/-- The detector becomes ABSENT: the rate class is NONE (R123, R124). -/
def Phone.clockAbsent (p : Phone) : Phone :=
  let q := { p with clock := false, rate := .none }
  match p.link with
  | .negotiating => q.toDown
  | .acknowledging => q.toDown
  | .up => q.toDown
  | _ => q

/-- The end of a 4 ms span (R124, R127, R128). -/
def Phone.spanEnd (p : Phone) (rate : Nat) : Phone :=
  let c := if p.clock then rateClassOf rate else .none
  if c = p.rate then p
  else
    let q := { p with rate := c }
    match p.link with
    | .up => q.toNegotiating
    | .acknowledging => q.settle
    | _ => q

/-- A rate detection (R130). -/
def Phone.detect (p : Phone) : Phone :=
  let fault := { p with detectionFault := true }
  let missed := if p.link = .acknowledging then fault.toNegotiating else { fault with silence := some 300 }
  match p.rate with
  | .mode m => if p.inUse.has m then p.toUp m false else missed
  | _ => missed

/-- The hold-off ends (R131). -/
def Phone.holdOffEnd (p : Phone) : Phone := if p.clock then p.toNegotiating else p.toDown

/-! ## Requests -/

/-- PHONE_ADVERTISE (R134). -/
def phoneAdvertise (client : Byte) (p : List Byte) (s : State) : Answer :=
  if p.length ≠ 1 || u8At p 0 < 1 || 7 < u8At p 0 then .refuse s .badArgument
  else if client ≠ 0 then .refuse s .notPermitted
  else
    let m := modeSetOf (u8At p 0)
    .ok { s with phone.stored := m } (u8 m.sum ++ u8 s.phone.inUse.sum ++ u8 s.phone.link.code)

/-- PHONE_RESTART (R131): for client 0 and for the owner of a leg. -/
def phoneRestart (client : Byte) (p : List Byte) (s : State) : Answer :=
  if p.length ≠ 0 then .refuse s .badArgument
  else if client ≠ 0 && !s.calls.legs.any (fun l => l.owner = client.toNat) then .refuse s .notPermitted
  else .ok (s.setPhone s.phone.toHoldOff) (u8 LinkState.holdOff.code)

/-- The partner word as PHONE_GET reports it (R135). -/
def partnerBytes (w : Option ControlWord) : List Byte :=
  match w with
  | none => [0, 0, 0, 0]
  | some w => u8 w.kind.code ++ u8 w.caps.sum ++ u8 (modeCode w.selected) ++ flag w.fault

/-- The fields of PHONE_GET in order (R135). -/
def Phone.fields (p : Phone) : List Byte :=
  u8 p.link.code ++ u8 (modeCode p.mode) ++ flag p.negotiated ++ u8 (modeCode p.selected) ++ u8 p.stored.sum ++
    u8 p.inUse.sum ++ flag p.clock ++ u8 p.rate.code ++ u8 p.runCount ++ partnerBytes p.partner ++ flag p.ownFault ++
    flag p.detectionFault ++ flag p.partnerFault ++ u16 (orZero p.holdOff)

/-- PHONE_GET (R135). -/
def phoneGet (p : List Byte) (s : State) : Answer :=
  if p.length ≠ 0 then .refuse s .badArgument else .ok s s.phone.fields

/-! ## The meanings -/

/-- PHONE_ADVERTISE (R134). -/
def execPhoneAdvertise (client : Byte) (payload : List Byte) (s : State) : Host.Outcome State Fault Refusal :=
  .next (s.request .phoneAdvertise client payload (phoneAdvertise client payload))

/-- PHONE_RESTART (R131). -/
def execPhoneRestart (client : Byte) (payload : List Byte) (s : State) : Host.Outcome State Fault Refusal :=
  .next (s.request .phoneRestart client payload (phoneRestart client payload))

/-- PHONE_GET (R135). -/
def execPhoneGet (client : Byte) (payload : List Byte) (s : State) : Host.Outcome State Fault Refusal :=
  .next (s.request .phoneGet client payload (phoneGet payload))

/-- CLOCK_DETECT_PRESENT (R123): from ABSENT. -/
def execClockDetectPresent (s : State) : Host.Outcome State Fault Refusal :=
  .next (s.unlessHeld (if s.phone.clock then s else s.setPhone (s.phone.clockPresent (s.sup.state = .quiet))))

/-- CLOCK_DETECT_ABSENT (R123): from PRESENT. -/
def execClockDetectAbsent (s : State) : Host.Outcome State Fault Refusal :=
  .next (s.unlessHeld (if s.phone.clock then s.setPhone s.phone.clockAbsent else s))

/-- RATE_SPAN_END with the frame rate measured over the span, in Hz (R124). -/
def execRateSpanEnd (rate : Nat) (s : State) : Host.Outcome State Fault Refusal :=
  .next (s.unlessHeld (s.setPhone (s.phone.spanEnd rate)))

/-- PARTNER_WORD with the sixteen bits received; an invalid word is ignored (R122). -/
def execPartnerWord (word : BitVec 16) (s : State) : Host.Outcome State Fault Refusal :=
  .next
    (s.unlessHeld
      (match wordOf word with
        | some w => s.setPhone (s.phone.word w)
        | none => s))

/-- SILENCE_TIMER_EXPIRY: while the timer runs (R129). -/
def execSilenceTimerExpiry (s : State) : Host.Outcome State Fault Refusal :=
  .next (s.unlessHeld (if s.phone.silence.isSome then s.setPhone s.phone.detect else s))

/-- HOLD_OFF_EXPIRY: in HOLD_OFF (R131). -/
def execHoldOffExpiry (s : State) : Host.Outcome State Fault Refusal :=
  .next (s.unlessHeld (if s.phone.link = .holdOff then s.setPhone s.phone.holdOffEnd else s))

end Sys2Proof.Machine
end

