-- ==== Sys2Proof/Machine/Seats.lean ====
section
/-! DEFINITION. Rear-seat listening: jacks, safe start, cap, follow flag and rear lock (R110 to R118). -/

namespace Sys2Proof.Machine

/-! ## Jacks (R110 to R112) -/

/-- The zone of a headphone output. -/
def hpZone (o : HpOut) : Zone :=
  match o with
  | .hp1 => .hp1
  | .hp2 => .hp2

/-- The detector of an output. -/
def State.jack (s : State) (o : HpOut) : Jack :=
  match o with
  | .hp1 => s.jacks.j1
  | .hp2 => s.jacks.j2

/-- The detector of an output replaced. -/
def State.setJack (s : State) (o : HpOut) (j : Jack) : State :=
  match o with
  | .hp1 => { s with jacks.j1 := j }
  | .hp2 => { s with jacks.j2 := j }

/-- The level at a detect input. -/
def State.hpDet (s : State) (o : HpOut) : Bool :=
  match o with
  | .hp1 => s.pins.hpDet1
  | .hp2 => s.pins.hpDet2

/-- The level at a detect input replaced. -/
def State.setHpDet (s : State) (o : HpOut) (level : Bool) : State :=
  match o with
  | .hp1 => { s with pins.hpDet1 := level }
  | .hp2 => { s with pins.hpDet2 := level }

/-- The debounce after a change of the input's level: disagreement starts 50 ms, agreement stops the timer (R110). -/
def Jack.debounce (j : Jack) (level : Bool) : Jack :=
  { j with timer := if level = j.present then none else some 50 }

/-- A change of a detect input's level (R110). -/
def State.hpDetChange (s : State) (o : HpOut) (level : Bool) : State :=
  if s.hpDet o = level then s
  else
    let t := s.setHpDet o level
    if s.port.phase = .held then t else t.setJack o ((t.jack o).debounce level)

/-- The notice of a changed listener condition to the routes of a zone (R9, R10, R111, R112). -/
def State.listenerNotice (s : State) (z : Zone) : State := s.notice (fun r => r.zone = z) s.refresh

/-- The safe start (R112). -/
def State.safeStart (s : State) (z : Zone) : State :=
  if s.jacks.safeStart < (s.mixer.zone z).volume then s.setVolume z s.jacks.safeStart else s

/-- A jack state changed: a removal (R111) or an insertion (R112). -/
def State.jackChange (s : State) (o : HpOut) : State :=
  let present := !(s.jack o).present
  let t := s.setJack o { present := present, timer := none }
  let u := if present then t.safeStart (hpZone o) else t
  ((u.listenerNotice (hpZone o)).raise .headphone).arbitrate

/-- The debounce timer of an output runs out, if it runs (R110). -/
def State.hpDebounceExpiry (s : State) (o : HpOut) : State := if (s.jack o).timer.isSome then s.jackChange o else s

/-! ## Requests -/

/-- The HP zone of a zone code 3 or 4 (R114, R116). -/
def hpZoneOf (n : Nat) : Option Zone :=
  match n with
  | 3 => some .hp1
  | 4 => some .hp2
  | _ => none

/-- A cap put in force, and the step lowered to it (R113). -/
def State.setCap (s : State) (z : Zone) (cap : Nat) : State :=
  let t := { s with mixer := s.mixer.setZone z { s.mixer.zone z with cap := cap } }
  if cap < (s.mixer.zone z).volume then t.setVolume z cap else t

/-- HP_CAP (R114). -/
def hpCap (client : Byte) (p : List Byte) (s : State) : Answer :=
  match (if p.length = 2 then hpZoneOf (u8At p 0) else none) with
  | none => .refuse s .badArgument
  | some z =>
    if client ≠ 0 then .refuse s .notPermitted
    else
      let cap := min 40 (u8At p 1)
      let t := s.setCap z cap
      .ok t (u8 z.code ++ u8 cap ++ u8 (t.mixer.zone z).volume)

/-- HP_FOLLOW (R116). -/
def hpFollow (p : List Byte) (s : State) : Answer :=
  match (if p.length = 2 && u8At p 1 ≤ 1 then hpZoneOf (u8At p 0) else none) with
  | none => .refuse s .badArgument
  | some z =>
    let b : Bool := u8At p 1 = 1
    .ok { s with mixer := s.mixer.setZone z { s.mixer.zone z with follow := b } }
      (u8 z.code ++ flag b ++ u8 (s.mixer.zone z).volume)

/-- REAR_LOCK (R118). -/
def rearLock (client : Byte) (p : List Byte) (s : State) : Answer :=
  if p.length ≠ 1 || 1 < u8At p 0 then .refuse s .badArgument
  else if client ≠ 0 then .refuse s .notPermitted
  else
    let b : Bool := u8At p 0 = 1
    .ok { s with port.rearLock := b } (flag b)

/-! ## The meanings -/

/-- HP_CAP (R114). -/
def execHpCap (client : Byte) (payload : List Byte) (s : State) : Host.Outcome State Fault Refusal :=
  .next (s.request .hpCap client payload (hpCap client payload))

/-- HP_FOLLOW (R116). -/
def execHpFollow (client : Byte) (payload : List Byte) (s : State) : Host.Outcome State Fault Refusal :=
  .next (s.request .hpFollow client payload (hpFollow payload))

/-- REAR_LOCK (R118). -/
def execRearLock (client : Byte) (payload : List Byte) (s : State) : Host.Outcome State Fault Refusal :=
  .next (s.request .rearLock client payload (rearLock client payload))

/-- HP_DET_CHANGE: a detect input takes a level (R110). -/
def execHpDetChange (out : HpOut) (level : Bool) (s : State) : Host.Outcome State Fault Refusal :=
  .next (s.hpDetChange out level)

/-- HP_DEBOUNCE_EXPIRY (R110 to R112). -/
def execHpDebounceExpiry (out : HpOut) (s : State) : Host.Outcome State Fault Refusal :=
  .next (s.unlessHeld (s.hpDebounceExpiry out))

end Sys2Proof.Machine
end

