-- ==== Sys2Proof/Machine/StationRequests.lean ====
section
/-! DEFINITION. The requests on stations (R103 to R109). -/

namespace Sys2Proof.Machine

/-! ## Queries -/

/-- The area a list entry reports: 0 for no measurement (R103, R104). -/
def Station.areaByte (r : Station) : Nat :=
  match r.last with
  | some (_, a, _) => a.code
  | none => 0

/-- STATION_LIST (R103). -/
def stationList (p : List Byte) (s : State) : Answer :=
  if p.length ≠ 4 then .refuse s .badArgument
  else
    let matching := s.stations.records.filter (fun r => u16At p 2 = 0 || r.code = some (u16At p 2))
    let listed := (matching.filter (fun r => u16At p 0 ≤ r.frequency)).take 16
    .ok s
      ([s.stations.round] ++ u8 matching.length ++ u8 listed.length ++
        listed.flatMap (fun r => u16 r.frequency ++ u8 r.areaByte))

/-- The fields of STATION_GET in order (R104). -/
def State.stationFields (s : State) (r : Station) : List Byte :=
  u16 r.frequency ++ u16 (orZero r.code) ++ r.name.map (fun c => c.getD 0) ++ u8 (r.name.countP (fun c => c.isSome)) ++
    flag r.capable ++ flag r.active ++ u8 r.afList.length ++ r.afList.flatMap u16 ++ u8 (orZero (r.last.map (·.1))) ++
    u8 r.areaByte ++ u8 (orZero (r.last.map (fun m => m.2.2.code))) ++ u8 r.age ++ flag r.refreshed ++ flag r.pinned ++
    flag (s.stations.isInUse r.frequency)

/-- STATION_GET (R104). -/
def stationGet (p : List Byte) (s : State) : Answer :=
  if p.length ≠ 2 then .refuse s .badArgument
  else
    match s.stations.find (u16At p 0) with
    | none => .refuse s .notFound
    | some r => .ok s (s.stationFields r)

/-! ## Changes -/

/-- STATION_PIN (R105). -/
def stationPin (p : List Byte) (s : State) : Answer :=
  if p.length ≠ 3 || 1 < u8At p 2 then .refuse s .badArgument
  else
    match s.stations.find (u16At p 0) with
    | none => .refuse s .notFound
    | some r =>
      let b : Bool := u8At p 2 = 1
      .ok { s with stations := s.stations.update (u16At p 0) (fun r => { r with pinned := b }) }
        (u16 (u16At p 0) ++ flag b ++ u8 r.age)

/-- STATION_FORGET (R106). -/
def stationForget (p : List Byte) (s : State) : Answer :=
  if p.length ≠ 2 then .refuse s .badArgument
  else
    match s.stations.find (u16At p 0) with
    | none => .refuse s .notFound
    | some r => if s.stations.isInUse r.frequency then .refuse s .notPermitted else .ok (s.removeStation (u16At p 0)) []

/-- A code given to a record, none where it is 0 (R107). -/
def State.giveCode (s : State) (f c : Nat) : State := if c = 0 then s else s.applyCode f c

/-- STATION_ADD to an existing record (R107). -/
def State.addToExisting (s : State) (f c : Nat) (pin : Bool) : State :=
  (if pin then { s with stations := s.stations.update f (fun r => { r with pinned := true }) } else s).giveCode f c

/-- STATION_ADD (R107). -/
def stationAdd (p : List Byte) (s : State) : Answer :=
  if p.length ≠ 5 || !onRaster s.tuners.plan (u16At p 0) || 1 < u8At p 4 then .refuse s .badArgument
  else
    let f := u16At p 0
    let c := u16At p 2
    let pin : Bool := u8At p 4 = 1
    match s.stations.find f with
    | some r => .ok (s.addToExisting f c pin).arbitrate (u8 0 ++ flag (c ≠ 0 && r.code ≠ some c))
    | none =>
      match s.stations.inserted { Station.new f with pinned := pin } with
      | none => .refuse s .tableFull
      | some rs => .ok ((({ s with stations.records := rs }.stationChanged).giveCode f c).arbitrate) (u8 1 ++ flag (c ≠ 0))

/-- STATION_AGING (R108). -/
def stationAging (client : Byte) (p : List Byte) (s : State) : Answer :=
  if p.length ≠ 1 || u8At p 0 < 1 || 15 < u8At p 0 then .refuse s .badArgument
  else if client ≠ 0 then .refuse s .notPermitted
  else .ok { s with stations.retire := u8At p 0 } (u8 (u8At p 0) ++ [s.stations.round])

/-- ANNOUNCE_FOLLOW (R109). -/
def announceFollow (client : Byte) (p : List Byte) (s : State) : Answer :=
  if p.length ≠ 1 || 31 < u8At p 0 then .refuse s .badArgument
  else if client ≠ 0 then .refuse s .notPermitted
  else .ok { s with stations.follow := zoneSetOf (u8At p 0) } (u8 (u8At p 0) ++ flag s.stations.announcing)

/-! ## The meanings -/

/-- STATION_LIST (R103). -/
def execStationList (client : Byte) (payload : List Byte) (s : State) : Host.Outcome State Fault Refusal :=
  .next (s.request .stationList client payload (stationList payload))

/-- STATION_GET (R104). -/
def execStationGet (client : Byte) (payload : List Byte) (s : State) : Host.Outcome State Fault Refusal :=
  .next (s.request .stationGet client payload (stationGet payload))

/-- STATION_PIN (R105). -/
def execStationPin (client : Byte) (payload : List Byte) (s : State) : Host.Outcome State Fault Refusal :=
  .next (s.request .stationPin client payload (stationPin payload))

/-- STATION_FORGET (R106). -/
def execStationForget (client : Byte) (payload : List Byte) (s : State) : Host.Outcome State Fault Refusal :=
  .next (s.request .stationForget client payload (stationForget payload))

/-- STATION_ADD (R107). -/
def execStationAdd (client : Byte) (payload : List Byte) (s : State) : Host.Outcome State Fault Refusal :=
  .next (s.request .stationAdd client payload (stationAdd payload))

/-- STATION_AGING (R108). -/
def execStationAging (client : Byte) (payload : List Byte) (s : State) : Host.Outcome State Fault Refusal :=
  .next (s.request .stationAging client payload (stationAging client payload))

/-- ANNOUNCE_FOLLOW (R109). -/
def execAnnounceFollow (client : Byte) (payload : List Byte) (s : State) : Host.Outcome State Fault Refusal :=
  .next (s.request .announceFollow client payload (announceFollow client payload))

end Sys2Proof.Machine
end

