-- ==== Sys2Proof/Machine/Supervise.lean ====
section
/-! DEFINITION. Alerts, direct lines, the watchdog, LIMP and QUIET (chapter 8). -/

namespace Sys2Proof.Machine

/-! ## Alert limits and direct lines -/

/-- ALERT_LIMITS (R160, R42). -/
def alertLimits (client : Byte) (p : List Byte) (s : State) : Answer :=
  if p.length ≠ 3 then .refuse s .badArgument
  else if client ≠ 0 then .refuse s .notPermitted
  else
    let floor := fit (-240) 0 (i16At p 0)
    let d := fitNat 1 120 (u8At p 2)
    .ok ({ s with mixer.alertFloor := floor, alertMax := d }.retargetWhere (fun r => r.cls = RouteClass.alert) .normal)
      (i16 floor ++ u8 d)

/-- The fields of DIRECT_LINE_GET in order (R161). -/
def Line.fields (n : Nat) (l : Line) : List Byte :=
  u8 n ++ flag l.enabled ++ flag l.activeLow ++ u8 l.pattern ++ u8 l.zones.sum ++ i16 l.level ++ flag l.quiet ++
    u8 l.state.code ++ flag l.timer.isSome ++ u8 l.routes.length ++ l.routes.flatMap handleBytes

/-- DIRECT_LINE_GET (R161). -/
def directLineGet (p : List Byte) (s : State) : Answer :=
  if p.length ≠ 1 then .refuse s .badArgument
  else if h : u8At p 0 < 4 then .ok s ((s.lines.get ⟨u8At p 0, h⟩).fields (u8At p 0))
  else .refuse s .badArgument

/-- The debounce after a change of a line's pin (R156). -/
def Line.debounce (l : Line) (level : Bool) : Line :=
  { l with timer := if l.assertedBy level = l.state.isAsserted then none else some 20 }

/-- A change of a line's pin (R156). -/
def State.alertInChange (s : State) (i : Fin 4) (level : Bool) : State :=
  if s.pins.alertIn.get i = level then s
  else
    let t := { s with pins.alertIn := s.pins.alertIn.set i level }
    if s.port.phase = .held then t else { t with lines := t.lines.set i ((t.lines.get i).debounce level) }

/-- A line's debounce timer runs out, if it runs: an assertion or a release (R156 to R158). -/
def State.lineDebounceExpiry (s : State) (i : Fin 4) : State :=
  if (s.lines.get i).timer.isSome then
    if (s.lines.get i).state.isAsserted then s.releaseLine i else s.assertLine i
  else s

/-- The line whose route list holds a cut route's handle, if ASSERTED, is latched out (R159). -/
def Line.latch (h : Handle) (l : Line) : Line :=
  if l.state = .asserted && l.routes.contains h then { l with state := .latchedOut } else l

/-- The alert cut of the route in a slot (R159): nothing for a route that is CLOSING or no ALERT. -/
def State.alertCut (s : State) (slot : Nat) : State :=
  match s.routeIn slot with
  | none => s
  | some r =>
    if r.cls = .alert && r.state ≠ .closing then
      let s1 := { s with routes := onSlot slot (fun r => { r with cut := true }) s.routes }
      let s2 := (s1.retireSlots true false [slot]).raise .alertCut
      if r.owner = 7 then { s2 with lines := s2.lines.map (Line.latch r.handle) } else s2
    else s

/-- The end of a finite pattern on the TONE route in a slot (R154, R30): playback ends, the route is auto-retired. -/
def State.tonePatternEnd (s : State) (slot : Nat) : State :=
  match s.routeIn slot with
  | none => s
  | some r =>
    match r.source with
    | .tone n =>
      if (tabGet s.tones n builtInPattern).repeats = 0 then s
      else { s with routes := onSlot slot (fun r => { r with play := none }) s.routes }.retireSlots true false [slot]
    | _ => s

/-! ## Watchdog, LIMP -/

/-- State and time left of the watchdog, as reported (R165). -/
def Supervision.watchdogBytes (u : Supervision) : List Byte := flag u.left.isSome ++ u16 (orZero u.left)

/-- WATCHDOG (R165): the period put in force; R162 arms or restarts the watchdog with it. -/
def setWatchdog (client : Byte) (p : List Byte) (s : State) : Answer :=
  match (if p.length = 1 then periodOf (u8At p 0) else none) with
  | none => .refuse s .badArgument
  | some k =>
    if client ≠ 0 then .refuse s .notPermitted
    else
      { state := { s with sup := { s.sup with period := k, left := if k = .off then none else s.sup.left } }
        result := .ok
        reply := fun t => u8 t.sup.period.code ++ t.sup.watchdogBytes }

/-- KEEPALIVE (R165). -/
def keepalive (p : List Byte) (s : State) : Answer :=
  if p.length ≠ 0 then .refuse s .badArgument
  else { state := s, result := .ok, reply := fun t => u8 t.sup.state.code ++ t.sup.watchdogBytes }

/-- LIMP left (R164). -/
def State.leaveLimp (s : State) : State :=
  ({ s with sup.state := .run }.rerunAll [.cabinGroup, .hp1, .hp2]).arbitrate

/-- RESUME (R164); in QUIET the port has answered already (R167). -/
def resumeRun (client : Byte) (p : List Byte) (s : State) : Answer :=
  if p.length ≠ 0 then .refuse s .badArgument
  else if client ≠ 0 then .refuse s .notPermitted
  else .ok (if s.sup.state = .limp then s.leaveLimp else s) (u8 SupState.run.code)

/-! ## QUIET -/

/-- Whether a route is kept at QUIET entry (R31). -/
def State.keptInQuiet (s : State) (r : Route) : Bool :=
  r.owner = 7 &&
    match r.line with
    | some i => (s.lines.get i).quiet
    | none => false

/-- The forced removals of QUIET entry (R31), with the reference change of those that sounded (R32). -/
def State.forceRemovals (s : State) : State :=
  let gone := s.routes.filter (fun r => !s.keptInQuiet r)
  let t := (gone.map (fun r => r.slot)).foldl (fun u k => u.removeRoute k true) s
  let u := if gone.any (fun r => r.zone.domain = .cabinGroup && r.state.sounding) then t.referenceChange else t
  u.rerunAll [.cabinGroup, .hp1, .hp2]

/-- The Tuner Allocator at QUIET entry (R64): scan steps cancelled, everything given up. -/
def State.quietTuners (s : State) : State :=
  let t := (s.cancelScan .t1).cancelScan .t2
  { t with
    tuners :=
      { t.tuners with t1 := .free, t2 := .free, link := .none, interval := none, watch := none, waiting := [] }
    stations := { t.stations with inUse := [], fullRaised := [] } }

/-- The Station Table at QUIET entry (R89, R100). -/
def State.quietStations (s : State) : State :=
  { s with stations := { s.stations with watch := none, announcing := false, announced := [] } }

/-- A line at QUIET entry: ASSERTED without works in QUIET, it keeps its state with an empty route list (R166). -/
def Line.quieted (l : Line) : Line := if l.state = .asserted && !l.quiet then { l with routes := [] } else l

/-- QUIET entered from RUN (R166). -/
def State.enterQuiet (s : State) : State :=
  let t := { s with sup := { s.sup with state := .quiet, left := none } }
  let u := t.forceRemovals.quietTuners.quietStations
  { u with lines := u.lines.map Line.quieted }.setPhone u.phone.toDown

/-- QUIET_ENTER (R166): the response carries the number of routes removed. -/
def quietEnter (client : Byte) (p : List Byte) (s : State) : Answer :=
  if p.length ≠ 0 then .refuse s .badArgument
  else if client ≠ 0 then .refuse s .notPermitted
  else if s.sup.state = .quiet then .ok s (u8 0)
  else if s.calls.legs ≠ [] then .refuse s .callPresent
  else .ok s.enterQuiet (u8 (s.routes.filter (fun r => !s.keptInQuiet r)).length)

/-- QUIET left (R167, R133, R64, R70). -/
def State.leaveQuiet (s : State) : State :=
  let t := { s with sup.state := .run }
  (if t.phone.clock then t.setPhone t.phone.toNegotiating else t).arbitrate

/-- QUIET_EXIT (R167). -/
def quietExit (client : Byte) (p : List Byte) (s : State) : Answer :=
  if p.length ≠ 0 then .refuse s .badArgument
  else if client ≠ 0 then .refuse s .notPermitted
  else .ok (if s.sup.state = .quiet then s.leaveQuiet else s) (u8 SupState.run.code)

/-! ## The meanings -/

/-- ALERT_LIMITS (R160). -/
def execAlertLimits (client : Byte) (payload : List Byte) (s : State) : Host.Outcome State Fault Refusal :=
  .next (s.request .alertLimits client payload (alertLimits client payload))

/-- DIRECT_LINE_GET (R161). -/
def execDirectLineGet (client : Byte) (payload : List Byte) (s : State) : Host.Outcome State Fault Refusal :=
  .next (s.request .directLineGet client payload (directLineGet payload))

/-- WATCHDOG (R165). -/
def execWatchdog (client : Byte) (payload : List Byte) (s : State) : Host.Outcome State Fault Refusal :=
  .next (s.request .watchdog client payload (setWatchdog client payload))

/-- KEEPALIVE (R165). -/
def execKeepalive (client : Byte) (payload : List Byte) (s : State) : Host.Outcome State Fault Refusal :=
  .next (s.request .keepalive client payload (keepalive payload))

/-- RESUME (R164). -/
def execResume (client : Byte) (payload : List Byte) (s : State) : Host.Outcome State Fault Refusal :=
  .next (s.request .resume client payload (resumeRun client payload))

/-- QUIET_ENTER (R166). -/
def execQuietEnter (client : Byte) (payload : List Byte) (s : State) : Host.Outcome State Fault Refusal :=
  .next (s.request .quietEnter client payload (quietEnter client payload))

/-- QUIET_EXIT (R167). -/
def execQuietExit (client : Byte) (payload : List Byte) (s : State) : Host.Outcome State Fault Refusal :=
  .next (s.request .quietExit client payload (quietExit client payload))

/-- WATCHDOG_EXPIRY: an ARMED watchdog runs out (R162, R163). -/
def execWatchdogExpiry (s : State) : Host.Outcome State Fault Refusal :=
  .next (s.unlessHeld (if s.sup.left.isSome then s.enterLimp else s))

/-- ALERT_CUT: the ALERT route in a slot has reached its maximum duration (R159). -/
def execAlertCut (slot : Nat) (s : State) : Host.Outcome State Fault Refusal :=
  .next (s.unlessHeld (s.alertCut slot))

/-- TONE_PATTERN_END: the finite pattern of the TONE route in a slot has played out (R154). -/
def execTonePatternEnd (slot : Nat) (s : State) : Host.Outcome State Fault Refusal :=
  .next (s.unlessHeld (s.tonePatternEnd slot))

/-- ALERT_IN_CHANGE: a line's pin takes a level (R156). -/
def execAlertInChange (line : Fin 4) (level : Bool) (s : State) : Host.Outcome State Fault Refusal :=
  .next (s.alertInChange line level)

/-- LINE_DEBOUNCE_EXPIRY (R156 to R158). -/
def execLineDebounceExpiry (line : Fin 4) (s : State) : Host.Outcome State Fault Refusal :=
  .next (s.unlessHeld (s.lineDebounceExpiry line))

end Sys2Proof.Machine
end

