-- ==== Sys2Proof/Machine/Tuners.lean ====
section
/-! DEFINITION. The requests on tuners (R69, R85 to R87) and the events of the front ends (R67 to R84, R97). -/

namespace Sys2Proof.Machine

/-! ## TUNER_POLICY and QUALITY_LIMITS -/

/-- A policy put in force (R85): a pairing ends where the policy forbids it (R76); the interval timer runs while PAIRED
under INTERLEAVED (R74, R75). A break goes on to its step's end (R75). -/
def State.setPolicy (s : State) (q : TunerPolicy) : State :=
  let t := { s with tuners.policy := q }
  if t.tuners.link = .paired then
    if !q.diversity || q.scan = .full then t.unpair
    else if q.scan ≠ .interleaved then { t with tuners.interval := none }
    else if t.tuners.interval.isNone then { t with tuners.interval := some (1000 * q.interval) }
    else t
  else t

/-- The five values of a policy (R85, R87). -/
def TunerPolicy.bytes (q : TunerPolicy) : List Byte :=
  flag q.diversity ++ flag q.cancel ++ u8 q.scan.code ++ u8 q.interval ++ u8 q.hysteresis

/-- TUNER_POLICY (R85). -/
def tunerPolicy (client : Byte) (p : List Byte) (s : State) : Answer :=
  if p.length ≠ 5 || 1 < u8At p 0 || 1 < u8At p 1 || u8At p 3 < 1 || 60 < u8At p 3 || 30 < u8At p 4 then
    .refuse s .badArgument
  else
    match scanPolicyOf (u8At p 2) with
    | none => .refuse s .badArgument
    | some k =>
      if client ≠ 0 then .refuse s .notPermitted
      else
        let q : TunerPolicy :=
          { diversity := u8At p 0 = 1, cancel := u8At p 1 = 1, scan := k, interval := u8At p 3, hysteresis := u8At p 4 }
        .ok (s.setPolicy q).arbitrate q.bytes

/-- QUALITY_LIMITS (R86). -/
def qualityLimits (client : Byte) (p : List Byte) (s : State) : Answer :=
  match (if p.length = 3 then reportOf (u8At p 2) else none) with
  | none => .refuse s .badArgument
  | some k =>
    if client ≠ 0 then .refuse s .notPermitted
    else
      let low := min 120 (u8At p 0)
      let high := max low (min 120 (u8At p 1))
      .ok { s with stations := { s.stations with bLow := low, bHigh := high }, tuners.report := k }
        (u8 low ++ u8 high ++ u8 k.code)

/-! ## TRAFFIC_WATCH and TUNER_GET -/

/-- The tuner the watch is attached to (R69). -/
def State.watchTuner (s : State) : Option TunerId :=
  if s.tuners.t1.watch then some .t1 else if s.tuners.t2.watch then some .t2 else none

/-- The code of the watch state: 0 NONE, 1 ATTACHED, 2 WAITING (R69, R87). -/
def State.watchState (s : State) : Nat :=
  match s.tuners.watch with
  | none => 0
  | some _ => if s.watchTuner.isSome then 1 else 2

/-- The present watch ended (R69). -/
def State.endWatch (s : State) : State :=
  let t := { s with tuners.watch := none }
  match s.watchTuner with
  | none => t
  | some x => ((t.setTuner x { t.tuner x with watch := false }).watchEnded).freeIfUnheld x

/-- A new watch frequency taken (R69): in QUIET, or with both tuners held by routes, it waits. -/
def State.takeWatch (s : State) (f : Nat) : State :=
  let t := { s with tuners.watch := some f }
  if s.sup.state = .quiet then t
  else
    match t.holder f with
    | some x => t.attachWatch x f
    | none =>
      if t.tuners.t1.role ≠ .program then t.takeForWatch .t1 f
      else if t.tuners.t2.role ≠ .program then t.takeForWatch .t2 f
      else t

/-- The watch setting replaced (R69). -/
def State.setWatch (s : State) (w : Option Nat) : State :=
  if w = s.tuners.watch then s
  else
    match w with
    | none => s.endWatch.arbitrate
    | some f => (s.endWatch.takeWatch f).arbitrate

/-- TRAFFIC_WATCH (R69). -/
def trafficWatch (client : Byte) (p : List Byte) (s : State) : Answer :=
  if p.length ≠ 2 || (u16At p 0 ≠ 0 && !onRaster s.tuners.plan (u16At p 0)) then .refuse s .badArgument
  else if client ≠ 0 then .refuse s .notPermitted
  else
    let t := s.setWatch (if u16At p 0 = 0 then none else some (u16At p 0))
    .ok t (u16 (orZero t.tuners.watch) ++ u8 t.watchState ++ u8 (tunerCode t.watchTuner))

/-- The last program measurement as TUNER_GET reports it (R87). -/
def measurementBytes (m : Option Measurement) : List Byte :=
  match m with
  | none => [0, 0, 0, 0, 0]
  | some m => u8 m.field ++ u8 m.multipath ++ u8 m.quality ++ u8 m.area.code ++ u8 m.tag.tunerCode

/-- The fields of TUNER_GET in order (R87). -/
def State.tunerFields (s : State) (x : TunerId) : List Byte :=
  let t := s.tuner x
  u8 (tunerCode (some x)) ++ u8 t.role.code ++ u16 (orZero t.frequency) ++ u16 (orZero t.code) ++ u8 t.users ++
    flag t.watch ++ u8 t.activity.code ++ u8 (tunerCode t.partnerOf) ++ u8 t.af.code ++ u8 t.streak ++
    measurementBytes t.measurement ++ u8 (bandCode s.tuners.plan) ++ u8 s.tuners.link.code ++
    s.tuners.policy.bytes ++ u8 s.stations.bLow ++ u8 s.stations.bHigh ++ u8 s.tuners.report.code ++
    u16 (orZero s.tuners.watch) ++ u8 s.watchState

/-- TUNER_GET (R87). -/
def tunerGet (p : List Byte) (s : State) : Answer :=
  match p with
  | [1] => .ok s (s.tunerFields .t1)
  | [2] => .ok s (s.tunerFields .t2)
  | _ => .refuse s .badArgument

/-! ## Program tuners -/

/-- The tuner settles on its program (R67). -/
def State.acquisitionSettle (s : State) (x : TunerId) : State :=
  let t := s.tuner x
  if t.role = .program && t.activity = .retune && t.retune.isNone then
    ((s.setTuner x { t with activity := .dwell }).notifyTuner x .available).arbitrate
  else s

/-- Whether the report condition holds of the previous area and the new one (R79). -/
def Report.test (k : Report) (old new : Area) : Bool :=
  match k with
  | .never => false
  | .enterI => new = .i && old ≠ .i
  | .enterII => new = .ii && old ≠ .ii
  | .enterIII => new = .iii && old ≠ .iii
  | .leaveI => old = .i && new ≠ .i
  | .leaveII => old = .ii && new ≠ .ii
  | .leaveIII => old = .iii && new ≠ .iii
  | .anyChange => old ≠ new

/-- Whether a tuner's program may be followed: it has a code, and its record an AF list (R80). -/
def State.followed (s : State) (x : TunerId) : Bool :=
  let t := s.tuner x
  t.code.isSome &&
    match t.frequency.bind s.stations.find with
    | some r => !r.afList.isEmpty
    | none => false

/-- The candidates of a search: the record's AF list without the other tuner's program frequency (R80). -/
def State.searchCandidates (s : State) (x : TunerId) : List Nat :=
  match (s.tuner x).frequency.bind s.stations.find with
  | some r => r.afList.filter (fun f => !(s.tuner (otherTuner x)).holds f)
  | none => []

/-- The start of a search (R80): through the other tuner, a pairing ending, unless that tuner holds a program. -/
def State.startSearch (s : State) (x : TunerId) : State :=
  match s.searchCandidates x with
  | [] => s.setTuner x { s.tuner x with streak := 0 }
  | cs =>
    let partner : Bool := (s.tuner (otherTuner x)).role ≠ .program
    let t := s.setTuner x { s.tuner x with af := .searching, search := some { partner := partner, candidates := cs, found := [] } }
    if t.tuners.link = .paired then t.unpair else t

/-- A self jump to the next candidate begins (R82). -/
def State.beginJump (s : State) (x : TunerId) : State :=
  match (s.tuner x).search, (s.tuner x).retune with
  | some ⟨false, c :: rest, found⟩, none =>
    (s.setTuner x { s.tuner x with search := some ⟨false, rest, found⟩ }).beginRetune x (.jump c)
  | _, _ => s

/-- What a program measurement does to alternate-frequency following (R80, R82, R84). -/
def State.afMeasured (s : State) (x : TunerId) (a : Area) : State :=
  let t := s.tuner x
  match t.af with
  | .idle =>
    if s.followed x && a = .iii then
      let u := s.setTuner x { t with streak := min 3 (t.streak + 1) }
      if 3 ≤ t.streak + 1 then u.startSearch x else u
    else s.setTuner x { t with streak := 0 }
  | .searching => if a = .iii then s.beginJump x else s.endSearch x
  | .confirming => s

/-- A program measurement in DWELL (R71): the record refreshed, the quality report tested, the streak counted. -/
def State.programMeasurement (s : State) (x : TunerId) (field multipath : Nat) : State :=
  let t := s.tuner x
  match t.frequency with
  | none => s
  | some f =>
    if t.role = .program && t.activity = .dwell then
      let m := s.measure field multipath (if s.tuners.link = .paired then .paired else .program)
      let s1 := s.refreshStation f m
      let s2 := s1.setTuner x { s1.tuner x with measurement := some m, prevArea := some m.area }
      let hit :=
        match t.prevArea with
        | some p => s.tuners.report.test p m.area
        | none => false
      ((s2.raiseIf hit .programQuality).afMeasured x m.area).arbitrate
    else s

/-! ## Decoded items (4.4) -/

/-- The effect of a traffic item on the announcement (R101, R102). -/
def State.announce (s : State) (x : TunerId) (f : Nat) : State :=
  if s.stations.watch = some (f, x) then
    match s.stations.find f with
    | none => s
    | some r =>
      if r.capable && r.active then if s.stations.announcing then s else s.startAnnouncement x f
      else s.endAnnouncement
  else s

/-- The confirmation of a switch decided, by the first code decoded or by none (R83). -/
def State.confirm (s : State) (x : TunerId) (decoded : Option Nat) : State :=
  let t := s.tuner x
  if decoded.isSome && decoded = t.code then
    s.setTuner x { t with af := .idle, streak := 0, oldFrequency := none }
  else
    match t.oldFrequency with
    | none => s.setTuner x { t with af := .idle, streak := 0 }
    | some old =>
      if (s.tuner (otherTuner x)).holds old then
        s.setTuner x { t with af := .idle, streak := 0, oldFrequency := none, code := decoded }
      else s.beginRetune x (.revert old decoded)

/-- Whether a switch awaits its confirmation (R83). -/
def Tuner.awaitsCode (t : Tuner) : Bool := t.af = .confirming && t.retune.isNone

/-- An item decoded on a program in DWELL (R71, R83, R94 to R96, R101, R102). -/
def State.programItem (s : State) (x : TunerId) (f : Nat) (i : DataItem) : State :=
  let awaits := (s.tuner x).awaitsCode
  let t := s.applyItem f i
  match i with
  | .programCode c => if awaits && c ≠ 0 then t.confirm x (some c.toNat) else t
  | .traffic _ _ => t.announce x f
  | _ => t

/-- A decoded item (4.4): a program in DWELL applies it at once, the dwell of a scan step keeps it. -/
def State.dataItem (s : State) (x : TunerId) (i : DataItem) : State :=
  let t := s.tuner x
  match t.activity, t.frequency, t.scan with
  | .dwell, some f, _ => if t.role = .program then (s.programItem x f i).arbitrate else s
  | .scanStep, _, some k =>
    if k.dwell then s.setTuner x { t with scan := some { k with items := k.items ++ [i] } } else s
  | _, _, _ => s

/-! ## Scan steps (R72, R73, R97) -/

/-- Whether the scan policy runs steps whenever a tuner is FREE: FULL, and INTERLEAVED with diversity OFF (R73). -/
def TunerPolicy.runsFreely (q : TunerPolicy) : Bool := q.scan = .full || !q.diversity

/-- Whether a scan step may begin on a tuner (R72, R73): it is FREE in NONE outside QUIET, and either the partner's
break is on (R75), or the policy allows steps, no request stands and no check waits for it. Where pairings are made, the
tuner also waits for the switch after a partner search to settle, as the example of 3.11 does (log entry 11). -/
def State.mayScan (s : State) (x : TunerId) : Bool :=
  let t := s.tuner x
  t.role = .free && t.activity = .none && s.sup.state ≠ .quiet &&
    (s.tuners.link = .broken ||
      (s.tuners.policy.scan ≠ .off && s.tuners.link ≠ .requested &&
        !(if s.tuners.policy.runsFreely then (s.tuner (otherTuner x)).checksThrough
          else (s.tuner (otherTuner x)).usesOther)))

/-- A scan step begins (R97). -/
def State.scanStepBegin (s : State) (x : TunerId) : State :=
  if s.mayScan x then
    (s.handOut x).setTuner x
      { (s.handOut x).tuner x with
        activity := .scanStep, scan := some { measurement := none, dwell := false, items := [] } }
  else s

/-- The measurement of a scan step, and whether it dwells (R97). -/
def State.scanMeasurement (s : State) (x : TunerId) (field multipath : Nat) : State :=
  let t := s.tuner x
  match t.activity, t.scan, s.stations.reserved x with
  | .scanStep, some ⟨none, _, _⟩, some f =>
    let m := s.measure field multipath .scan
    let coded :=
      match s.stations.find f with
      | some r => r.code.isSome
      | none => false
    s.setTuner x { t with scan := some { measurement := some m, dwell := m.area ≠ .iii && !coded, items := [] } }
  | _, _, _ => s

/-- The results of a completed scan step applied to the table (R90, R97). -/
def State.scanResults (s : State) (f : Nat) (m : Measurement) (items : List DataItem) : State :=
  if m.area = .iii then s
  else
    let t := items.foldl (fun u i => u.applyItem f i) (s.refreshStation f m)
    match t.stations.find f with
    | some r =>
      match r.code with
      | some c => t.notifyCode c
      | none => t
    | none => t

/-- A scan step completes (R97): the tuner is FREE in NONE, the reservation is released, the results are applied, and
the arbiter looks again (R73); a break ends with it, the partner returning if it may (R75). -/
def State.scanStepComplete (s : State) (x : TunerId) : State :=
  let t := s.tuner x
  match t.activity, t.scan, s.stations.reserved x with
  | .scanStep, some ⟨some m, _, items⟩, some f =>
    let s1 := { s with stations := s.stations.reserve x none }.setTuner x { t with activity := .none, scan := none }
    let s2 := if s1.tuners.link = .broken then { s1 with tuners.link := .none } else s1
    (s2.scanResults f m items).arbitrate
  | _, _, _ => s

/-- The scan interval runs out: the partner breaks off (R75). -/
def State.scanIntervalExpiry (s : State) : State :=
  if s.tuners.link = .paired && s.tuners.interval.isSome then { s.unpair with tuners.link := .broken } else s

/-! ## Alternate-frequency following (R81 to R83) -/

/-- The measurement of an AF check (R81). -/
def State.afCheckMeasurement (s : State) (x : TunerId) (field multipath : Nat) : State :=
  let t := s.tuner x
  match t.activity, t.check with
  | .afCheckForMaster, some ⟨c, none⟩ =>
    s.setTuner x { t with check := some { candidate := c, measurement := some (s.measure field multipath .afCheck) } }
  | _, _ => s

/-- The results of a check or jump handed to the Station Table (R90). -/
def State.handOver (s : State) (c : Nat) (m : Measurement) (code : Option Nat) : State :=
  let t := s.refreshStation c m
  match code with
  | some k => t.applyCode c k
  | none => t

/-- A decoded code as a number; 0 is no code (R88). -/
def decodedCode (code : Option (BitVec 16)) : Option Nat :=
  match code with
  | some c => if c = 0 then none else some c.toNat
  | none => none

/-- The candidates found once one more has been measured: it joins them where it passes. -/
def foundWith (found : List (Nat × Nat)) (c : Nat) (m : Measurement) (passes : Bool) : List (Nat × Nat) :=
  if passes then found ++ [(c, m.quality)] else found

/-- The candidate a partner search chooses at its end: the best of those found that are good enough by the master's most
recent measurement and the hysteresis then (R81). -/
def State.chosen (s : State) (x : TunerId) (found : List (Nat × Nat)) : Option (Nat × Nat) :=
  bestCandidate (found.filter (fun c => s.goodEnough x c.2))

/-- An AF check ends (R81): its results are handed on, and the next candidate is checked, or the search concluded. -/
def State.afCheckEnd (s : State) (x : TunerId) (code : Option (BitVec 16)) : State :=
  let o := otherTuner x
  match (s.tuner x).activity, (s.tuner x).check, (s.tuner o).search with
  | .afCheckForMaster, some ⟨c, some m⟩, some ⟨true, rest, found⟩ =>
    let k := decodedCode code
    let fs := foundWith found c m (m.area ≠ .iii && k.isSome && k = (s.tuner o).code)
    let s1 := s.setTuner x { s.tuner x with activity := .none, check := none }
    match rest with
    | [] =>
      let s2 := (s1.setTuner o { s1.tuner o with search := none }).handOver c m k
      (if (s2.tuner o).af = .searching then s2.concludeSearch o (s2.chosen o fs) false else s2).arbitrate
    | _ => ((s1.setTuner o { s1.tuner o with search := some ⟨true, rest, fs⟩ }).handOver c m k).arbitrate
  | _, _, _ => s

/-- A switch or revert settles (R77, R83). -/
def State.retuneSettle (s : State) (x : TunerId) : State :=
  let t := s.tuner x
  let there := { t with activity := .dwell, retune := none, prevArea := none }
  let done := { there with af := .idle, streak := 0, oldFrequency := none }
  match t.activity, t.retune with
  | .retune, some ⟨.switch _ confirm, true⟩ =>
    let n := if confirm && t.af = .searching then { there with af := .confirming } else done
    ((s.setTuner x n).notifyTuner x .available).arbitrate
  | .retune, some ⟨.revert _ _, true⟩ => ((s.setTuner x done).notifyTuner x .available).arbitrate
  | _, _ => s

/-- A self jump returns with its candidate's measurement (R82). -/
def State.selfAfJumpEnd (s : State) (x : TunerId) (field multipath : Nat) : State :=
  let t := s.tuner x
  match t.activity, t.retune with
  | .selfAfJump, some ⟨.jump c, true⟩ =>
    let m := s.measure field multipath .afCheck
    let back := { t with activity := .dwell, retune := none }
    match t.search with
    | some ⟨false, rest, found⟩ =>
      let fs := foundWith found c m (s.qualifies x m)
      let s1 := (s.setTuner x { back with search := some ⟨false, rest, fs⟩ }).handOver c m none
      let s2 := s1.notifyTuner x .available
      (match rest with
        | [] => s2.concludeSearch x (bestCandidate fs) true
        | _ => s2).arbitrate
    | _ => (((s.setTuner x back).handOver c m none).notifyTuner x .available).arbitrate
  | _, _ => s

/-- 150 ms without a code (R83). -/
def State.afConfirmTimeout (s : State) (x : TunerId) : State :=
  if (s.tuner x).awaitsCode then (s.confirm x none).arbitrate else s

/-! ## The meanings -/

/-- TUNER_POLICY (R85). -/
def execTunerPolicy (client : Byte) (payload : List Byte) (s : State) : Host.Outcome State Fault Refusal :=
  .next (s.request .tunerPolicy client payload (tunerPolicy client payload))

/-- TRAFFIC_WATCH (R69). -/
def execTrafficWatch (client : Byte) (payload : List Byte) (s : State) : Host.Outcome State Fault Refusal :=
  .next (s.request .trafficWatch client payload (trafficWatch client payload))

/-- QUALITY_LIMITS (R86). -/
def execQualityLimits (client : Byte) (payload : List Byte) (s : State) : Host.Outcome State Fault Refusal :=
  .next (s.request .qualityLimits client payload (qualityLimits client payload))

/-- TUNER_GET (R87). -/
def execTunerGet (client : Byte) (payload : List Byte) (s : State) : Host.Outcome State Fault Refusal :=
  .next (s.request .tunerGet client payload (tunerGet payload))

/-- ACQUISITION_SETTLE (R67). -/
def execAcquisitionSettle (tuner : TunerId) (s : State) : Host.Outcome State Fault Refusal :=
  .next (s.unlessHeld (s.acquisitionSettle tuner))

/-- PROGRAM_MEASUREMENT with its field strength and multipath (R71, R79, R80). -/
def execProgramMeasurement (tuner : TunerId) (field : Fin 121) (multipath : Fin 101) (s : State) :
    Host.Outcome State Fault Refusal :=
  .next (s.unlessHeld (s.programMeasurement tuner field.val multipath.val))

/-- DATA_ITEM_DECODED (R94 to R96, R101, R102). -/
def execDataItemDecoded (tuner : TunerId) (item : DataItem) (s : State) : Host.Outcome State Fault Refusal :=
  .next (s.unlessHeld (s.dataItem tuner item))

/-- SCAN_STEP_BEGIN (R97, R98). -/
def execScanStepBegin (tuner : TunerId) (s : State) : Host.Outcome State Fault Refusal :=
  .next (s.unlessHeld (s.scanStepBegin tuner))

/-- SCAN_MEASUREMENT (R97). -/
def execScanMeasurement (tuner : TunerId) (field : Fin 121) (multipath : Fin 101) (s : State) :
    Host.Outcome State Fault Refusal :=
  .next (s.unlessHeld (s.scanMeasurement tuner field.val multipath.val))

/-- SCAN_STEP_COMPLETE (R90, R97). -/
def execScanStepComplete (tuner : TunerId) (s : State) : Host.Outcome State Fault Refusal :=
  .next (s.unlessHeld (s.scanStepComplete tuner))

/-- SCAN_INTERVAL_EXPIRY (R75). -/
def execScanIntervalExpiry (s : State) : Host.Outcome State Fault Refusal := .next (s.unlessHeld s.scanIntervalExpiry)

/-- AF_CHECK_MEASUREMENT (R81). -/
def execAfCheckMeasurement (tuner : TunerId) (field : Fin 121) (multipath : Fin 101) (s : State) :
    Host.Outcome State Fault Refusal :=
  .next (s.unlessHeld (s.afCheckMeasurement tuner field.val multipath.val))

/-- AF_CHECK_END (R81). -/
def execAfCheckEnd (tuner : TunerId) (code : Option (BitVec 16)) (s : State) : Host.Outcome State Fault Refusal :=
  .next (s.unlessHeld (s.afCheckEnd tuner code))

/-- RETUNE_SETTLE (R77, R83). -/
def execRetuneSettle (tuner : TunerId) (s : State) : Host.Outcome State Fault Refusal :=
  .next (s.unlessHeld (s.retuneSettle tuner))

/-- SELF_AF_JUMP_END (R82). -/
def execSelfAfJumpEnd (tuner : TunerId) (field : Fin 121) (multipath : Fin 101) (s : State) :
    Host.Outcome State Fault Refusal :=
  .next (s.unlessHeld (s.selfAfJumpEnd tuner field.val multipath.val))

/-- AF_CONFIRM_TIMEOUT (R83). -/
def execAfConfirmTimeout (tuner : TunerId) (s : State) : Host.Outcome State Fault Refusal :=
  .next (s.unlessHeld (s.afConfirmTimeout tuner))

end Sys2Proof.Machine
end

