-- ==== Sys2Proof/Machine/Dispatch.lean ====
section
/-! DEFINITION. The dispatch: one meaning for each command. -/

namespace Sys2Proof.Machine

def exec (i : Instr) (s : State) : Host.Outcome State Fault Refusal :=
  match i with
  | .routeOpen client payload => Sys2Proof.Machine.execRouteOpen client payload s
  | .routeLevel client payload => Sys2Proof.Machine.execRouteLevel client payload s
  | .routeRetire client payload => Sys2Proof.Machine.execRouteRetire client payload s
  | .retireOwner client payload => Sys2Proof.Machine.execRetireOwner client payload s
  | .routeGet client payload => Sys2Proof.Machine.execRouteGet client payload s
  | .routeList client payload => Sys2Proof.Machine.execRouteList client payload s
  | .zoneVolume client payload => Sys2Proof.Machine.execZoneVolume client payload s
  | .zoneBalance client payload => Sys2Proof.Machine.execZoneBalance client payload s
  | .zoneGet client payload => Sys2Proof.Machine.execZoneGet client payload s
  | .duckDepths client payload => Sys2Proof.Machine.execDuckDepths client payload s
  | .temperature client payload => Sys2Proof.Machine.execTemperature client payload s
  | .derateSet client payload => Sys2Proof.Machine.execDerateSet client payload s
  | .tunerPolicy client payload => Sys2Proof.Machine.execTunerPolicy client payload s
  | .trafficWatch client payload => Sys2Proof.Machine.execTrafficWatch client payload s
  | .qualityLimits client payload => Sys2Proof.Machine.execQualityLimits client payload s
  | .tunerGet client payload => Sys2Proof.Machine.execTunerGet client payload s
  | .stationList client payload => Sys2Proof.Machine.execStationList client payload s
  | .stationGet client payload => Sys2Proof.Machine.execStationGet client payload s
  | .stationPin client payload => Sys2Proof.Machine.execStationPin client payload s
  | .stationForget client payload => Sys2Proof.Machine.execStationForget client payload s
  | .stationAdd client payload => Sys2Proof.Machine.execStationAdd client payload s
  | .stationAging client payload => Sys2Proof.Machine.execStationAging client payload s
  | .announceFollow client payload => Sys2Proof.Machine.execAnnounceFollow client payload s
  | .hpCap client payload => Sys2Proof.Machine.execHpCap client payload s
  | .hpFollow client payload => Sys2Proof.Machine.execHpFollow client payload s
  | .rearLock client payload => Sys2Proof.Machine.execRearLock client payload s
  | .phoneAdvertise client payload => Sys2Proof.Machine.execPhoneAdvertise client payload s
  | .phoneRestart client payload => Sys2Proof.Machine.execPhoneRestart client payload s
  | .phoneGet client payload => Sys2Proof.Machine.execPhoneGet client payload s
  | .legOpen client payload => Sys2Proof.Machine.execLegOpen client payload s
  | .legState client payload => Sys2Proof.Machine.execLegState client payload s
  | .legSeats client payload => Sys2Proof.Machine.execLegSeats client payload s
  | .legUplink client payload => Sys2Proof.Machine.execLegUplink client payload s
  | .legClose client payload => Sys2Proof.Machine.execLegClose client payload s
  | .legGet client payload => Sys2Proof.Machine.execLegGet client payload s
  | .echoTarget client payload => Sys2Proof.Machine.execEchoTarget client payload s
  | .alertLimits client payload => Sys2Proof.Machine.execAlertLimits client payload s
  | .directLineGet client payload => Sys2Proof.Machine.execDirectLineGet client payload s
  | .watchdog client payload => Sys2Proof.Machine.execWatchdog client payload s
  | .keepalive client payload => Sys2Proof.Machine.execKeepalive client payload s
  | .resume client payload => Sys2Proof.Machine.execResume client payload s
  | .quietEnter client payload => Sys2Proof.Machine.execQuietEnter client payload s
  | .quietExit client payload => Sys2Proof.Machine.execQuietExit client payload s
  | .eventFetch client payload => Sys2Proof.Machine.execEventFetch client payload s
  | .eventRouting client payload => Sys2Proof.Machine.execEventRouting client payload s
  | .storeRead client payload => Sys2Proof.Machine.execStoreRead client payload s
  | .storeWrite client payload => Sys2Proof.Machine.execStoreWrite client payload s
  | .partInfo client payload => Sys2Proof.Machine.execPartInfo client payload s
  | .partReset client payload => Sys2Proof.Machine.execPartReset client payload s
  | .unknownRequest code client payload => Sys2Proof.Machine.execUnknownRequest code client payload s
  | .badFrame bytes => Sys2Proof.Machine.execBadFrame bytes s
  | .readTransfer clocked => Sys2Proof.Machine.execReadTransfer clocked s
  | .partResetTimeout => Sys2Proof.Machine.execPartResetTimeout s
  | .resetNAssert cause => Sys2Proof.Machine.execResetNAssert cause s
  | .resetNRelease straps => Sys2Proof.Machine.execResetNRelease straps s
  | .startUpEnd => Sys2Proof.Machine.execStartUpEnd s
  | .watchdogExpiry => Sys2Proof.Machine.execWatchdogExpiry s
  | .rampStep slot => Sys2Proof.Machine.execRampStep slot s
  | .weightRampStep => Sys2Proof.Machine.execWeightRampStep s
  | .thermalReading sensor => Sys2Proof.Machine.execThermalReading sensor s
  | .alertCut slot => Sys2Proof.Machine.execAlertCut slot s
  | .tonePatternEnd slot => Sys2Proof.Machine.execTonePatternEnd slot s
  | .hpDetChange out level => Sys2Proof.Machine.execHpDetChange out level s
  | .hpDebounceExpiry out => Sys2Proof.Machine.execHpDebounceExpiry out s
  | .alertInChange line level => Sys2Proof.Machine.execAlertInChange line level s
  | .lineDebounceExpiry line => Sys2Proof.Machine.execLineDebounceExpiry line s
  | .acquisitionSettle tuner => Sys2Proof.Machine.execAcquisitionSettle tuner s
  | .programMeasurement tuner field multipath => Sys2Proof.Machine.execProgramMeasurement tuner field multipath s
  | .dataItemDecoded tuner item => Sys2Proof.Machine.execDataItemDecoded tuner item s
  | .scanStepBegin tuner => Sys2Proof.Machine.execScanStepBegin tuner s
  | .scanMeasurement tuner field multipath => Sys2Proof.Machine.execScanMeasurement tuner field multipath s
  | .scanStepComplete tuner => Sys2Proof.Machine.execScanStepComplete tuner s
  | .scanIntervalExpiry => Sys2Proof.Machine.execScanIntervalExpiry s
  | .afCheckMeasurement tuner field multipath => Sys2Proof.Machine.execAfCheckMeasurement tuner field multipath s
  | .afCheckEnd tuner code => Sys2Proof.Machine.execAfCheckEnd tuner code s
  | .retuneSettle tuner => Sys2Proof.Machine.execRetuneSettle tuner s
  | .selfAfJumpEnd tuner field multipath => Sys2Proof.Machine.execSelfAfJumpEnd tuner field multipath s
  | .afConfirmTimeout tuner => Sys2Proof.Machine.execAfConfirmTimeout tuner s
  | .clockDetectPresent => Sys2Proof.Machine.execClockDetectPresent s
  | .clockDetectAbsent => Sys2Proof.Machine.execClockDetectAbsent s
  | .rateSpanEnd rate => Sys2Proof.Machine.execRateSpanEnd rate s
  | .partnerWord word => Sys2Proof.Machine.execPartnerWord word s
  | .silenceTimerExpiry => Sys2Proof.Machine.execSilenceTimerExpiry s
  | .holdOffExpiry => Sys2Proof.Machine.execHoldOffExpiry s
  | .micCheckEnd seat power => Sys2Proof.Machine.execMicCheckEnd seat power s
  | .echoWindowEnd seat downlink micPower residualPower => Sys2Proof.Machine.execEchoWindowEnd seat downlink micPower residualPower s
  | .storeWriteEnd => Sys2Proof.Machine.execStoreWriteEnd s
  | .supplyApplication straps => Sys2Proof.Machine.execSupplyApplication straps s

end Sys2Proof.Machine
end

