-- ==== Sys2Proof/Machine/Time.lean ====
section
/-! DEFINITION. The passing of one millisecond: what a step does when no command waits (log entry 9). Running timers
count down and hold at 0 until their expiry arrives as a command; playback positions and alert times advance. -/

namespace Sys2Proof.Machine

/-- A running timer one millisecond later; at 0 it holds. -/
def ticked (t : Option Nat) : Option Nat := t.map (· - 1)

/-- The duration of an element (R153, R154). -/
def Pattern.ms (p : Pattern) (e : Element) : Nat :=
  match e with
  | .segment1 => p.s1.duration
  | .segment2 => p.s2.duration
  | .segment3 => p.s3.duration
  | .gap => p.gap

/-- The start of the next cycle. -/
def PlayPosition.nextCycle (x : PlayPosition) : PlayPosition := { cycle := x.cycle + 1, element := .segment1, time := 0 }

/-- The position after an element (R154): a gap of 0 is passed over, and a finite pattern stays at its end. -/
def PlayPosition.after (p : Pattern) (repeats : Nat) (x : PlayPosition) : PlayPosition :=
  match x.element with
  | .segment1 => { x with element := .segment2, time := 0 }
  | .segment2 => { x with element := .segment3, time := 0 }
  | .segment3 =>
    if repeats ≠ 0 && repeats ≤ x.cycle then { x with time := p.s3.duration }
    else if p.gap = 0 then x.nextCycle
    else { x with element := .gap, time := 0 }
  | .gap => x.nextCycle

/-- A playback position one millisecond later (R154). -/
def PlayPosition.advance (p : Pattern) (repeats : Nat) (x : PlayPosition) : PlayPosition :=
  if x.time + 1 < p.ms x.element then { x with time := x.time + 1 } else x.after p repeats

/-- The pattern a route plays, with its repeat count: a ring is endless (R154, R155). -/
def State.playing (s : State) (r : Route) : Option (Pattern × Nat) :=
  match r.source with
  | .tone n => some (tabGet s.tones n builtInPattern, (tabGet s.tones n builtInPattern).repeats)
  | .leg id reuse => (s.leg id reuse).map (fun l => (tabGet s.tones l.ring builtInPattern, 0))
  | _ => none

/-- A route one millisecond later: playback (R154, R155) and the time of an ALERT since its opening (R159). -/
def State.tickRoute (s : State) (r : Route) : Route :=
  { r with
    age := if r.cls = .alert then r.age + 1 else r.age
    play :=
      match r.play, s.playing r with
      | some x, some (p, n) => some (x.advance p n)
      | x, _ => x }

/-- The sample rate of a mode in kHz: the frames that begin in a millisecond (R121, R122). -/
def Mode.kHz (m : Mode) : Nat :=
  match m with
  | .nb => 8
  | .wb => 16
  | .swb => 32

/-- The frames of one millisecond: the nominal number at a mode's rate class, else a free value (log entry 40). -/
def State.framesInMs (s : State) : Nat :=
  match s.phone.rate with
  | .mode m => m.kHz
  | _ => Config.framesInMs s.freeCount

/-- One millisecond (log entry 9). -/
def State.tick (s : State) : State :=
  if s.port.phase = .held then s
  else
    { s with
      freeCount := s.freeCount + 1
      port := { s.port with resetPending := ticked s.port.resetPending }
      routes := s.routes.map s.tickRoute
      tuners := { s.tuners with interval := ticked s.tuners.interval }
      jacks :=
        { s.jacks with
          j1 := { s.jacks.j1 with timer := ticked s.jacks.j1.timer }
          j2 := { s.jacks.j2 with timer := ticked s.jacks.j2.timer } }
      phone :=
        { s.phone with silence := ticked s.phone.silence, holdOff := ticked s.phone.holdOff }.framesOn s.framesInMs
      calls := { s.calls with mics := s.calls.mics.map (fun m => { m with check := ticked m.check }) }
      lines := s.lines.map (fun l => { l with timer := ticked l.timer })
      sup := { s.sup with left := ticked s.sup.left }
      store := { s.store with writer := s.store.writer.map (fun w => { w with left := w.left - 1 }) } }

end Sys2Proof.Machine
end

