-- ==== Sys2Proof/WellFormed.lean ====
section
/-! DEFINITION. Well-formed commands: operands a sender or the part can give. -/

namespace Sys2Proof

/-- A payload a frame may carry (R168). -/
def payloadOk (p : List Byte) : Bool := p.length ≤ 60

/-- A slot of the route table (R1). -/
def slotOk (slot : Nat) : Bool := 1 ≤ slot && slot ≤ 24

/-- A complete decoded item (4.4): a code 1..65535, a segment at one of the four positions with characters 32..255. -/
def itemOk (i : DataItem) : Bool :=
  match i with
  | .programCode c => c ≠ 0
  | .nameSegment p a b => (p = 1 || p = 3 || p = 5 || p = 7) && 32 ≤ a.toNat && 32 ≤ b.toNat
  | .traffic _ _ => true
  | .afList _ => true

/-- A decoded code, if any, is 1..65535 (R88). -/
def codeOk (c : Option (BitVec 16)) : Bool := c ≠ some 0

/-- Whether a command's operands are in range: payloads at most 60 bytes (R168); an unknown request's code neither 0 nor
in the catalogue (R172); a bad frame not empty, not a read transfer, and failing the check (R168, R169); a read transfer
of at least one byte (R168); slots 1..24; items and codes as decoded (4.4). -/
def Instr.wf (i : Instr) : Bool :=
  match i with
  | .routeOpen _ payload => payloadOk payload
  | .routeLevel _ payload => payloadOk payload
  | .routeRetire _ payload => payloadOk payload
  | .retireOwner _ payload => payloadOk payload
  | .routeGet _ payload => payloadOk payload
  | .routeList _ payload => payloadOk payload
  | .zoneVolume _ payload => payloadOk payload
  | .zoneBalance _ payload => payloadOk payload
  | .zoneGet _ payload => payloadOk payload
  | .duckDepths _ payload => payloadOk payload
  | .temperature _ payload => payloadOk payload
  | .derateSet _ payload => payloadOk payload
  | .tunerPolicy _ payload => payloadOk payload
  | .trafficWatch _ payload => payloadOk payload
  | .qualityLimits _ payload => payloadOk payload
  | .tunerGet _ payload => payloadOk payload
  | .stationList _ payload => payloadOk payload
  | .stationGet _ payload => payloadOk payload
  | .stationPin _ payload => payloadOk payload
  | .stationForget _ payload => payloadOk payload
  | .stationAdd _ payload => payloadOk payload
  | .stationAging _ payload => payloadOk payload
  | .announceFollow _ payload => payloadOk payload
  | .hpCap _ payload => payloadOk payload
  | .hpFollow _ payload => payloadOk payload
  | .rearLock _ payload => payloadOk payload
  | .phoneAdvertise _ payload => payloadOk payload
  | .phoneRestart _ payload => payloadOk payload
  | .phoneGet _ payload => payloadOk payload
  | .legOpen _ payload => payloadOk payload
  | .legState _ payload => payloadOk payload
  | .legSeats _ payload => payloadOk payload
  | .legUplink _ payload => payloadOk payload
  | .legClose _ payload => payloadOk payload
  | .legGet _ payload => payloadOk payload
  | .echoTarget _ payload => payloadOk payload
  | .alertLimits _ payload => payloadOk payload
  | .directLineGet _ payload => payloadOk payload
  | .watchdog _ payload => payloadOk payload
  | .keepalive _ payload => payloadOk payload
  | .resume _ payload => payloadOk payload
  | .quietEnter _ payload => payloadOk payload
  | .quietExit _ payload => payloadOk payload
  | .eventFetch _ payload => payloadOk payload
  | .eventRouting _ payload => payloadOk payload
  | .storeRead _ payload => payloadOk payload
  | .storeWrite _ payload => payloadOk payload
  | .partInfo _ payload => payloadOk payload
  | .partReset _ payload => payloadOk payload
  | .unknownRequest code _ payload => code ≠ 0 && !Machine.inCatalogue code && payloadOk payload
  | .badFrame bytes => bytes ≠ [] && bytes.head? ≠ some 0 && !Machine.frameGood bytes
  | .readTransfer clocked => 1 ≤ clocked
  | .partResetTimeout => true
  | .resetNAssert _ => true
  | .resetNRelease _ => true
  | .startUpEnd => true
  | .watchdogExpiry => true
  | .rampStep slot => slotOk slot
  | .weightRampStep => true
  | .thermalReading _ => true
  | .alertCut slot => slotOk slot
  | .tonePatternEnd slot => slotOk slot
  | .hpDetChange _ _ => true
  | .hpDebounceExpiry _ => true
  | .alertInChange _ _ => true
  | .lineDebounceExpiry _ => true
  | .acquisitionSettle _ => true
  | .programMeasurement _ _ _ => true
  | .dataItemDecoded _ item => itemOk item
  | .scanStepBegin _ => true
  | .scanMeasurement _ _ _ => true
  | .scanStepComplete _ => true
  | .scanIntervalExpiry => true
  | .afCheckMeasurement _ _ _ => true
  | .afCheckEnd _ code => codeOk code
  | .retuneSettle _ => true
  | .selfAfJumpEnd _ _ _ => true
  | .afConfirmTimeout _ => true
  | .clockDetectPresent => true
  | .clockDetectAbsent => true
  | .rateSpanEnd _ => true
  | .partnerWord _ => true
  | .silenceTimerExpiry => true
  | .holdOffExpiry => true
  | .micCheckEnd _ _ => true
  | .echoWindowEnd _ _ _ _ => true
  | .storeWriteEnd => true
  | .supplyApplication _ => true

end Sys2Proof
end

