-- ==== Sys2Proof/Safety.lean ====
section
/-! DEFINITION. What claims are stated in: when a request is carried out, what its answer leaves, and the laws the records
of the part keep. -/

namespace Sys2Proof.Machine

/-! ## Requests -/

/-- A request reaches its owning block (R168 to R172): the part takes transfers, the payload fits a frame, and the checks
on client, LIMP, QUIET and the rear seats pass. -/
def State.Accepts (s : State) (k : Request) (client : Byte) (payload : List Byte) : Prop :=
  s.takesRequests = true ∧ payload.length ≤ 60 ∧ s.gate k client payload = none

/-- The state after a request that was carried out with OK: `t` is what the owning block made of the state, the watchdog
has taken the request (R162), the frame is received and the response placed (R168, R170, R173). -/
def State.served (s t : State) (k : Request) (client : Byte) (payload reply : List Byte) : State :=
  (s.watchdogAfter t).answered (requestFrame k.code client payload) (response k.code .ok reply)

/-- The state after a request that its owning block refuses: nothing but the watchdog and the answer (R172). -/
def State.declined (s : State) (k : Request) (client : Byte) (payload : List Byte) (r : Result) : State :=
  s.validRequest.answered (requestFrame k.code client payload) (response k.code r [])

/-- The request a command is, with its client byte and payload (9.6); none for the other commands. -/
def requestOf (i : Instr) : Option (Request × Byte × List Byte) :=
  match i with
  | .routeOpen client payload => some (.routeOpen, client, payload)
  | .routeLevel client payload => some (.routeLevel, client, payload)
  | .routeRetire client payload => some (.routeRetire, client, payload)
  | .retireOwner client payload => some (.retireOwner, client, payload)
  | .routeGet client payload => some (.routeGet, client, payload)
  | .routeList client payload => some (.routeList, client, payload)
  | .zoneVolume client payload => some (.zoneVolume, client, payload)
  | .zoneBalance client payload => some (.zoneBalance, client, payload)
  | .zoneGet client payload => some (.zoneGet, client, payload)
  | .duckDepths client payload => some (.duckDepths, client, payload)
  | .temperature client payload => some (.temperature, client, payload)
  | .derateSet client payload => some (.derateSet, client, payload)
  | .tunerPolicy client payload => some (.tunerPolicy, client, payload)
  | .trafficWatch client payload => some (.trafficWatch, client, payload)
  | .qualityLimits client payload => some (.qualityLimits, client, payload)
  | .tunerGet client payload => some (.tunerGet, client, payload)
  | .stationList client payload => some (.stationList, client, payload)
  | .stationGet client payload => some (.stationGet, client, payload)
  | .stationPin client payload => some (.stationPin, client, payload)
  | .stationForget client payload => some (.stationForget, client, payload)
  | .stationAdd client payload => some (.stationAdd, client, payload)
  | .stationAging client payload => some (.stationAging, client, payload)
  | .announceFollow client payload => some (.announceFollow, client, payload)
  | .hpCap client payload => some (.hpCap, client, payload)
  | .hpFollow client payload => some (.hpFollow, client, payload)
  | .rearLock client payload => some (.rearLock, client, payload)
  | .phoneAdvertise client payload => some (.phoneAdvertise, client, payload)
  | .phoneRestart client payload => some (.phoneRestart, client, payload)
  | .phoneGet client payload => some (.phoneGet, client, payload)
  | .legOpen client payload => some (.legOpen, client, payload)
  | .legState client payload => some (.legState, client, payload)
  | .legSeats client payload => some (.legSeats, client, payload)
  | .legUplink client payload => some (.legUplink, client, payload)
  | .legClose client payload => some (.legClose, client, payload)
  | .legGet client payload => some (.legGet, client, payload)
  | .echoTarget client payload => some (.echoTarget, client, payload)
  | .alertLimits client payload => some (.alertLimits, client, payload)
  | .directLineGet client payload => some (.directLineGet, client, payload)
  | .watchdog client payload => some (.watchdog, client, payload)
  | .keepalive client payload => some (.keepalive, client, payload)
  | .resume client payload => some (.resume, client, payload)
  | .quietEnter client payload => some (.quietEnter, client, payload)
  | .quietExit client payload => some (.quietExit, client, payload)
  | .eventFetch client payload => some (.eventFetch, client, payload)
  | .eventRouting client payload => some (.eventRouting, client, payload)
  | .storeRead client payload => some (.storeRead, client, payload)
  | .storeWrite client payload => some (.storeWrite, client, payload)
  | .partInfo client payload => some (.partInfo, client, payload)
  | .partReset client payload => some (.partReset, client, payload)
  | .unknownRequest _ _ _ => none
  | .badFrame _ => none
  | .readTransfer _ => none
  | .partResetTimeout => none
  | .resetNAssert _ => none
  | .resetNRelease _ => none
  | .startUpEnd => none
  | .watchdogExpiry => none
  | .rampStep _ => none
  | .weightRampStep => none
  | .thermalReading _ => none
  | .alertCut _ => none
  | .tonePatternEnd _ => none
  | .hpDetChange _ _ => none
  | .hpDebounceExpiry _ => none
  | .alertInChange _ _ => none
  | .lineDebounceExpiry _ => none
  | .acquisitionSettle _ => none
  | .programMeasurement _ _ _ => none
  | .dataItemDecoded _ _ => none
  | .scanStepBegin _ => none
  | .scanMeasurement _ _ _ => none
  | .scanStepComplete _ => none
  | .scanIntervalExpiry => none
  | .afCheckMeasurement _ _ _ => none
  | .afCheckEnd _ _ => none
  | .retuneSettle _ => none
  | .selfAfJumpEnd _ _ _ => none
  | .afConfirmTimeout _ => none
  | .clockDetectPresent => none
  | .clockDetectAbsent => none
  | .rateSpanEnd _ => none
  | .partnerWord _ => none
  | .silenceTimerExpiry => none
  | .holdOffExpiry => none
  | .micCheckEnd _ _ => none
  | .echoWindowEnd _ _ _ _ => none
  | .storeWriteEnd => none
  | .supplyApplication _ => none

/-- The part works: it is not held in reset, so its own events occur (R174). -/
def State.Works (s : State) : Prop := s.port.phase ≠ .held

/-! ## Laws of the gain path (chapter 2) -/

/-- A number of q in a range. -/
def Between (low high x : Int) : Prop := low ≤ x ∧ x ≤ high

/-- The Zone Mixer's records are in the ranges of R34, R38 to R42, and no HP volume step stands above its cap (R113). -/
structure Mixer.InRange (m : Mixer) : Prop where
  cabin : m.cabin.volume ≤ 40
  front : m.front.volume ≤ 40
  driver : m.driver.volume ≤ 40
  hp1 : m.hp1.volume ≤ m.hp1.cap ∧ m.hp1.cap ≤ 40
  hp2 : m.hp2.volume ≤ m.hp2.cap ∧ m.hp2.cap ≤ 40
  balances : Between (-10) 10 m.cabin.balance ∧ Between (-10) 10 m.cabin.fade ∧ Between (-10) 10 m.front.balance
  depths : m.depths.alert ≤ 240 ∧ m.depths.call ≤ 240 ∧ m.depths.prompt ≤ 240
  floor : Between (-240) 0 m.alertFloor
  weights : ∀ z i, Between (-120) 0 (m.weight z i)

/-- The Thermal Derating Unit's values are in their ranges (2.6). -/
structure Thermal.InRange (t : Thermal) : Prop where
  external : Between (-40) 150 t.external
  reading : Between (-40) 150 t.reading
  knee : Between 60 120 t.knee
  slope : 1 ≤ t.slope ∧ t.slope ≤ 15
  derate : t.computed ≤ 72 ∧ t.derate ≤ 72
  recovery : t.recovery ≤ 9

/-- A gain is MUTE or -384 q to 0 q (R1, R49). -/
def Gain.InRange (g : Gain) : Prop :=
  match g with
  | .mute => True
  | .q v => Between (-384) 0 v

/-- A route's level target is -240 q to 0 q, and its applied gain and ramp target are in range (R1). -/
def Route.GainsInRange (r : Route) : Prop :=
  Between (-240) 0 r.level ∧ r.applied.InRange ∧ ∀ t, r.target = some t → t.InRange

/-! ## Laws of the Route Table (chapter 1) -/

/-- What a route's state says of its other fields: a pending cause exactly in PENDING (R1); MUTE without a ramp in PENDING
and SUSPENDED (R7, R13); MUTE as target in YIELDING and CLOSING (R11, R21); the retune fade mark only while it sounds
(R15); no ALERT route outranked (R26). -/
structure Route.Consistent (r : Route) : Prop where
  cause : r.cause.isSome = true ↔ r.state = .pending
  silent : r.state = .pending ∨ r.state = .suspended → r.applied = .mute ∧ r.running = false ∧ r.target = none
  leaving : r.state = .yielding ∨ r.state = .closing → r.target = some .mute
  marked : r.fadeMark = true → r.state = .rising ∨ r.state = .playing
  alert : r.cls = .alert → r.state ≠ .yielding ∧ r.state ≠ .suspended

/-- The routes stand in slot order in slots 1..24, one route a slot (R1, R2). -/
def State.SlotsOrdered (s : State) : Prop :=
  s.routes.Pairwise (fun a b => a.slot < b.slot) ∧ ∀ r ∈ s.routes, 1 ≤ r.slot ∧ r.slot ≤ 24

/-- In each domain the ranks are 1 to the number of its routes, each once (R4). -/
def State.Ranked (s : State) : Prop :=
  ∀ d : Domain,
    let rs := s.routes.filter (fun r => r.zone.domain = d)
    rs.Pairwise (fun a b => a.rank ≠ b.rank) ∧ ∀ r ∈ rs, 1 ≤ r.rank ∧ r.rank ≤ rs.length

/-- At most one CALL, one ANNOUNCEMENT and one MEDIA route of a domain is PENDING, RISING or PLAYING (R25, R27). -/
def State.OneWinner (s : State) : Prop :=
  s.routes.Pairwise (fun a b =>
    a.zone.domain = b.zone.domain → a.cls = b.cls → a.cls = .call ∨ a.cls = .announcement ∨ a.cls = .media →
      ¬(a.state.counts = true ∧ b.state.counts = true))

/-- The classes LIMP silences (R26, R163). -/
def RouteClass.limpSilenced (c : RouteClass) : Prop := c = .prompt ∨ c = .announcement ∨ c = .media

/-- In LIMP no PROMPT, ANNOUNCEMENT or MEDIA route is PENDING, RISING or PLAYING (R26, R163). -/
def State.LimpSilent (s : State) : Prop :=
  s.sup.state = .limp →
    ∀ r ∈ s.routes, r.cls.limpSilenced → r.state = .yielding ∨ r.state = .suspended ∨ r.state = .closing

/-! ## Laws of tuners and stations (chapters 3 and 4) -/

/-- The two tuners never hold programs on one frequency (R65). -/
def State.TunersApart (s : State) : Prop := ∀ f, ¬(s.tuners.t1.holds f = true ∧ s.tuners.t2.holds f = true)

/-- The Tuner Allocator's counts: user counts, in-use set and waiting list agree with the routes and the programs (R63 to
R68, R91), and a tuner that is no PROGRAM has nothing of a program. -/
structure State.TunersCounted (s : State) : Prop where
  /-- A tuner's user count is the number of routes whose tuner reference names it (R63). -/
  users : ∀ x, (s.tuner x).users = s.routes.countP (fun r => r.tuner = some x)
  /-- A program is held by a route or the watch, and has a frequency (R68). -/
  held : ∀ x, (s.tuner x).role = .program →
    (0 < (s.tuner x).users ∨ (s.tuner x).watch = true) ∧ (s.tuner x).frequency.isSome = true
  idle : ∀ x, (s.tuner x).role ≠ .program →
    (s.tuner x).users = 0 ∧ (s.tuner x).frequency = none ∧ (s.tuner x).watch = false ∧ (s.tuner x).af = .idle ∧
      (s.tuner x).search = none ∧ (s.tuner x).retune = none
  /-- The in-use set is the frequencies of the programs (R91). -/
  inUse : ∀ f, f ∈ s.stations.inUse ↔ ∃ x, (s.tuner x).holds f = true
  /-- Only TUNER routes have a tuner, those by frequency always (R65, R66); the part's own routes by line play tones. -/
  sources : ∀ r ∈ s.routes,
    match r.source with
    | .tunerFrequency _ => r.tuner.isSome = true ∧ r.owner ≠ 7
    | .tunerCode _ => r.owner ≠ 7
    | _ => r.tuner = none
  /-- The waiting list holds the routes by program code that have no tuner, each once (R66). -/
  waiting : (s.tuners.waiting.map (fun w => w.handle)).Nodup ∧
    (∀ w ∈ s.tuners.waiting, ∃ r ∈ s.routes, r.handle = w.handle ∧ r.source = .tunerCode w.code ∧ r.tuner = none) ∧
    ∀ r ∈ s.routes, r.tuner = none → ∀ c, r.source = .tunerCode c → ∃ w ∈ s.tuners.waiting, w.handle = r.handle

/-- The station records stand in frequency order, one for a frequency, 48 at most (R88, R92). -/
def Stations.Ordered (t : Stations) : Prop :=
  t.records.Pairwise (fun a b => a.frequency < b.frequency) ∧ t.records.length ≤ 48

/-! ## Laws of the phone port and the calls (chapters 6 and 7) -/

/-- The items of the phone port agree with its link state: a mode exactly in UP, and there it is the mode of the measured
rate (R120, R127, R130); the silence timer runs exactly while negotiating (R129), the hold-off timer exactly in HOLD_OFF
(R131); without a clock the rate class is NONE and the link DOWN or HOLD_OFF (R123, R124); a run of at most 3 (R126). -/
structure Phone.Consistent (p : Phone) : Prop where
  mode : p.mode.isSome = true ↔ p.link = .up
  rate : ∀ m, p.mode = some m → p.rate = .mode m ∧ p.upRate = some m
  silence : p.silence.isSome = true ↔ p.link = .negotiating ∨ p.link = .acknowledging
  holdOff : p.holdOff.isSome = true ↔ p.link = .holdOff
  clock : p.clock = false → p.rate = .none ∧ (p.link = .down ∨ p.link = .holdOff)
  run : p.runCount ≤ 3

/-- The legs: at most three, their identifiers different and 1..3, at most one ACTIVE, opening orders 1, 2, 3 in the order
of the list; gains, ring patterns and echo target in range (R136 to R138). -/
structure Calls.Consistent (c : Calls) : Prop where
  ids : c.legs.Pairwise (fun a b => a.id ≠ b.id) ∧ ∀ l ∈ c.legs, 1 ≤ l.id ∧ l.id ≤ 3
  active : c.legs.Pairwise (fun a b => ¬(a.state = .active ∧ b.state = .active))
  orders : c.legs.map (fun l => l.order) = List.range' 1 c.legs.length
  ranges : ∀ l ∈ c.legs, l.gain ≤ 96 ∧ l.ring ≤ 15
  settings : 10 ≤ c.echoTarget ∧ c.echoTarget ≤ 30 ∧ c.defaultGain ≤ 96

/-! ## Laws of supervision, events and store (chapters 8, 10 and 11) -/

/-- The watchdog is ARMED only in RUN with a period, and has at most that period left (R162); the limp volume is a step. -/
def Supervision.Consistent (u : Supervision) : Prop :=
  (∀ n, u.left = some n → u.state = .run ∧ ∃ ms, u.period.ms = some ms ∧ n ≤ ms) ∧ u.limpVolume ≤ 40

/-- In QUIET nothing stands but the routes of direct lines (R31, R64, R133, R166): every route has owner 7, both tuners are
FREE and do nothing, no pairing, no waiting claim, no watch at a tuner, no announcement, no leg, and the link is DOWN. -/
structure State.QuietBare (s : State) : Prop where
  owners : ∀ r ∈ s.routes, r.owner = 7
  tuners : s.tuners.t1 = .free ∧ s.tuners.t2 = .free
  pairing : s.tuners.link = .none ∧ s.tuners.waiting = []
  stations : s.stations.inUse = [] ∧ s.stations.watch = none ∧ s.stations.announcing = false
  legs : s.calls.legs = []
  link : s.phone.link = .down ∧ s.phone.silence = none

/-- Every condition source whose condition is true is pending (R177, R180). -/
def State.ConditionsPending (s : State) : Prop := s.conditions &&& s.events.flags = s.conditions

/-- The store: at most 4000 writes, and a write in progress is of a row 0..30 with at most 8 ms left (R182, R185, R186). -/
def Store.InRange (t : Store) : Prop :=
  t.writeCount ≤ 4000 ∧ ∀ w, t.writer = some w → w.row ≤ 30 ∧ w.left ≤ 8

/-! ## What work leaves alone -/

/-- What names a route and says whose it is and what it plays where. -/
structure RouteIdentity where
  handle : Handle
  owner : Nat
  zone : Zone
  cls : RouteClass
  source : Source
  line : Option (Fin 4)
  deriving DecidableEq, Repr

/-- The identity of a route. -/
def Route.identity (r : Route) : RouteIdentity :=
  { handle := r.handle, owner := r.owner, zone := r.zone, cls := r.cls, source := r.source, line := r.line }

/-- Work on routes in place: nothing changes but what the routes do (each stays the route it is), the cancellers at
reference changes (R147), and pending flags and slot marks, which only join (R177). -/
structure State.RoutesInPlace (s t : State) : Prop where
  rest : t = { s with
    routes := t.routes
    calls := { s.calls with mics := t.calls.mics }
    events := { s.events with flags := t.events.flags, mask := t.events.mask } }
  flags : s.events.flags ||| t.events.flags = t.events.flags
  names : t.routes.map Route.identity = s.routes.map Route.identity

/-- Work of the tuners and the Station Table: routes in place, tuners and stations but for their settings, the cancellers
at reference changes, pending flags and marks. -/
structure State.TunerWork (s t : State) : Prop where
  rest : t = { s with
    routes := t.routes
    calls := { s.calls with mics := t.calls.mics }
    events := { s.events with flags := t.events.flags, mask := t.events.mask, station := t.events.station }
    tuners := { t.tuners with plan := s.tuners.plan, policy := s.tuners.policy, report := s.tuners.report }
    stations :=
      { t.stations with
        retire := s.stations.retire, bLow := s.stations.bLow, bHigh := s.stations.bHigh, follow := s.stations.follow } }
  flags : s.events.flags ||| t.events.flags = t.events.flags
  names : t.routes.map Route.identity = s.routes.map Route.identity

/-- Work that also opens and removes routes: the reuse counts of slots may rise too. -/
structure State.TableWork (s t : State) : Prop where
  rest : t = { s with
    routes := t.routes
    reuse := t.reuse
    calls := { s.calls with mics := t.calls.mics }
    events := { s.events with flags := t.events.flags, mask := t.events.mask, station := t.events.station }
    tuners := { t.tuners with plan := s.tuners.plan, policy := s.tuners.policy, report := s.tuners.report }
    stations :=
      { t.stations with
        retire := s.stations.retire, bLow := s.stations.bLow, bHigh := s.stations.bHigh, follow := s.stations.follow } }
  flags : s.events.flags ||| t.events.flags = t.events.flags

/-- No watch waits for a tuner (R69, R70). -/
def State.WatchSettled (s : State) : Prop :=
  s.tuners.watch = none ∨ s.tuners.t1.watch = true ∨ s.tuners.t2.watch = true

/-- No retune is in progress, so no fade phase can end (R77). -/
def State.NoRetune (s : State) : Prop := s.tuners.t1.retune = none ∧ s.tuners.t2.retune = none

end Sys2Proof.Machine
end

