-- ==== Sys2Proof/Certificates/Slice0/Obligations.lean ====
section
/-! DEFINITION. The statements about the model, for the provers: general statements, what requests have in common, the
invariants every step keeps, and what each command does and leaves alone. -/

open Sys2Proof Sys2Proof.Machine

/-! ## The queue, time and transfers -/

/-- A step runs the command at the front of the queue on the state with the queue's rest. On an empty queue a part that is
not held lets one millisecond pass (log entry 9: the model's choice): running timers count down, the routes' tones and
rings and the ALERT routes' times go on, the word count moves by the frames of a millisecond where the link sends words
(R122, log entry 40), one free value is taken, and nothing else changes. A held part stays as it is. -/
def Obligations.StepRunsFrontCommand : Prop :=
  (∀ (s : State) (c : Instr) (rest : List Instr), s.pending = c :: rest → step s = exec c { s with pending := rest }) ∧
  (∀ s : State, s.pending = [] →
    let frames := match s.phone.rate with
      | .mode .nb => 8
      | .mode .wb => 16
      | .mode .swb => 32
      | _ => Config.framesInMs s.freeCount
    let sends := s.phone.link = .negotiating ∨ s.phone.link = .acknowledging ∨ s.phone.link = .up
    (¬s.Works → step s = .next s) ∧
    (s.Works → s.phone.Consistent → step s = .next
      { s with
        freeCount := s.freeCount + 1
        port.resetPending := s.port.resetPending.map (· - 1)
        routes := s.routes.map s.tickRoute
        tuners.interval := s.tuners.interval.map (· - 1)
        jacks.j1.timer := s.jacks.j1.timer.map (· - 1)
        jacks.j2.timer := s.jacks.j2.timer.map (· - 1)
        phone.silence := s.phone.silence.map (· - 1)
        phone.holdOff := s.phone.holdOff.map (· - 1)
        phone.wordCount := if sends then (s.phone.wordCount + frames) % 32 else s.phone.wordCount
        calls.mics := s.calls.mics.map (fun m => { m with check := m.check.map (· - 1) })
        lines := s.lines.map (fun l => { l with timer := l.timer.map (· - 1) })
        sup.left := s.sup.left.map (· - 1)
        store.writer := s.store.writer.map (fun w => { w with left := w.left - 1 }) })) ∧
  (∀ (s : State) (r : Route),
    s.tickRoute r = { r with
      age := if r.cls = .alert then r.age + 1 else r.age
      play := (s.tickRoute r).play } ∧
    (r.play = none ∨ s.playing r = none → (s.tickRoute r).play = r.play) ∧
    ∀ x q n, r.play = some x → s.playing r = some (q, n) →
      (s.tickRoute r).play = some (if x.time + 1 < q.ms x.element then { x with time := x.time + 1 } else x.after q n))

/-- Every well-formed command completes in every state, and no command's own effect touches the queue (log entry 1). -/
def Obligations.CommandsCompleteAndKeepTheQueue : Prop :=
  (∀ (i : Instr) (s : State), i.wf = true → ∃ t, exec i s = .next t) ∧
  (∀ (i : Instr) (s t : State), exec i s = .next t → t.pending = s.pending)

/-- Decoding the transfer of a well-formed command gives the command back. -/
def Obligations.DecodeOfEncode : Prop :=
  ∀ (i : Instr) (bytes : List Byte), i.wf = true → encodeTransfer i = some bytes → decodeTransfer bytes = some i

/-- Every transfer of at least one byte spells one well-formed command, and one that is no read transfer is that command's
encoding, byte for byte. -/
def Obligations.EncodeOfDecode : Prop :=
  ∀ bytes : List Byte, bytes ≠ [] →
    ∃ i, decodeTransfer bytes = some i ∧ i.wf = true ∧ (bytes.head? ≠ some 0#8 → encodeTransfer i = some bytes)

/-! ## What requests have in common -/

/-- The checks of R172 in their order: a request of a client above 5, one that LIMP or QUIET does not take, and one that
the rear-seat checks refuse have no effect but on the watchdog, and are answered with that result; and the catalogue: which
requests LIMP and QUIET take, which are queries, and what client 2 may not make (9.6, R117, R163, R167). -/
def Obligations.ChecksRefuseRequests : Prop :=
  (∀ (i : Instr) (k : Request) (client : Byte) (p : List Byte) (s : State),
     requestOf i = some (k, client, p) → s.takesRequests = true → p.length ≤ 60 →
       let answer := fun (r : Result) (reply : List Byte) =>
         exec i s = .next (s.validRequest.answered (requestFrame k.code client p) (response k.code r reply))
       (5 < client.toNat → answer .badArgument []) ∧
       (client.toNat ≤ 5 → s.sup.state = .limp → k.limp = false → answer .limp []) ∧
       (client.toNat ≤ 5 → s.sup.state = .quiet → k.quiet = false →
         answer .quiet (if k = .resume then [2#8] else [])) ∧
       (client = 2 → (s.sup.state = .limp → k.limp = true) → (s.sup.state = .quiet → k.quiet = true) →
         (s.port.rearLock = true ∧ k.query = false) ∨ k.rear = .never ∨
           (k.rear = .hpZone ∧ ∃ z rest, p = z :: rest ∧ z ≠ 3 ∧ z ≠ 4) →
         answer .notPermitted [])) ∧
  (let taken : List (Request × Byte) := [
      (.routeRetire, 0x12#8), (.retireOwner, 0x13#8), (.routeGet, 0x14#8), (.routeList, 0x15#8), (.zoneGet, 0x22#8),
      (.tunerGet, 0x33#8), (.stationList, 0x40#8), (.stationGet, 0x41#8), (.phoneGet, 0x62#8), (.legState, 0x71#8),
      (.legClose, 0x74#8), (.legGet, 0x75#8), (.directLineGet, 0x81#8), (.eventFetch, 0x90#8), (.storeRead, 0xA0#8),
      (.partInfo, 0xF0#8), (.partReset, 0xF1#8)]
   let refusedLimp : List (Request × Byte) := [
      (.routeLevel, 0x11#8), (.zoneVolume, 0x20#8), (.zoneBalance, 0x21#8), (.duckDepths, 0x23#8),
      (.temperature, 0x24#8), (.derateSet, 0x25#8), (.tunerPolicy, 0x30#8), (.trafficWatch, 0x31#8),
      (.qualityLimits, 0x32#8), (.stationPin, 0x42#8), (.stationForget, 0x43#8), (.stationAdd, 0x44#8),
      (.stationAging, 0x45#8), (.announceFollow, 0x46#8), (.hpCap, 0x50#8), (.hpFollow, 0x51#8), (.rearLock, 0x52#8),
      (.phoneAdvertise, 0x60#8), (.legSeats, 0x72#8), (.legUplink, 0x73#8), (.echoTarget, 0x76#8),
      (.alertLimits, 0x80#8), (.watchdog, 0x82#8), (.keepalive, 0x83#8), (.quietEnter, 0x85#8), (.quietExit, 0x86#8),
      (.eventRouting, 0x91#8), (.storeWrite, 0xA1#8)]
   let refusedQuiet : List (Request × Byte) := [
      (.resume, 0x84#8)]
   let refusedLimpQuiet : List (Request × Byte) := [
      (.routeOpen, 0x10#8), (.phoneRestart, 0x61#8), (.legOpen, 0x70#8)]
   let queries : List Request :=
     [.routeGet, .routeList, .zoneGet, .tunerGet, .stationList, .stationGet, .phoneGet, .legGet, .directLineGet]
   let all := taken ++ refusedLimp ++ refusedQuiet ++ refusedLimpQuiet
   all.length = 49 ∧
   (∀ (i : Instr) (k : Request) (client : Byte) (p : List Byte), requestOf i = some (k, client, p) → (k, k.code) ∈ all) ∧
   ∀ k ∈ all, k.1.code = k.2 ∧
     (k.1.limp = true ↔ k ∈ taken ++ refusedQuiet) ∧ (k.1.quiet = true ↔ k ∈ taken ++ refusedLimp) ∧
     (k.1.query = true ↔ k.1 ∈ queries) ∧ (k.1.rear = .hpZone ↔ k.1 ∈ [.routeOpen, .zoneVolume]) ∧
     (k.1.rear = .never ↔ k.1 ∈ [.zoneBalance, .hpCap, .rearLock]))

/-- A request transfer while the part is held, starts up or has a part reset pending is ignored whole (R168). A good frame with a
code outside the catalogue is a valid request answered UNKNOWN_REQUEST; a frame that fails its check is answered BAD_FRAME
and does nothing else; operands that spell another row are refused (R169, R172). -/
def Obligations.OtherTransfers : Prop :=
  (∀ (i : Instr) (bytes : List Byte) (s : State),
     i.wf = true → encodeTransfer i = some bytes → bytes.head? ≠ some 0#8 →
       s.port.phase ≠ .running ∨ s.port.resetPending.isSome = true →
       exec i s = .next { s with port.sdo := List.replicate bytes.length 0#8 }) ∧
  (∀ s : State,
     (∀ (code c : Byte) (p : List Byte), code ≠ 0 → inCatalogue code = false → p.length ≤ 60 → s.takesRequests = true →
       exec (.unknownRequest code c p) s =
         .next (s.validRequest.answered (requestFrame code c p) (response code .unknownRequest []))) ∧
     (∀ (code c : Byte) (p : List Byte), code = 0 ∨ inCatalogue code = true →
       exec (.unknownRequest code c p) s = .refused .anotherCommand) ∧
     (∀ (b : Byte) (rest : List Byte), b ≠ 0 → frameGood (b :: rest) = false → s.takesRequests = true →
       exec (.badFrame (b :: rest)) s = .next (s.answered (b :: rest) (response b .badFrame []))) ∧
     (∀ (b : Byte) (rest : List Byte), b = 0 ∨ frameGood (b :: rest) = true →
       exec (.badFrame (b :: rest)) s = .refused .anotherCommand))

/-- Every request taken is answered once: its frame stands in the request buffer, its response is UNREAD and READY is high;
a result other than OK means that nothing but the watchdog and the answer changed (R170, R172, R173). -/
def Obligations.TakenRequestsAreAnswered : Prop :=
  ∀ (i : Instr) (k : Request) (client : Byte) (p : List Byte) (s : State),
    requestOf i = some (k, client, p) → s.takesRequests = true → p.length ≤ 60 →
      ∃ t r reply, exec i s = .next t ∧
        t.port.requestBuffer = requestFrame k.code client p ∧
        t.port.buffer = .unread (response k.code r reply) ∧
        t.port.sdo = List.replicate (p.length + 4) 0#8 ∧
        t.ready = true ∧
        (r ≠ .ok →
          (k ≠ .resume ∨ r ≠ .quiet → reply = []) ∧
          t = s.validRequest.answered (requestFrame k.code client p) (response k.code r reply))

/-- Every valid request in RUN, carried out or refused, arms or restarts the watchdog if a period is in force: it has the
whole period left, and WATCHDOG_ARMED is raised when it was UNARMED (R162). RESUME and QUIET_EXIT received in RUN are among
them: R162's exception is read as the requests that bring RUN (log entry 13). -/
def Obligations.ValidRequestsArmTheWatchdog : Prop :=
  ∀ (i : Instr) (k : Request) (client : Byte) (p : List Byte) (s : State),
    requestOf i = some (k, client, p) → s.takesRequests = true → p.length ≤ 60 → s.sup.state = .run →
      ∃ t, exec i s = .next t ∧
        (t.sup.state = .run → ∀ ms, t.sup.period.ms = some ms →
          t.sup.left = some ms ∧ (s.sup.left = none → t.events.flags.getLsbD 17 = true))

/-! ## The state after reset -/

/-- State.reset meets every invariant below. -/
def Obligations.ResetMeetsTheInvariants : Prop :=
  let s := State.reset
  s.mixer.InRange ∧ s.thermal.InRange ∧ (∀ i, Between (-240) 0 (s.lines.get i).level) ∧
    (∀ r ∈ s.routes, r.GainsInRange ∧ r.Consistent) ∧ s.SlotsOrdered ∧ s.LimpSilent ∧ (s.sup.state = .quiet → s.QuietBare) ∧
    s.TunersApart ∧ s.stations.Ordered ∧ s.phone.Consistent ∧ s.calls.Consistent ∧ s.sup.Consistent ∧ s.store.InRange ∧
    s.ConditionsPending ∧ s.Ranked ∧ s.OneWinner ∧ s.TunersCounted

/-! ## Invariants of every step -/

/-- The gain path stays in its ranges: volumes, caps, balances, duck depths, alert floor, applied weights, derate values,
line levels, and every route's level, applied gain and ramp target (R1, R34, R38 to R46, R49, R113). -/
def Obligations.GainPathStaysInRange : Prop :=
  ∀ s t : State, s.mixer.InRange → s.thermal.InRange → (∀ i, Between (-240) 0 (s.lines.get i).level) →
    (∀ r ∈ s.routes, r.GainsInRange) → step s = .next t →
    t.mixer.InRange ∧ t.thermal.InRange ∧ (∀ i, Between (-240) 0 (t.lines.get i).level) ∧ ∀ r ∈ t.routes, r.GainsInRange

/-- The Route Table stays in slot order with one route a slot, and every route's fields go on agreeing with its state: a
cause exactly in PENDING, MUTE in PENDING and SUSPENDED, MUTE as target in YIELDING and CLOSING, no ALERT outranked. -/
def Obligations.RouteTableStaysConsistent : Prop :=
  ∀ s t : State, s.SlotsOrdered → (∀ r ∈ s.routes, r.Consistent) → step s = .next t →
    t.SlotsOrdered ∧ ∀ r ∈ t.routes, r.Consistent

/-- In every domain the ranks of the routes stay 1 to their number, one each, whatever happens (R4); and at most one CALL,
one ANNOUNCEMENT and one MEDIA route of a domain is PENDING, RISING or PLAYING, so at most one sounds (R25, R27). -/
def Obligations.RanksAndWinnersStayUnique : Prop :=
  ∀ s t : State, s.SlotsOrdered → s.Ranked → step s = .next t →
    t.Ranked ∧ (s.OneWinner → t.OneWinner)

/-- In LIMP no PROMPT, ANNOUNCEMENT or MEDIA route is PENDING, RISING or PLAYING, whatever happens (R26, R163). -/
def Obligations.LimpStaysSilent : Prop := ∀ s t : State, s.LimpSilent → step s = .next t → t.LimpSilent

/-- In QUIET nothing stands but direct lines' routes: both tuners FREE, no pairing, watch, announcement or leg, and the
link DOWN; and no command of a part in QUIET changes that (R31, R64, R133, R166). -/
def Obligations.QuietStaysBare : Prop :=
  ∀ s t : State, (s.sup.state = .quiet → s.QuietBare) → step s = .next t → t.sup.state = .quiet → t.QuietBare

/-- The two tuners never come to hold programs on one frequency (R65); the Station Table stays in frequency order, one record a
frequency, 48 records at most (R88, R92). -/
def Obligations.TunersStayApartAndStationsOrdered : Prop :=
  (∀ s t : State, s.TunersApart → step s = .next t → t.TunersApart) ∧
  (∀ s t : State, s.stations.Ordered → step s = .next t → t.stations.Ordered)

/-- The Tuner Allocator's counts stay right, whatever happens: a tuner's user count is the number of its routes and the
in-use set is the programs' frequencies (R63, R65, R68, R91); a program is held by a route or the watch; and the waiting
list holds just the routes by program code that have no tuner, each once (R66). -/
def Obligations.TunersStayCounted : Prop :=
  ∀ s t : State, s.SlotsOrdered → s.TunersApart → s.TunersCounted → step s = .next t → t.TunersCounted

/-- The items of the phone port go on agreeing with its link state (R120, R123 to R131); the legs stay at most three with
different identifiers, at most one ACTIVE, in opening order, their settings in range (R136 to R138). -/
def Obligations.PhonePortAndCallsStayConsistent : Prop :=
  (∀ s t : State, s.phone.Consistent → step s = .next t → t.phone.Consistent) ∧
  (∀ s t : State, s.calls.Consistent → step s = .next t → t.calls.Consistent)

/-- The watchdog stays ARMED only in RUN within its period, limp volume, write count and writer stay in range (R162, R182, R185,
R186); a condition source stays pending while its condition is true, EVENT_FETCH or not (R177, R180). -/
def Obligations.SupervisionStoreAndConditionsHold : Prop :=
  (∀ s t : State, s.sup.Consistent → s.store.InRange → step s = .next t → t.sup.Consistent ∧ t.store.InRange) ∧
  (∀ s t : State, s.ConditionsPending → step s = .next t → t.ConditionsPending)

/-! ## Zones, gain and derating -/

/-- ZONE_BALANCE sets CABIN's balance and fade, or FRONT's balance, fitted to -10..10; TEMPERATURE stores the external
value fitted to -40..150; DERATE_SET replaces source, knee and slope. Nothing else changes but the answer. TEMPERATURE and
DERATE_SET are refused in LIMP, and taken from every client elsewhere but from client 2 under the lock (R47, R48, R59). -/
def Obligations.BalanceAndThermalRequests : Prop :=
  ∀ (s : State) (c : Byte) (p : List Byte),
    (s.Accepts .zoneBalance c p →
      let b := fit (-10) 10 (i8At p 1)
      let f := fit (-10) 10 (i8At p 2)
      (p.length = 3 → u8At p 0 = 0 →
        exec (.zoneBalance c p) s = .next (s.served { s with mixer.cabin.balance := b, mixer.cabin.fade := f }
          .zoneBalance c p (u8 0 ++ i8 b ++ i8 f))) ∧
      (p.length = 3 → u8At p 0 = 1 →
        exec (.zoneBalance c p) s =
          .next (s.served { s with mixer.front.balance := b } .zoneBalance c p (u8 1 ++ i8 b ++ [0#8]))) ∧
      (p.length ≠ 3 ∨ 2 ≤ u8At p 0 → exec (.zoneBalance c p) s = .next (s.declined .zoneBalance c p .badArgument))) ∧
    (s.Accepts .temperature c p →
      let x := fit (-40) 150 (i16At p 0)
      (p.length = 2 →
        exec (.temperature c p) s = .next (s.served { s with thermal.external := x } .temperature c p
          (i16 x ++ u8 s.thermal.source.code ++ i16 s.thermal.derate))) ∧
      (p.length ≠ 2 → exec (.temperature c p) s = .next (s.declined .temperature c p .badArgument))) ∧
    (s.Accepts .derateSet c p →
      let good := p.length = 3 ∧ u8At p 0 ≤ 1 ∧ (60 ≤ u8At p 1 ∧ u8At p 1 ≤ 120) ∧ (1 ≤ u8At p 2 ∧ u8At p 2 ≤ 15)
      (good → c = 0 →
        exec (.derateSet c p) s =
          .next (s.served
            { s with
              thermal.source := if u8At p 0 = 1 then .external else .internal
              thermal.knee := u8At p 1
              thermal.slope := u8At p 2 }
            .derateSet c p (p ++ i16 s.thermal.derate))) ∧
      (¬good → exec (.derateSet c p) s = .next (s.declined .derateSet c p .badArgument)) ∧
      (good → c ≠ 0 → exec (.derateSet c p) s = .next (s.declined .derateSet c p .notPermitted))) ∧
    (s.takesRequests = true → p.length ≤ 60 → c.toNat ≤ 5 →
      (s.sup.state = .limp →
        exec (.temperature c p) s = .next (s.declined .temperature c p .limp) ∧
        exec (.derateSet c p) s = .next (s.declined .derateSet c p .limp)) ∧
      (s.sup.state ≠ .limp → c ≠ 2 ∨ s.port.rearLock = false → s.Accepts .temperature c p ∧ s.Accepts .derateSet c p))

/-- ZONE_VOLUME stores the new step, fitted to 0 and to 40 or the cap; a CABIN change moves the HP zones that follow by as
much within their caps; every route of a zone whose step changed is re-aimed at NORMAL; nothing else changes (R58, R115). -/
def Obligations.ZoneVolumeSetsSteps : Prop :=
  ∀ (s : State) (c : Byte) (p : List Byte) (z : Zone), s.Accepts .zoneVolume c p →
    (p.length = 3 → zoneOf (u8At p 0) = some z → u8At p 1 ≤ 1 →
      let old := fun z => (s.mixer.zone z).volume
      let v := if u8At p 1 = 0 then min (u8At p 2) (s.mixer.limit z) else movedStep (old z) (i8At p 2) (s.mixer.limit z)
      ∃ u, exec (.zoneVolume c p) s = .next (s.served u .zoneVolume c p (u8 z.code ++ u8 v)) ∧
        u = { s with
          mixer.cabin := u.mixer.cabin
          mixer.front := u.mixer.front
          mixer.driver := u.mixer.driver
          mixer.hp1 := u.mixer.hp1
          mixer.hp2 := u.mixer.hp2
          routes := u.routes } ∧
        (∀ y, u.mixer.zone y = { s.mixer.zone y with
          volume :=
            if y = z then v
            else if z = .cabin ∧ v ≠ old z ∧ y.domain ≠ .cabinGroup ∧ (s.mixer.zone y).follow = true then
              movedStep (old y) ((v : Int) - (old z : Int)) (s.mixer.zone y).cap
            else old y }) ∧
        u.routes = s.routes.map (fun r => if (u.mixer.zone r.zone).volume = old r.zone then r else u.retarget .normal r)) ∧
    (p.length ≠ 3 ∨ 5 ≤ u8At p 0 ∨ 2 ≤ u8At p 1 →
      exec (.zoneVolume c p) s = .next (s.declined .zoneVolume c p .badArgument))

/-- DUCK_DEPTHS replaces the table, recomputes every route's duck attenuation as the largest depth by which a route of its
domain in RISING or PLAYING ducks its class, 0 where there is none, and re-aims at NORMAL those it changes; ALERT_LIMITS
replaces the alert floor and the maximum duration and re-aims the ALERT routes; nothing else changes (R28, R40 to R42,
R160). -/
def Obligations.DuckDepthsAndAlertLimits : Prop :=
  (∀ (s : State) (c : Byte) (p : List Byte),
    (s.Accepts .duckDepths c p →
      (p.length = 3 → c = 0 →
        let d : DuckDepths := { alert := min 240 (u8At p 0), call := min 240 (u8At p 1), prompt := min 240 (u8At p 2) }
        let t := { s with mixer.depths := d }
        exec (.duckDepths c p) s =
          .next (s.served
            { t with
              routes := s.routes.map (fun r =>
                if t.duckOf s.routes r = r.duck then r
                else t.retarget .normal { r with duck := t.duckOf s.routes r }) }
            .duckDepths c p (u8 d.alert ++ u8 d.call ++ u8 d.prompt))) ∧
      (p.length ≠ 3 → exec (.duckDepths c p) s = .next (s.declined .duckDepths c p .badArgument)) ∧
      (p.length = 3 → c ≠ 0 → exec (.duckDepths c p) s = .next (s.declined .duckDepths c p .notPermitted))) ∧
    (s.Accepts .alertLimits c p →
      (p.length = 3 → c = 0 →
        let floor := fit (-240) 0 (i16At p 0)
        let d := max 1 (min 120 (u8At p 2))
        let t := { s with mixer.alertFloor := floor, alertMax := d }
        exec (.alertLimits c p) s =
          .next (s.served
            { t with routes := s.routes.map (fun r => if r.cls = .alert then t.retarget .normal r else r) }
            .alertLimits c p (i16 floor ++ u8 d))) ∧
      (p.length ≠ 3 → exec (.alertLimits c p) s = .next (s.declined .alertLimits c p .badArgument)) ∧
      (p.length = 3 → c ≠ 0 → exec (.alertLimits c p) s = .next (s.declined .alertLimits c p .notPermitted)))) ∧
  (∀ (s : State) (rs : List Route) (r : Route),
    let ducks := fun (x : Route) => x.zone.domain = r.zone.domain ∧ (x.state = .rising ∨ x.state = .playing)
    let depth := fun (x : Route) => s.mixer.depths.depth x.cls r.cls
    (∀ x ∈ rs, ducks x → depth x ≤ s.duckOf rs r) ∧
    (s.duckOf rs r ≠ 0 → ∃ x ∈ rs, ducks x ∧ depth x = s.duckOf rs r)) ∧
  (∀ (d : DuckDepths) (ducker ducked : RouteClass), d.depth ducker ducked =
    if ducker = .alert ∧ ducked ≠ .alert then d.alert
    else if ducker = .call ∧ ducked = .prompt then d.call
    else if ducker = .prompt ∧ (ducked = .announcement ∨ ducked = .media) then d.prompt
    else 0)

/-- A recomputed target re-aims a route in RISING or PLAYING without the fade mark, at the given step time, and leaves
every other route as it is: the ramp goes on from the applied gain, or from -384 q where it leaves MUTE, and a ramp that
stands at its target there ends at once, RISING becoming PLAYING. The new target is the sum of R49, for an ALERT route with
the alert floor and without the duck term (R8, R49 to R52). -/
def Obligations.RecomputedTargetsReAim : Prop :=
  ∀ (s : State) (k : RampClass) (r : Route),
    ((r.state ≠ .rising ∧ r.state ≠ .playing) ∨ r.fadeMark = true ∨ r.target = some (s.computedTarget r) →
      s.retarget k r = r) ∧
    ((r.state = .rising ∨ r.state = .playing) → r.fadeMark = false → r.target ≠ some (s.computedTarget r) →
      let goal := s.computedTarget r
      let start := if r.applied = .mute ∧ goal ≠ .mute then .q (-384) else r.applied
      s.retarget k r =
        { r with
          target := some goal, step := k, applied := start, running := decide (start ≠ goal)
          state := if start = goal then .playing else r.state }) ∧
    (r.cls ≠ .alert →
      let v := (s.mixer.zone r.zone).volume
      let sum := r.level - 2 * ((tabGet s.mixer.curve v 0 : Nat) : Int) - (r.duck : Int) -
        (if r.zone.domain = .cabinGroup then (s.thermal.derate : Int) else 0)
      s.computedTarget r = if v = 0 ∨ sum < -384 then .mute else .q sum) ∧
    (r.cls = .alert →
      let v := (s.mixer.zone r.zone).volume
      let floor := s.mixer.alertFloor
      let sum := r.level + (if v = 0 then floor else max (-2 * ((tabGet s.mixer.curve v 0 : Nat) : Int)) floor) -
        (if r.zone.domain = .cabinGroup then (s.thermal.derate : Int) else 0)
      s.computedTarget r = if sum < -384 then .mute else .q sum)

/-- A weight step moves every applied weight of CABIN, FRONT and DRIVER by 1 q toward its target weight (R38, R39). A thermal
reading forms reading, computed value, derate and recovery by their rules, re-aims the cabin-group routes where the derate
changed, and raises THERMAL where it rose from 0 (R43 to R46). Nothing else changes. -/
def Obligations.WeightStepsAndThermalReadings : Prop :=
  (∀ s : State, s.Works →
     ∃ t, exec .weightRampStep s = .next t ∧
       t = { s with mixer.wCabin := t.mixer.wCabin, mixer.wFront := t.mixer.wFront, mixer.wDriver := t.mixer.wDriver } ∧
       ∀ (i : Fin 20) (z : Zone) (target : Int),
         target = (match z with
           | .cabin => weightFor s.mixer.cabin.balance s.mixer.cabin.fade (s.mixer.map.get i)
           | .front => weightFor s.mixer.front.balance 0 (s.mixer.map.get i)
           | _ => 0) →
         z.domain = .cabinGroup →
           (s.mixer.weight z i < target → t.mixer.weight z i = s.mixer.weight z i + 1) ∧
           (target < s.mixer.weight z i → t.mixer.weight z i = s.mixer.weight z i - 1) ∧
           (s.mixer.weight z i = target → t.mixer.weight z i = target)) ∧
  (∀ (s : State) (sensor : Int), s.Works →
     ∃ t, exec (.thermalReading sensor) s = .next t ∧
       t = { s with
         thermal.reading := t.thermal.reading
         thermal.computed := t.thermal.computed
         thermal.derate := t.thermal.derate
         thermal.recovery := t.thermal.recovery
         routes := t.routes
         events.flags := t.events.flags } ∧
       t.thermal.reading = max (-40) (min 150 (if s.thermal.source = .external then s.thermal.external else sensor)) ∧
       (t.thermal.computed : Int) =
         (if t.thermal.reading ≤ s.thermal.knee then 0
         else min 72 ((4 * (s.thermal.slope : Int) * (t.thermal.reading - s.thermal.knee) + 5) / 10)) ∧
       (s.thermal.derate < t.thermal.computed → t.thermal.derate = t.thermal.computed ∧ t.thermal.recovery = 0) ∧
       (t.thermal.computed = s.thermal.derate → t.thermal.derate = s.thermal.derate ∧ t.thermal.recovery = 0) ∧
       (t.thermal.computed < s.thermal.derate → s.thermal.recovery < 9 →
         t.thermal.derate = s.thermal.derate ∧ t.thermal.recovery = s.thermal.recovery + 1) ∧
       (t.thermal.computed < s.thermal.derate → 9 ≤ s.thermal.recovery →
         t.thermal.derate + 1 = s.thermal.derate ∧ t.thermal.recovery = 0) ∧
       (t.thermal.derate = s.thermal.derate → t.routes = s.routes) ∧
       (t.thermal.derate ≠ s.thermal.derate → t.routes =
         s.routes.map (fun r =>
           if r.zone.domain = .cabinGroup then
             State.retarget { s with thermal.derate := t.thermal.derate } .normal r
           else r)) ∧
       t.events.flags =
         (if s.thermal.derate = 0 ∧ 0 < t.thermal.derate then s.events.flags ||| 1#18 <<< 13 else s.events.flags))

/-- A step of a ramp always completes: a running one moves 1 q toward the target, and where no ramp runs no route changes its
name (log entry 6). On reaching the target the ramp stops, RISING becomes PLAYING, YIELDING becomes SUSPENDED at MUTE, and a
CLOSING route is removed with its slot free and its reuse count one higher (R8, R13, R51). No other route changes while no
fade phase ends.
When the last route with the retune fade mark reaches MUTE the fade phase ends: RETUNE is notified, and a self jump leaves
the program, or a switch or revert moves the program, its in-use mark and its watch and raises AF_SWITCH, which a WAITING
watch on the new frequency joins; where the other tuner holds the new frequency the move is not made and AVAILABLE is
notified (R9, R69, R70, R77, R83; log entry 16). -/
def Obligations.RampStepMovesTheGain : Prop :=
  (∀ (s : State) (slot : Nat), s.Works → (∀ r ∈ s.routes, r.slot = slot → r.running = false) →
     ∃ t, exec (.rampStep slot) s = .next t ∧ s.TunerWork t) ∧
  (∀ (s : State) (r : Route) (a : Int) (target : Gain), s.Works → s.SlotsOrdered → r ∈ s.routes →
     r.Consistent → r.running = true → r.applied = .q a → r.target = some target →
       ∃ t, exec (.rampStep r.slot) s = .next t ∧ s.TableWork t ∧
         let goal := match target with
           | .mute => -385
           | .q v => v
         let b := if a < goal then a + 1 else if goal < a then a - 1 else a
         let others := s.routes.filter (fun x => x.slot ≠ r.slot)
         let fadesGoOn := ∀ x k, (s.tuner x).retune = some ⟨k, false⟩ → ∃ y ∈ s.routes,
           y.tuner = some x ∧ y.fadeMark = true ∧ y.applied ≠ .mute ∧ (y.slot = r.slot → b ≠ goal)
         fadesGoOn →
         (b ≠ goal → ∃ n, t.routeIn r.slot = some n ∧ n = { r with applied := .q b } ∧
           t.routes.filter (fun x => x.slot ≠ r.slot) = others) ∧
         (b = goal → r.state = .rising → r.fadeMark = false →
           t.routeIn r.slot = some { r with applied := target, running := false, state := .playing } ∧
           t.routes.filter (fun x => x.slot ≠ r.slot) = others) ∧
         (b = goal → r.state = .playing ∨ (r.state = .rising ∧ r.fadeMark = true) →
           t.routeIn r.slot = some { r with applied := target, running := false } ∧
           t.routes.filter (fun x => x.slot ≠ r.slot) = others) ∧
         (b = goal → r.state = .yielding →
           ∃ n, t.routeIn r.slot = some n ∧ n.state = .suspended ∧ n.applied = .mute ∧ n.target = none ∧
             n.running = false ∧ n.identity = r.identity ∧ t.routes.filter (fun x => x.slot ≠ r.slot) = others) ∧
         (b = goal → r.state = .closing →
           t.routeIn r.slot = none ∧ tabGet t.reuse (r.slot - 1) 0 = tabGet s.reuse (r.slot - 1) 0 + 1 ∧
             t.routes.map Route.identity = others.map Route.identity ∧ t.events.mask.getLsbD (r.slot - 1) = true)) ∧
  (∀ (s : State) (r : Route) (x : TunerId) (k : RetuneKind), s.Works → s.SlotsOrdered → (∀ y ∈ s.routes, y.Consistent) →
    r ∈ s.routes → r.tuner = some x → r.fadeMark = true → r.running = true → r.applied = .q (-384) →
    r.target = some .mute → (s.tuner x).role = .program → (s.tuner x).retune = some ⟨k, false⟩ → (s.tuner (otherTuner x)).retune = none →
    (∀ y ∈ s.routes, y.slot ≠ r.slot → y.tuner = some x → y.fadeMark = true → y.applied = .mute) →
      ∃ t, exec (.rampStep r.slot) s = .next t ∧ s.TunerWork t ∧
        let o := otherTuner x
        let moves := fun (dest : Nat) => (∃ c, k = .switch dest c) ∨ ∃ code, k = .revert dest code
        let away := ∀ n ∈ t.routes, n.tuner = some x → n.source.kindCode = 2 ∨ n.source.kindCode = 3 →
          n.condition = .retune ∧ n.state ≠ .rising ∧ n.state ≠ .playing ∧
          (n.state = .pending → n.cause = some (if s.listener n.zone then .retune else .noListener))
        (∀ c, k = .jump c → away ∧ (t.tuner x).activity = .selfAfJump ∧ (t.tuner x).retune = some ⟨k, true⟩ ∧
          (t.tuner x).frequency = (s.tuner x).frequency) ∧
        (∀ dest, moves dest → (s.tuner o).holds dest = true →
          (t.tuner x).retune = none ∧ (t.tuner x).af = .idle ∧ (t.tuner x).streak = 0 ∧
          (t.tuner x).frequency = (s.tuner x).frequency ∧ (∀ code, k = .revert dest code → (t.tuner x).code = code) ∧
          ∀ n ∈ t.routes, n.tuner = some x → n.fadeMark = false ∧ n.condition = .available) ∧
        (∀ dest, moves dest → (s.tuner o).holds dest = false →
          away ∧ (t.tuner x).frequency = some dest ∧ (t.tuner x).activity = .retune ∧ (t.tuner x).retune = some ⟨k, true⟩ ∧
          (t.tuner x).oldFrequency = (if k = .switch dest true then (s.tuner x).frequency else none) ∧
          t.events.flags.getLsbD 7 = true ∧
          ((s.tuner x).watch = true → t.tuners.watch = some dest ∧ t.stations.watch = some (dest, x)) ∧
          (s.tuners.watch = some dest → s.tuners.t1.watch = false → s.tuners.t2.watch = false → s.sup.state ≠ .quiet →
            (t.tuner x).watch = true ∧ t.tuners.watch = some dest ∧ t.stations.watch = some (dest, x)) ∧
          (s.WatchSettled → dest ∈ t.stations.inUse ∧
            ∀ old, (s.tuner x).frequency = some old → old ≠ dest → old ∉ t.stations.inUse)))

/-! ## Stations, settings, events and the store -/

/-- QUALITY_LIMITS, STATION_AGING and ANNOUNCE_FOLLOW of client 0 replace the settings they name (R86, R108, R109). STATION_PIN
sets or clears a record's pinned flag; STATION_FORGET removes a record that is not in use, sets the station change flag
(R105, R106) and answers without a payload (log entry 34). Nothing else changes. -/
def Obligations.StationSettingsAndRecords : Prop :=
  (∀ (s : State) (c : Byte) (p : List Byte),
     (s.Accepts .qualityLimits c p →
       (p.length = 3 → ∀ k, reportOf (u8At p 2) = some k → c = 0 →
         let low := min 120 (u8At p 0)
         let high := max low (min 120 (u8At p 1))
         exec (.qualityLimits c p) s =
           .next (s.served { s with stations.bLow := low, stations.bHigh := high, tuners.report := k }
             .qualityLimits c p (u8 low ++ u8 high ++ u8 k.code))) ∧
       (p.length ≠ 3 ∨ 8 ≤ u8At p 2 → exec (.qualityLimits c p) s = .next (s.declined .qualityLimits c p .badArgument)) ∧
       (p.length = 3 → u8At p 2 ≤ 7 → c ≠ 0 →
         exec (.qualityLimits c p) s = .next (s.declined .qualityLimits c p .notPermitted))) ∧
     (s.Accepts .stationAging c p →
       let good := p.length = 1 ∧ 1 ≤ u8At p 0 ∧ u8At p 0 ≤ 15
       (good → c = 0 → exec (.stationAging c p) s =
         .next (s.served { s with stations.retire := u8At p 0 } .stationAging c p (p ++ [s.stations.round]))) ∧
       (¬good → exec (.stationAging c p) s = .next (s.declined .stationAging c p .badArgument)) ∧
       (good → c ≠ 0 → exec (.stationAging c p) s = .next (s.declined .stationAging c p .notPermitted))) ∧
     (s.Accepts .announceFollow c p →
       let good := p.length = 1 ∧ u8At p 0 ≤ 31
       (good → c = 0 → ∃ z : ZoneSet, z.sum = u8At p 0 ∧
         exec (.announceFollow c p) s = .next (s.served { s with stations.follow := z } .announceFollow c p
           (p ++ if s.stations.announcing then [1#8] else [0#8]))) ∧
       (¬good → exec (.announceFollow c p) s = .next (s.declined .announceFollow c p .badArgument)) ∧
       (good → c ≠ 0 → exec (.announceFollow c p) s = .next (s.declined .announceFollow c p .notPermitted)))) ∧
  (∀ (s : State) (c : Byte) (p : List Byte),
     (s.Accepts .stationPin c p →
       (p.length = 3 → u8At p 2 ≤ 1 → ∀ r, s.stations.find (u16At p 0) = some r →
         exec (.stationPin c p) s =
           .next (s.served
             { s with
               stations.records := s.stations.records.map (fun x =>
                 if x.frequency = u16At p 0 then { x with pinned := u8At p 2 = 1 } else x) }
             .stationPin c p (p ++ u8 r.age))) ∧
       (p.length = 3 → u8At p 2 ≤ 1 → s.stations.find (u16At p 0) = none →
         exec (.stationPin c p) s = .next (s.declined .stationPin c p .notFound)) ∧
       (p.length ≠ 3 ∨ 2 ≤ u8At p 2 → exec (.stationPin c p) s = .next (s.declined .stationPin c p .badArgument))) ∧
     (s.Accepts .stationForget c p →
       (p.length = 2 → ∀ r, s.stations.find (u16At p 0) = some r → u16At p 0 ∉ s.stations.inUse →
         exec (.stationForget c p) s =
           .next (s.served
             { s with
               stations.records := s.stations.records.filter (fun x => x.frequency ≠ u16At p 0)
               events.station := true
               events.flags := s.events.flags ||| 1#18 <<< 4 }
             .stationForget c p [])) ∧
       (p.length = 2 → ∀ r, s.stations.find (u16At p 0) = some r → u16At p 0 ∈ s.stations.inUse →
         exec (.stationForget c p) s = .next (s.declined .stationForget c p .notPermitted)) ∧
       (p.length = 2 → s.stations.find (u16At p 0) = none →
         exec (.stationForget c p) s = .next (s.declined .stationForget c p .notFound)) ∧
       (p.length ≠ 2 → exec (.stationForget c p) s = .next (s.declined .stationForget c p .badArgument))))

/-- STATION_ADD inserts a record for a raster frequency that has none, pinned and with the code it gives, in place of the
victim where the table is full, or applies pin and code to the record there is, whose name and AF list a different code
clears and whose measurement, age and traffic flags stay (R88, R94); without a victim it answers TABLE_FULL.
What waits is assumed away: no retune and no watch, which could insert a record of their own (R92, R107). The victim is, of
the records neither pinned nor in use, the one of worst area, then highest age, lowest quality, lowest frequency (R92); the
best record of a code the one of highest area, then highest quality, lowest frequency (R99). -/
def Obligations.StationAddInsertsOrApplies : Prop :=
  (∀ (s : State) (c : Byte) (p : List Byte), s.Accepts .stationAdd c p → s.NoRetune → s.tuners.watch = none →
     let f := u16At p 0
     let code := u16At p 2
     let good := p.length = 5 ∧ onRaster s.tuners.plan f = true ∧ u8At p 4 ≤ 1
     let added : Station :=
       { frequency := f, code := if code = 0 then none else some code, name := List.replicate 8 none
         capable := false, active := false, afList := [], last := none, age := 0, refreshed := true
         pinned := u8At p 4 = 1 }
     (good → ∀ r, s.stations.find f = some r → ∃ u,
       exec (.stationAdd c p) s =
         .next (s.served u .stationAdd c p [0#8, if code ≠ 0 ∧ r.code ≠ some code then 1#8 else 0#8]) ∧
       s.TunerWork u ∧
       let kept := if code ≠ 0 ∧ r.code ≠ none ∧ r.code ≠ some code then
         { r with name := List.replicate 8 none, afList := [] } else r
       u.stations.find f = some
         { kept with
           frequency := f, code := if code = 0 then r.code else some code, pinned := r.pinned || u8At p 4 = 1 }) ∧
     (good → s.stations.find f = none → s.stations.records.length < 48 → ∃ u,
       exec (.stationAdd c p) s = .next (s.served u .stationAdd c p [1#8, if code ≠ 0 then 1#8 else 0#8]) ∧
       s.TunerWork u ∧ u.events.station = true ∧ u.events.flags.getLsbD 4 = true ∧ u.stations.find f = some added) ∧
     (good → s.stations.find f = none → 48 ≤ s.stations.records.length →
       ∀ v, s.stations.victim = some v → ∃ u,
         exec (.stationAdd c p) s = .next (s.served u .stationAdd c p [1#8, if code ≠ 0 then 1#8 else 0#8]) ∧
         s.TunerWork u ∧ u.events.station = true ∧ u.events.flags.getLsbD 4 = true ∧
         u.stations.find v.frequency = none ∧ u.stations.find f = some added) ∧
     (good → s.stations.find f = none → 48 ≤ s.stations.records.length →
       (∀ r ∈ s.stations.records, r.pinned = true ∨ r.frequency ∈ s.stations.inUse) →
       exec (.stationAdd c p) s = .next (s.declined .stationAdd c p .tableFull)) ∧
     (¬good → exec (.stationAdd c p) s = .next (s.declined .stationAdd c p .badArgument))) ∧
  (∀ (t : Stations), t.Ordered →
    let area := fun (r : Station) => match r.last with
      | some (_, a, _) => a.code
      | none => 3
    let quality := fun (r : Station) => match r.last with
      | some (q, _, _) => q
      | none => 0
    let open_ := fun (r : Station) => r ∈ t.records ∧ r.pinned = false ∧ r.frequency ∉ t.inUse
    let before := fun (a b : Station) => area b < area a ∨ (area a = area b ∧ (b.age < a.age ∨ (a.age = b.age ∧
      (quality a < quality b ∨ (quality a = quality b ∧ a.frequency < b.frequency)))))
    let better := fun (a b : Station) => area a < area b ∨ (area a = area b ∧
      (quality b < quality a ∨ (quality a = quality b ∧ a.frequency < b.frequency)))
    (t.victim = none ↔ ∀ r, ¬open_ r) ∧
    (∀ v, t.victim = some v ↔ open_ v ∧ ∀ r, open_ r → r.frequency ≠ v.frequency → before v r) ∧
    (∀ c, t.best c = none ↔ ∀ r ∈ t.records, r.code ≠ some c) ∧
    (∀ c b, t.best c = some b ↔ (b ∈ t.records ∧ b.code = some c) ∧
      ∀ r ∈ t.records, r.code = some c → r.frequency ≠ b.frequency → better b r) ∧
    Area.i.code < Area.ii.code ∧ Area.ii.code < Area.iii.code ∧ Area.iii.code = 3)

/-- HP_FOLLOW sets or clears one HP zone's follow flag; REAR_LOCK of client 0 sets or clears the lock; HP_CAP of client 0 stores
the zone's cap, fitted to 40, and lowers a step above it to it, re-aiming the zone's routes at NORMAL; nothing else
(R113, R114, R116, R118). -/
def Obligations.RearSeatRequests : Prop :=
  (∀ (s : State) (c : Byte) (p : List Byte),
     (s.Accepts .hpFollow c p →
       (p.length = 2 → u8At p 1 ≤ 1 → u8At p 0 = 3 →
         exec (.hpFollow c p) s = .next (s.served { s with mixer.hp1.follow := u8At p 1 = 1 } .hpFollow c p
           (p ++ u8 s.mixer.hp1.volume))) ∧
       (p.length = 2 → u8At p 1 ≤ 1 → u8At p 0 = 4 →
         exec (.hpFollow c p) s = .next (s.served { s with mixer.hp2.follow := u8At p 1 = 1 } .hpFollow c p
           (p ++ u8 s.mixer.hp2.volume))) ∧
       (p.length ≠ 2 ∨ 2 ≤ u8At p 1 ∨ (u8At p 0 ≠ 3 ∧ u8At p 0 ≠ 4) →
         exec (.hpFollow c p) s = .next (s.declined .hpFollow c p .badArgument))) ∧
     (s.Accepts .rearLock c p →
       (p.length = 1 → u8At p 0 ≤ 1 → c = 0 →
         exec (.rearLock c p) s = .next (s.served { s with port.rearLock := u8At p 0 = 1 } .rearLock c p p)) ∧
       (p.length ≠ 1 ∨ 2 ≤ u8At p 0 → exec (.rearLock c p) s = .next (s.declined .rearLock c p .badArgument)) ∧
       (p.length = 1 → u8At p 0 ≤ 1 → c ≠ 0 →
         exec (.rearLock c p) s = .next (s.declined .rearLock c p .notPermitted)))) ∧
  (∀ (s : State) (c : Byte) (p : List Byte) (z : Zone), s.Accepts .hpCap c p →
     (p.length = 2 → zoneOf (u8At p 0) = some z → z.domain ≠ .cabinGroup → c = 0 →
       let old := (s.mixer.zone z).volume
       let cap := min 40 (u8At p 1)
       ∃ u, exec (.hpCap c p) s = .next (s.served u .hpCap c p (u8 z.code ++ u8 cap ++ u8 (min old cap))) ∧
         u = { s with mixer := u.mixer, routes := u.routes } ∧
         u.mixer = s.mixer.setZone z { s.mixer.zone z with cap := cap, volume := min old cap } ∧
         u.routes = (if old ≤ cap then s.routes
           else s.routes.map (fun r => if r.zone = z then u.retarget .normal r else r))) ∧
     (p.length ≠ 2 ∨ (u8At p 0 ≠ 3 ∧ u8At p 0 ≠ 4) → exec (.hpCap c p) s = .next (s.declined .hpCap c p .badArgument)) ∧
     (p.length = 2 → zoneOf (u8At p 0) = some z → z.domain ≠ .cabinGroup → c ≠ 0 →
       exec (.hpCap c p) s = .next (s.declined .hpCap c p .notPermitted)))

/-- EVENT_FETCH reports the pending sources, the mask, the station flag, the conditions and the lines, and clears all but
the sources whose condition is true; EVENT_ROUTING puts the named sources' line and enable, and nothing else (R180, R181).
A line is high while a pending, enabled source is routed to it, and low in reset (R179). Where the request itself arms the
watchdog, WATCHDOG_ARMED is raised after the reply: it stays pending and the lines byte leaves it out (log entries 13, 38). -/
def Obligations.EventRequests : Prop :=
  (∀ (s : State) (c : Byte) (p : List Byte),
    (s.Accepts .eventFetch c p →
      (p = [] → ∃ u, exec (.eventFetch c p) s =
          .next (s.served u .eventFetch c p
            (u24 s.events.flags.toNat ++ u24 s.events.mask.toNat ++ (if s.events.station then [1#8] else [0#8]) ++
              u24 s.conditions.toNat ++ u8 u.linesByte)) ∧
        u = { s with
          events.flags := s.events.flags &&& s.conditions
          events.mask := 0
          events.station := false } ∧
        (s.conditions.getLsbD 13 = true ↔ 0 < s.thermal.derate) ∧
        (s.conditions.getLsbD 14 = true ↔ s.sup.state = .limp) ∧
        (s.conditions.getLsbD 16 = true ↔ s.store.defect ≠ 0) ∧
        ∀ k, k ≠ 13 → k ≠ 14 → k ≠ 16 → s.conditions.getLsbD k = false) ∧
      (p ≠ [] → exec (.eventFetch c p) s = .next (s.declined .eventFetch c p .badArgument))) ∧
    (s.Accepts .eventRouting c p →
      let good := p.length = 3 ∧ u8At p 1 ≤ 1 ∧ u8At p 2 ≤ 1 ∧ (u8At p 0 < 18 ∨ u8At p 0 = 255)
      (good → c = 0 → ∃ u, exec (.eventRouting c p) s =
          .next (s.served u .eventRouting c p
            (u24 u.events.lineB.toNat ++ u24 u.events.enable.toNat ++ u8 u.linesByte)) ∧
        u = { s with events.lineB := u.events.lineB, events.enable := u.events.enable } ∧
        ∀ k : Fin 18,
          let named := u8At p 0 = 255 ∨ u8At p 0 = k
          u.events.lineB.getLsbD k = (if named then (u8At p 1 = 1 : Bool) else s.events.lineB.getLsbD k) ∧
          u.events.enable.getLsbD k = (if named then (u8At p 2 = 1 : Bool) else s.events.enable.getLsbD k)) ∧
      (¬good → exec (.eventRouting c p) s = .next (s.declined .eventRouting c p .badArgument)) ∧
      (good → c ≠ 0 → exec (.eventRouting c p) s = .next (s.declined .eventRouting c p .notPermitted)))) ∧
  (∀ s : State,
    let drives := fun (b : Bool) => ∃ k : Fin 18,
      s.events.flags.getLsbD k = true ∧ s.events.enable.getLsbD k = true ∧ s.events.lineB.getLsbD k = b
    (s.Works → (s.atnA = true ↔ drives false) ∧ (s.atnB = true ↔ drives true)) ∧
    (¬s.Works → s.atnA = false ∧ s.atnB = false) ∧
    s.linesByte = (if s.atnA then 1 else 0) + (if s.atnB then 2 else 0))

/-- STORE_WRITE of client 0 starts an 8 ms write of a row and counts it, or answers STORE_BUSY or STORE_WORN; at its end the row
holds its new data with a matching check byte, every other row stays, and STORE_DONE is raised; PART_RESET of client 0
leaves a part reset pending for 50 ms (R175, R185, R186). An end without a write changes nothing (log entry 6). -/
def Obligations.RowWritesAndPartReset : Prop :=
  (∀ (s : State) (c : Byte) (p : List Byte),
     (s.Accepts .storeWrite c p →
       let good := p.length = 16 ∧ u8At p 0 ≤ 30
       (good → c = 0 → s.store.writer = none → s.store.writeCount < 4000 →
         ∃ d : Vector Byte 15, d.toList = p.drop 1 ∧
           exec (.storeWrite c p) s =
             .next (s.served
               { s with
                 store.writeCount := s.store.writeCount + 1
                 store.writer := some { row := u8At p 0, data := d, left := 8 } }
               .storeWrite c p (u8 (u8At p 0) ++ u16 (s.store.writeCount + 1)))) ∧
       (good → c = 0 → s.store.writer ≠ none → exec (.storeWrite c p) s = .next (s.declined .storeWrite c p .storeBusy)) ∧
       (good → c = 0 → s.store.writer = none → 4000 ≤ s.store.writeCount →
         exec (.storeWrite c p) s = .next (s.declined .storeWrite c p .storeWorn)) ∧
       (good → c ≠ 0 → exec (.storeWrite c p) s = .next (s.declined .storeWrite c p .notPermitted)) ∧
       (¬good → exec (.storeWrite c p) s = .next (s.declined .storeWrite c p .badArgument))) ∧
     (s.Accepts .partReset c p →
       (p = [] → c = 0 →
         exec (.partReset c p) s = .next (s.served { s with port.resetPending := some 50 } .partReset c p [])) ∧
       (p ≠ [] → exec (.partReset c p) s = .next (s.declined .partReset c p .badArgument)) ∧
       (p = [] → c ≠ 0 → exec (.partReset c p) s = .next (s.declined .partReset c p .notPermitted)))) ∧
  (∀ s : State, s.Works →
     (s.store.writer = none → exec .storeWriteEnd s = .next s) ∧
     (∀ w, s.store.writer = some w → w.row ≤ 30 →
       ∃ t, exec .storeWriteEnd s = .next t ∧
         t = { s with
           store.rows := t.store.rows
           store.writer := none
           events.flags := s.events.flags ||| 1#18 <<< 15 } ∧
         (t.store.row w.row).data = w.data ∧ (t.store.row w.row).check = crc8 w.data.toList ∧
         (t.store.row w.row).good = true ∧
         ∀ k, k ≠ w.row → t.store.row k = s.store.row k))

/-- WATCHDOG of client 0 puts a period in force, and in RUN the watchdog has the whole of it left, or is UNARMED for OFF;
KEEPALIVE only counts as a valid request; both report the watchdog as the request leaves it (R162, R165). -/
def Obligations.WatchdogRequests : Prop :=
  ∀ (s : State) (c : Byte) (p : List Byte),
    (s.Accepts .watchdog c p →
      (∀ k, p.length = 1 → periodOf (u8At p 0) = some k → c = 0 → ∃ u : State,
        exec (.watchdog c p) s =
          .next (u.answered (requestFrame 0x82#8 c p)
            (response 0x82#8 .ok (p ++ (if u.sup.left = none then [0#8] else [1#8]) ++ u16 (u.sup.left.getD 0)))) ∧
        u = { s with sup.period := k, sup.left := u.sup.left, events.flags := u.events.flags } ∧
        (k = .off → u.sup.left = none ∧ u.events.flags = s.events.flags) ∧
        (s.sup.state = .run → u.sup.left = k.ms) ∧
        (s.sup.state ≠ .run → k ≠ .off → u.sup.left = s.sup.left) ∧
        u.events.flags =
          (if s.sup.state = .run ∧ k ≠ .off ∧ s.sup.left = none then s.events.flags ||| 1#18 <<< 17
          else s.events.flags)) ∧
      (p.length ≠ 1 ∨ 5 ≤ u8At p 0 → exec (.watchdog c p) s = .next (s.declined .watchdog c p .badArgument)) ∧
      (p.length = 1 → u8At p 0 ≤ 4 → c ≠ 0 →
        exec (.watchdog c p) s = .next (s.declined .watchdog c p .notPermitted))) ∧
    (s.Accepts .keepalive c p →
      (p = [] →
        exec (.keepalive c p) s =
          .next (s.validRequest.answered (requestFrame 0x83#8 c [])
            (response 0x83#8 .ok
              (u8 s.sup.state.code ++ (if s.validRequest.sup.left = none then [0#8] else [1#8]) ++
                u16 (s.validRequest.sup.left.getD 0))))) ∧
      (p ≠ [] → exec (.keepalive c p) s = .next (s.declined .keepalive c p .badArgument)))

/-- An ARMED watchdog that runs out is UNARMED and the part is in LIMP: LIMP is raised, the three cabin-group steps above
the limp volume are lowered to it, an HP zone that follows moves by as much as CABIN, within 0 and its cap, and the PROMPT,
ANNOUNCEMENT and MEDIA routes fall silent (R61, R115, R162, R163). An expiry without an ARMED watchdog changes nothing (log
entry 6). -/
def Obligations.WatchdogExpiryEntersLimp : Prop :=
  ∀ s : State, s.Works →
    (s.sup.left = none → exec .watchdogExpiry s = .next s) ∧
    (s.sup.left ≠ none → ∃ t, exec .watchdogExpiry s = .next t ∧
      State.TunerWork { s with mixer := t.mixer, sup := { s.sup with state := .limp, left := none } } t ∧
      t.LimpSilent ∧ t.events.flags.getLsbD 14 = true ∧
      (∀ z : Zone, z.domain = .cabinGroup →
        t.mixer.zone z = { s.mixer.zone z with volume := min (s.mixer.zone z).volume s.sup.limpVolume }) ∧
      (∀ z : Zone, z.domain ≠ .cabinGroup → (s.mixer.zone z).follow = true →
        let change : Int := if s.sup.limpVolume < s.mixer.cabin.volume then
          (s.sup.limpVolume : Int) - (s.mixer.cabin.volume : Int) else 0
        (t.mixer.zone z).volume =
          if change = 0 then (s.mixer.zone z).volume
          else (fit 0 (s.mixer.zone z).cap (((s.mixer.zone z).volume : Int) + change)).toNat) ∧
      t.mixer =
        { s.mixer with
          cabin := t.mixer.cabin, front := t.mixer.front, driver := t.mixer.driver
          hp1.volume := t.mixer.hp1.volume, hp2.volume := t.mixer.hp2.volume } ∧
      (s.mixer.hp1.follow = false → t.mixer.hp1 = s.mixer.hp1) ∧
      (s.mixer.hp2.follow = false → t.mixer.hp2 = s.mixer.hp2))

/-! ## Routes -/

/-- ROUTE_OPEN that its checks pass opens one route in the lowest free slot with the fields it names and the client as
owner, ranked after every route of its domain (R4), and reports its handle, first state, cause, level, ramp class and
duration: SUSPENDED where it is outranked, else RISING where it is available, else PENDING (R7, log entry 22); every other
route stays the route it is; each check that fails is answered by its result (R17 to R19). A claim by frequency shares the
program there is, or takes T1 or T2 that is FREE or PARTNER, or else a watch-only tuner, dropping the watch, or is refused;
one by code shares the program with the code, or claims the best record's frequency, or waits (R65, R66, R70). The payload
has the layout of R18 and the pairs of class and kind of R3. -/
def Obligations.RouteOpenCreatesARoute : Prop :=
  (∀ (s : State) (c : Byte) (p : List Byte), s.Accepts .routeOpen c p →
     (openFields s.tuners.plan p = none → exec (.routeOpen c p) s = .next (s.declined .routeOpen c p .badArgument)) ∧
     ∀ o, openFields s.tuners.plan p = some o →
       (∀ e, s.legCheck c o.source = some e → exec (.routeOpen c p) s = .next (s.declined .routeOpen c p e)) ∧
       (s.legCheck c o.source = none →
         (s.freeSlot = none → exec (.routeOpen c p) s = .next (s.declined .routeOpen c p .tableFull)) ∧
         ∀ k, s.freeSlot = some k →
           let h : Handle := { slot := k, reuse := tabGet s.reuse (k - 1) 0 }
           (s.serve o.source h = none → exec (.routeOpen c p) s = .next (s.declined .routeOpen c p .tunerBusy)) ∧
           ∀ v x cond, s.serve o.source h = some (v, x, cond) →
             let ramp := (rampOf o.ramp).getD (s.defaultRamp.get o.cls)
             let duration :=
               if o.cls = .alert then some (if o.duration = 0 then s.alertMax else o.duration) else none
             let rank := (s.routes.filter (fun r => r.zone.domain = o.zone.domain)).length + 1
             let r := v.newRoute k c.toNat o.zone o.cls o.source o.level ramp duration x cond none
             let first : RouteState :=
               if v.outranked (insertRoute r v.routes) r then .suspended
               else if v.available r then .rising
               else .pending
             ∃ (u : State) (n : Route),
               exec (.routeOpen c p) s = .next (s.served u .routeOpen c p
                 (u8 k ++ [h.reuse] ++ u8 first.code ++
                   u8 (causeCode (if first = .pending then some (v.causeOf r) else none)) ++ i16 o.level ++
                   u8 ramp.code ++ match duration with
                     | some d => u8 d
                     | none => [])) ∧
               s.TableWork u ∧ u.reuse = s.reuse ∧
               (1 ≤ k ∧ k ≤ 24) ∧ (∀ j, 1 ≤ j → j < k → ∃ r ∈ s.routes, r.slot = j) ∧
               r.rank = rank ∧
               n ∈ u.routes ∧ n.handle = h ∧ n.owner = c.toNat ∧ n.zone = o.zone ∧ n.cls = o.cls ∧ n.source = o.source ∧
               n.level = o.level ∧ n.ramp = ramp ∧ n.maxDuration = duration ∧ n.rank = rank ∧ n.tuner = x ∧
               n.line = none ∧ n.cut = false ∧
               (first = .rising → s.listener o.zone = true) ∧
               (u.routes.filter (fun r => r.slot ≠ k)).map Route.identity = s.routes.map Route.identity)) ∧
  (∀ (s : State) (h : Handle),
    let shares := fun (x : TunerId) =>
      let t := s.tuner x
      some (s.setTuner x { t with users := t.users + 1 }, some x,
        if t.retune.isSome then Condition.retune else if t.activity = .retune then .sourceAbsent else .available)
    let free := fun (x : TunerId) => (s.tuner x).role ≠ .program
    let lone := fun (x : TunerId) => (s.tuner x).role = .program ∧ (s.tuner x).users = 0 ∧ (s.tuner x).watch = true
    let first := fun (p : TunerId → Prop) (x : TunerId) => p x ∧ (x = .t2 → ¬p .t1)
    (∀ f,
      (∀ x, first (fun y => (s.tuner y).holds f = true) x → s.serve (.tunerFrequency f) h = shares x) ∧
      ((∀ x, (s.tuner x).holds f = false) →
        (∀ x, first free x ∨ (¬free .t1 ∧ ¬free .t2 ∧ first lone x) →
          ∃ u n, s.serve (.tunerFrequency f) h = some (u, some x, .sourceAbsent) ∧ n = u.tuner x ∧ s.TunerWork u ∧
            n = { Tuner.free with
              role := .program, frequency := some f, users := 1, activity := .retune, code := n.code } ∧
            (∀ r, s.stations.find f = some r → n.code = r.code) ∧ (s.stations.find f = none → n.code = none) ∧
            f ∈ u.stations.inUse ∧ u.routes = s.routes ∧ u.tuners.link = .none ∧ u.tuners.watch = s.tuners.watch ∧
            ((s.tuner x).activity = .scanStep → u.stations.reserved x = none ∧
              ∀ g, s.stations.reserved x = some g → g ∈ u.stations.returned) ∧
            (∀ q, (s.tuner (otherTuner x)).search = some q → q.partner = true →
              (u.tuner (otherTuner x)).search = none ∧ (u.tuner (otherTuner x)).af = .idle ∧
              (u.tuner (otherTuner x)).streak = (s.tuner (otherTuner x)).streak) ∧
            (free x → u.stations.watch = s.stations.watch) ∧
            (lone x → u.stations.watch = none ∧ u.events.flags.getLsbD 8 = true)) ∧
        (¬free .t1 → ¬free .t2 → ¬lone .t1 → ¬lone .t2 → s.serve (.tunerFrequency f) h = none))) ∧
    (∀ c,
      let coded := fun (x : TunerId) => (s.tuner x).role = .program ∧ (s.tuner x).code = some c
      (∀ x, first coded x → s.serve (.tunerCode c) h = shares x) ∧
      (¬coded .t1 → ¬coded .t2 →
        (∀ r, s.stations.best c = some r → s.serve (.tunerCode c) h = s.serve (.tunerFrequency r.frequency) h) ∧
        (s.stations.best c = none → s.serve (.tunerCode c) h =
          some ({ s with tuners.waiting := s.tuners.waiting ++ [⟨h, c⟩] }, none, .searching)))) ∧
    ∀ src : Source, (∀ f, src ≠ .tunerFrequency f) → (∀ c, src ≠ .tunerCode c) →
      s.serve src h = some (s, none, .available)) ∧
  (∀ (plan : BandPlan) (p : List Byte) (o : OpenFields), openFields plan p = some o ↔
    p.length = 9 ∧
    u8At p 0 = (match o.zone with | .cabin => 0 | .front => 1 | .driver => 2 | .hp1 => 3 | .hp2 => 4) ∧
    u8At p 1 = (match o.cls with | .alert => 0 | .call => 1 | .prompt => 2 | .announcement => 3 | .media => 4) ∧
    (match o.source with
      | .stream n => u8At p 2 = 0 ∧ u16At p 3 = n ∧ n ≤ 3 ∧ o.cls ≠ .call
      | .tone n => u8At p 2 = 1 ∧ u16At p 3 = n ∧ n ≤ 15 ∧ (o.cls = .alert ∨ o.cls = .prompt)
      | .tunerFrequency f => u8At p 2 = 2 ∧ u16At p 3 = f ∧ onRaster plan f = true ∧
        (o.cls = .announcement ∨ o.cls = .media)
      | .tunerCode c => u8At p 2 = 3 ∧ u16At p 3 = c ∧ c ≠ 0 ∧ (o.cls = .announcement ∨ o.cls = .media)
      | .leg id reuse => u8At p 2 = 4 ∧ u8At p 3 = id ∧ (1 ≤ id ∧ id ≤ 3) ∧ p.getD 4 0 = reuse ∧ o.cls = .call) ∧
    o.level = fit (-240) 0 (i16At p 5) ∧ o.ramp = u8At p 7 ∧ o.ramp ≤ 3 ∧ o.duration = min 120 (u8At p 8) ∧
    (o.cls ≠ .alert → u8At p 8 = 0))

/-- ROUTE_LEVEL of a route the client may change that is not CLOSING sets its level target and ramp class and re-aims it
while it sounds without the fade mark, from the applied gain it has, or from -384 q at MUTE; no other route and nothing else
changes (R8, R17, R20, R51, R52). -/
def Obligations.RouteLevelReAimsARoute : Prop :=
  ∀ (s : State) (c : Byte) (p : List Byte), s.Accepts .routeLevel c p → s.SlotsOrdered →
    let good := p.length = 5 ∧ u8At p 4 ≤ 3 ∧ (1 ≤ u8At p 0 ∧ u8At p 0 ≤ 24)
    (¬good → exec (.routeLevel c p) s = .next (s.declined .routeLevel c p .badArgument)) ∧
    (good → s.routeOf (handleAt p 0) = none →
      exec (.routeLevel c p) s = .next (s.declined .routeLevel c p .notFound)) ∧
    ∀ r, good → s.routeOf (handleAt p 0) = some r →
      (c ≠ 0 → c.toNat ≠ r.owner → exec (.routeLevel c p) s = .next (s.declined .routeLevel c p .notPermitted)) ∧
      (c = 0 ∨ c.toNat = r.owner → r.state = .closing →
        exec (.routeLevel c p) s = .next (s.declined .routeLevel c p .closing)) ∧
      (c = 0 ∨ c.toNat = r.owner → r.state ≠ .closing →
        let level := fit (-240) 0 (i16At p 2)
        let ramp := (rampOf (u8At p 4)).getD r.ramp
        ∃ u n, exec (.routeLevel c p) s = .next (s.served u .routeLevel c p (i16 level ++ u8 ramp.code)) ∧
          u = { s with routes := u.routes } ∧
          u.routes = s.routes.map (fun x => if x.slot = r.slot then n else x) ∧
          ((r.state = .rising ∨ r.state = .playing) → r.fadeMark = false →
            let goal := s.computedTarget { r with level := level, ramp := ramp }
            let start := if r.applied = .mute ∧ goal ≠ .mute then .q (-384) else r.applied
            n = { r with
              level := level, ramp := ramp, target := some goal, step := ramp, applied := start
              running := decide (start ≠ goal), state := if start = goal then .playing else r.state }) ∧
          ((r.state ≠ .rising ∧ r.state ≠ .playing) ∨ r.fadeMark = true → n = { r with level := level, ramp := ramp }))

/-- ROUTE_RETIRE removes a PENDING or SUSPENDED route at once, its slot free and its reuse count one higher, and sends a sounding
route into CLOSING unless it is at MUTE; RETIRE_OWNER does so with every route of one owner; all other routes stay the
routes they are (R14, R17, R21, R22). -/
def Obligations.RoutesAreRetired : Prop :=
  (∀ (s : State) (c : Byte) (p : List Byte), s.Accepts .routeRetire c p → s.SlotsOrdered →
     let good := p.length = 2 ∧ 1 ≤ u8At p 0 ∧ u8At p 0 ≤ 24
     (¬good → exec (.routeRetire c p) s = .next (s.declined .routeRetire c p .badArgument)) ∧
     (good → s.routeOf (handleAt p 0) = none →
       exec (.routeRetire c p) s = .next (s.declined .routeRetire c p .notFound)) ∧
     ∀ r, good → s.routeOf (handleAt p 0) = some r →
       (c ≠ 0 → c.toNat ≠ r.owner → exec (.routeRetire c p) s = .next (s.declined .routeRetire c p .notPermitted)) ∧
       (c = 0 ∨ c.toNat = r.owner →
         let others := fun (rs : List Route) => (rs.filter (fun x => x.slot ≠ r.slot)).map Route.identity
         ∃ u, exec (.routeRetire c p) s =
             .next (s.served u .routeRetire c p (if r.state = .pending ∨ r.state = .suspended then [0#8] else [1#8])) ∧
           s.TableWork u ∧ others u.routes = others s.routes ∧
           (r.state = .pending ∨ r.state = .suspended ∨ (r.state ≠ .closing ∧ r.applied = .mute) →
             u.routeIn r.slot = none ∧ tabGet u.reuse (r.slot - 1) 0 = tabGet s.reuse (r.slot - 1) 0 + 1) ∧
           (r.state = .closing ∨
               (r.state ≠ .pending ∧ r.state ≠ .suspended ∧ r.applied ≠ .mute) →
             u.reuse = s.reuse ∧ ∃ n, u.routeIn r.slot = some n ∧ n.identity = r.identity ∧ n.state = .closing))) ∧
  (∀ (s : State) (c : Byte) (p : List Byte), s.Accepts .retireOwner c p → s.SlotsOrdered →
     let good := p.length = 1 ∧ u8At p 0 ≤ 7
     (¬good → exec (.retireOwner c p) s = .next (s.declined .retireOwner c p .badArgument)) ∧
     (good → c ≠ 0 → c.toNat ≠ u8At p 0 →
       exec (.retireOwner c p) s = .next (s.declined .retireOwner c p .notPermitted)) ∧
     (good → c = 0 ∨ c.toNat = u8At p 0 →
       let own := s.routes.filter (fun r => r.owner = u8At p 0 && r.state ≠ .closing)
       let gone := own.filter (fun r => r.state = .pending || r.state = .suspended)
       let others := fun (rs : List Route) => (rs.filter (fun r => r.owner ≠ u8At p 0)).map Route.identity
       ∃ u, exec (.retireOwner c p) s =
           .next (s.served u .retireOwner c p (u8 gone.length ++ u8 (own.length - gone.length))) ∧
         s.TableWork u ∧ others u.routes = others s.routes ∧
         (∀ n ∈ u.routes, n.owner = u8At p 0 → n.state = .closing) ∧
         ∀ r ∈ s.routes, r.owner = u8At p 0 →
           (r.state = .pending ∨ r.state = .suspended ∨ (r.state ≠ .closing ∧ r.applied = .mute) →
             u.routeIn r.slot = none ∧ tabGet u.reuse (r.slot - 1) 0 = tabGet s.reuse (r.slot - 1) 0 + 1) ∧
           (r.state = .closing ∨ (r.state ≠ .pending ∧ r.state ≠ .suspended ∧ r.applied ≠ .mute) →
             tabGet u.reuse (r.slot - 1) 0 = tabGet s.reuse (r.slot - 1) 0 ∧
             ∃ n, u.routeIn r.slot = some n ∧ n.identity = r.identity ∧ n.state = .closing)))

/-- Reaching its maximum duration, an ALERT route that is not CLOSING is cut: it is removed or left CLOSING and cut, ALERT_CUT is
raised, and the ASSERTED line whose route it was is LATCHED_OUT (R159). A finite pattern played out ends its playback and
auto-retires its TONE route (R30, R154). A cut of any other route, and a pattern end of a route that plays no finite
pattern, change nothing (log entry 6). -/
def Obligations.AlertsAndTonesEnd : Prop :=
  (∀ (s : State) (r : Route), s.Works → s.SlotsOrdered → r ∈ s.routes →
     (r.cls ≠ .alert ∨ r.state = .closing → exec (.alertCut r.slot) s = .next s) ∧
     (r.cls = .alert → r.state ≠ .closing →
       ∃ t, exec (.alertCut r.slot) s = .next t ∧ State.TableWork { s with lines := t.lines } t ∧
         t.events.flags.getLsbD 3 = true ∧
         (t.routes.filter (fun x => x.slot ≠ r.slot)).map Route.identity =
           (s.routes.filter (fun x => x.slot ≠ r.slot)).map Route.identity ∧
         (∀ n ∈ t.routes, n.slot = r.slot → n.identity = r.identity ∧ n.state = .closing ∧ n.cut = true) ∧
         (r.applied ≠ .mute → r.state ≠ .pending → r.state ≠ .suspended → t.routeIn r.slot ≠ none) ∧
         ∀ i, t.lines.get i =
           (if r.owner = 7 ∧ (s.lines.get i).state = .asserted ∧ r.handle ∈ (s.lines.get i).routes then
             { s.lines.get i with state := .latchedOut }
           else s.lines.get i))) ∧
  (∀ (s : State) (r : Route), s.Works → s.SlotsOrdered → r ∈ s.routes →
     ((∀ n, r.source ≠ .tone n) → exec (.tonePatternEnd r.slot) s = .next s) ∧
     (∀ n, r.source = .tone n →
       ((tabGet s.tones n builtInPattern).repeats = 0 → exec (.tonePatternEnd r.slot) s = .next s) ∧
       ((tabGet s.tones n builtInPattern).repeats ≠ 0 →
         ∃ t, exec (.tonePatternEnd r.slot) s = .next t ∧ s.TableWork t ∧
           (t.routes.filter (fun x => x.slot ≠ r.slot)).map Route.identity =
             (s.routes.filter (fun x => x.slot ≠ r.slot)).map Route.identity ∧
           (∀ x ∈ t.routes, x.slot = r.slot → x.identity = r.identity ∧ x.state = .closing ∧ x.play = none) ∧
           (r.applied ≠ .mute → r.state ≠ .pending → r.state ≠ .suspended → t.routeIn r.slot ≠ none))))

/-- The queries on routes, zones, tuners, stations and the phone port report the records they name, field by field as their
rules list, and change nothing but the answer; the last four are taken from every client in every supervision state (R23,
R24, R60, R87, R103, R104, R135). TUNER_GET and ZONE_GET of another length give BAD_ARGUMENT (log entry 23). -/
def Obligations.RecordQueries : Prop :=
  (∀ (s : State) (c : Byte) (p : List Byte),
     (s.Accepts .routeGet c p →
       (∀ r, p.length = 2 → 1 ≤ u8At p 0 → u8At p 0 ≤ 24 → s.routeOf (handleAt p 0) = some r →
         exec (.routeGet c p) s = .next (s.served s .routeGet c p
           (u8 r.slot ++ [r.reuse] ++ u8 r.owner ++ u8 r.zone.code ++ u8 r.cls.code ++ u8 r.source.kindCode ++
             u16 (s.sourceValue r) ++ i16 r.level ++ u8 r.ramp.code ++ u8 (r.maxDuration.getD 0) ++ u8 r.state.code ++
             u8 (causeCode r.cause) ++ i16 r.applied.report ++ u16 r.duck ++ u8 r.rank ++ u8 (tunerCode r.tuner) ++
             if r.cut then [1#8] else [0#8]))) ∧
       (p.length = 2 → 1 ≤ u8At p 0 → u8At p 0 ≤ 24 → s.routeOf (handleAt p 0) = none →
         exec (.routeGet c p) s = .next (s.declined .routeGet c p .notFound)) ∧
       (p.length ≠ 2 ∨ u8At p 0 = 0 ∨ 25 ≤ u8At p 0 →
         exec (.routeGet c p) s = .next (s.declined .routeGet c p .badArgument))) ∧
     (s.Accepts .routeList c p →
       let listed := fun (rs : List Route) => u8 rs.length ++ rs.flatMap (fun r => u8 r.slot ++ [r.reuse])
       (p = [] → exec (.routeList c p) s = .next (s.served s .routeList c p (listed s.routes))) ∧
       (p.length = 1 → u8At p 0 ≤ 7 →
         exec (.routeList c p) s =
           .next (s.served s .routeList c p (listed (s.routes.filter (fun r => r.owner = u8At p 0))))) ∧
       (2 ≤ p.length ∨ 8 ≤ u8At p 0 → exec (.routeList c p) s = .next (s.declined .routeList c p .badArgument))) ∧
     (s.Accepts .zoneGet c p →
       (∀ z, p.length = 1 → zoneOf (u8At p 0) = some z →
         let r := s.mixer.zone z
         exec (.zoneGet c p) s = .next (s.served s .zoneGet c p
           (p ++ u8 r.volume ++
             i16 (if r.volume = 0 then -32768 else -(2 * ((tabGet s.mixer.curve r.volume 0 : Nat) : Int))) ++
             i8 r.balance ++ i8 r.fade ++ u8 r.cap ++ flag r.follow ++ flag (s.jackReport z) ++
             i16 (if z.domain = .cabinGroup then s.thermal.derate else 0) ++ i16 s.thermal.reading))) ∧
       (p.length ≠ 1 ∨ 5 ≤ u8At p 0 → exec (.zoneGet c p) s = .next (s.declined .zoneGet c p .badArgument)))) ∧
  (∀ (s : State) (c : Byte) (p : List Byte),
     (s.takesRequests = true → p.length ≤ 60 → c.toNat ≤ 5 →
       s.Accepts .tunerGet c p ∧ s.Accepts .stationList c p ∧ s.Accepts .stationGet c p ∧ s.Accepts .phoneGet c p) ∧
     (s.Accepts .tunerGet c p →
       (∀ x, p = [BitVec.ofNat 8 (tunerCode (some x))] →
         let t := s.tuner x
         exec (.tunerGet c p) s = .next (s.served s .tunerGet c p
           (p ++ u8 t.role.code ++ u16 (t.frequency.getD 0) ++ u16 (t.code.getD 0) ++ u8 t.users ++ flag t.watch ++
             u8 t.activity.code ++ u8 (tunerCode t.partnerOf) ++ u8 t.af.code ++ u8 t.streak ++
             (match t.measurement with
               | none => [0#8, 0#8, 0#8, 0#8, 0#8]
               | some m => u8 m.field ++ u8 m.multipath ++ u8 m.quality ++ u8 m.area.code ++
                 (if m.tag = .paired then [1#8] else [0#8])) ++
             u8 (bandCode s.tuners.plan) ++ u8 s.tuners.link.code ++ flag s.tuners.policy.diversity ++
             flag s.tuners.policy.cancel ++ u8 s.tuners.policy.scan.code ++ u8 s.tuners.policy.interval ++
             u8 s.tuners.policy.hysteresis ++ u8 s.stations.bLow ++ u8 s.stations.bHigh ++ u8 s.tuners.report.code ++
             u16 (s.tuners.watch.getD 0) ++
             (if s.tuners.watch = none then [0#8]
               else if s.tuners.t1.watch = true ∨ s.tuners.t2.watch = true then [1#8] else [2#8])))) ∧
       (p ≠ [1#8] → p ≠ [2#8] → exec (.tunerGet c p) s = .next (s.declined .tunerGet c p .badArgument))) ∧
     (s.Accepts .stationList c p →
       (p.length = 4 →
         let matching := s.stations.records.filter (fun r => u16At p 2 = 0 || r.code = some (u16At p 2))
         let listed := (matching.filter (fun r => u16At p 0 ≤ r.frequency)).take 16
         exec (.stationList c p) s = .next (s.served s .stationList c p
           ([s.stations.round] ++ u8 matching.length ++ u8 listed.length ++
             listed.flatMap (fun r => u16 r.frequency ++ u8 r.areaByte)))) ∧
       (p.length ≠ 4 → exec (.stationList c p) s = .next (s.declined .stationList c p .badArgument))) ∧
     (s.Accepts .stationGet c p →
       (∀ r, p.length = 2 → s.stations.find (u16At p 0) = some r →
         exec (.stationGet c p) s = .next (s.served s .stationGet c p
           (p ++ u16 (r.code.getD 0) ++ r.name.map (fun x => x.getD 0) ++ u8 (r.name.countP (fun x => x.isSome)) ++
             flag r.capable ++ flag r.active ++ u8 r.afList.length ++ r.afList.flatMap u16 ++
             (match r.last with
               | none => [0#8, 0#8, 0#8]
               | some (q, a, t) => u8 q ++ u8 a.code ++ u8 t.code) ++
             u8 r.age ++ flag r.refreshed ++ flag r.pinned ++ flag (s.stations.inUse.contains r.frequency)))) ∧
       (p.length = 2 → s.stations.find (u16At p 0) = none →
         exec (.stationGet c p) s = .next (s.declined .stationGet c p .notFound)) ∧
       (p.length ≠ 2 → exec (.stationGet c p) s = .next (s.declined .stationGet c p .badArgument))) ∧
     (s.Accepts .phoneGet c p →
       (p = [] →
         let q := s.phone
         exec (.phoneGet c p) s = .next (s.served s .phoneGet c p
           (u8 q.link.code ++ u8 (modeCode q.mode) ++ flag q.negotiated ++ u8 (modeCode q.selected) ++ u8 q.stored.sum ++
             u8 q.inUse.sum ++ flag q.clock ++ u8 q.rate.code ++ u8 q.runCount ++
             (match q.partner with
               | none => [0#8, 0#8, 0#8, 0#8]
               | some w => u8 w.kind.code ++ u8 w.caps.sum ++ u8 (modeCode w.selected) ++ flag w.fault) ++
             flag q.ownFault ++ flag q.detectionFault ++ flag q.partnerFault ++ u16 (q.holdOff.getD 0)))) ∧
       (p ≠ [] → exec (.phoneGet c p) s = .next (s.declined .phoneGet c p .badArgument))))

/-! ## Tuners -/

/-- TUNER_POLICY of client 0 puts the five values in force and acts at once: without diversity or under FULL no pairing is left or
requested (R74, R76, R85). TRAFFIC_WATCH of client 0 replaces the watch frequency by a raster frequency, or by none for 0,
and reports the watch as it then is: WAITING in QUIET, else ATTACHED to the tuner whose program has the frequency, else to
T1 or T2 that is FREE or PARTNER or that the watch it replaces alone held, else WAITING (R69). -/
def Obligations.TunerPolicyAndTrafficWatch : Prop :=
  (∀ (s : State) (c : Byte) (p : List Byte), s.Accepts .tunerPolicy c p →
     let good := p.length = 5 ∧ u8At p 0 ≤ 1 ∧ u8At p 1 ≤ 1 ∧ u8At p 2 ≤ 2 ∧ (1 ≤ u8At p 3 ∧ u8At p 3 ≤ 60) ∧ u8At p 4 ≤ 30
     (¬good → exec (.tunerPolicy c p) s = .next (s.declined .tunerPolicy c p .badArgument)) ∧
     (good → c ≠ 0 → exec (.tunerPolicy c p) s = .next (s.declined .tunerPolicy c p .notPermitted)) ∧
     (good → c = 0 → ∃ (u : State) (k : ScanPolicy),
       exec (.tunerPolicy c p) s = .next (s.served u .tunerPolicy c p p) ∧ k.code = u8At p 2 ∧
       u.tuners.policy =
         { diversity := u8At p 0 = 1, cancel := u8At p 1 = 1, scan := k, interval := u8At p 3, hysteresis := u8At p 4 } ∧
       State.TunerWork { s with tuners.policy := u.tuners.policy } u ∧
       (u8At p 0 = 0 ∨ k = .full → u.tuners.link ≠ .paired ∧ u.tuners.link ≠ .requested))) ∧
  (∀ (s : State) (c : Byte) (p : List Byte), s.Accepts .trafficWatch c p → s.SlotsOrdered →
     let w := if u16At p 0 = 0 then none else some (u16At p 0)
     let good := p.length = 2 ∧ (u16At p 0 = 0 ∨ onRaster s.tuners.plan (u16At p 0) = true)
     (¬good → exec (.trafficWatch c p) s = .next (s.declined .trafficWatch c p .badArgument)) ∧
     (good → c ≠ 0 → exec (.trafficWatch c p) s = .next (s.declined .trafficWatch c p .notPermitted)) ∧
     (good → c = 0 → ∃ u : State,
       exec (.trafficWatch c p) s = .next (s.served u .trafficWatch c p
         (u16 (u.tuners.watch.getD 0) ++ u8 u.watchState ++ u8 (tunerCode u.watchTuner))) ∧
       s.TableWork u ∧ (w = s.tuners.watch → u = s) ∧ (s.NoRetune → u.tuners.watch = w) ∧
       u.watchState = (if u.tuners.watch = none then 0
         else if u.tuners.t1.watch = true ∨ u.tuners.t2.watch = true then 1 else 2) ∧
       u.watchTuner =
         (if u.tuners.t1.watch = true then some .t1 else if u.tuners.t2.watch = true then some .t2 else none) ∧
       (∀ f, w = some f → w ≠ s.tuners.watch → s.NoRetune → s.stations.announcing = false →
         ¬(s.tuners.t1.watch = true ∧ s.tuners.t2.watch = true) →
         let stays := fun (x : TunerId) =>
           (s.tuner x).role = .program ∧ ((s.tuner x).users ≠ 0 ∨ (s.tuner x).watch = false)
         let on := fun (x : TunerId) => stays x ∧ (s.tuner x).frequency = some f
         let waits := u.tuners.watch = some f ∧ u.tuners.t1.watch = false ∧ u.tuners.t2.watch = false ∧
           u.stations.watch = (if s.tuners.t1.watch = true ∨ s.tuners.t2.watch = true then none else s.stations.watch)
         (s.sup.state = .quiet → waits) ∧
         (s.sup.state ≠ .quiet →
           (∀ x, on x → (x = .t2 → ¬on .t1) → u.stations.watch = some (f, x) ∧ (u.tuner (otherTuner x)).watch = false ∧
             (u.tuner x).watch = true ∧ (u.tuner x).users = (s.tuner x).users ∧ (u.tuner x).frequency = some f) ∧
           (¬on .t1 → ¬on .t2 →
             (∀ x, ¬stays x → (x = .t2 → stays .t1) →
               u.stations.watch = some (f, x) ∧ (u.tuner (otherTuner x)).watch = false ∧
               (u.tuner x).role = .program ∧ (u.tuner x).frequency = some f ∧ (u.tuner x).users = 0 ∧
               (u.tuner x).watch = true ∧ (u.tuner x).activity = .retune ∧ (u.tuner x).measurement = none) ∧
             (stays .t1 → stays .t2 → waits)))) ∧
       (w = none → s.tuners.watch ≠ none → ¬(s.tuners.t1.watch = true ∧ s.tuners.t2.watch = true) →
         u.tuners.watch = none ∧ u.tuners.t1.watch = false ∧ u.tuners.t2.watch = false)))

/-- 5 ms after a claim, or into the tuning phase of a switch or revert, the tuner is in DWELL and AVAILABLE is notified: its routes
leave PENDING unless their zone has no listener; a switch of a self search awaits its confirmation, any other retune ends
the search with the streak at 0 (R9, R10, R67, R77, R83). Where the conditions hold and the other tuner is FREE in NONE,
settling after a claim finds or makes the pairing (R74). A settle of a tuner that acquires nothing changes nothing (log
entry 6). -/
def Obligations.TunersSettle : Prop :=
  (∀ (s : State) (x : TunerId), s.Works →
     ((s.tuner x).role ≠ .program ∨ (s.tuner x).activity ≠ .retune ∨ (s.tuner x).retune ≠ none →
       exec (.acquisitionSettle x) s = .next s) ∧
     ((s.tuner x).role = .program → (s.tuner x).activity = .retune → (s.tuner x).retune = none →
       ∃ t, exec (.acquisitionSettle x) s = .next t ∧ s.TunerWork t ∧
         (s.NoRetune →
           (t.tuner x).activity = .dwell ∧ (t.tuner x).frequency = (s.tuner x).frequency ∧
           (t.tuner x).users = (s.tuner x).users ∧
           ∀ n ∈ t.routes, n.tuner = some x → n.source.kindCode = 2 ∨ n.source.kindCode = 3 →
             n.condition = .available ∧ (n.state = .pending → s.listener n.zone = false)) ∧
         (let o := otherTuner x
         s.NoRetune → s.WatchSettled → s.tuners.policy.diversity = true → s.tuners.policy.scan ≠ .full →
           s.sup.state ≠ .quiet → s.tuners.link = .none ∨ s.tuners.link = .requested → (s.tuner x).search = none →
           (s.tuner o).role = .free → (s.tuner o).activity = .none → (s.tuner o).search = none →
             t.tuner o = { s.tuner o with role := .partner, activity := .partnerHold, partnerOf := some x } ∧
             t.tuners.link = .paired ∧
             t.tuners.interval =
               if s.tuners.policy.scan = .interleaved then some (1000 * s.tuners.policy.interval) else none))) ∧
  (∀ (s : State) (x : TunerId) (k : RetuneKind), s.Works → (s.tuner x).activity = .retune →
     (s.tuner x).retune = some ⟨k, true⟩ → (s.tuner x).role = .program → (s.tuner (otherTuner x)).retune = none →
     (s.tuner x).search = none → (∀ c, k ≠ .jump c) →
       ∃ t, exec (.retuneSettle x) s = .next t ∧ s.TunerWork t ∧
         (t.tuner x).activity = .dwell ∧ (t.tuner x).retune = none ∧ (t.tuner x).prevArea = none ∧
         (t.tuner x).frequency = (s.tuner x).frequency ∧
         (∀ f, k = .switch f true → (s.tuner x).af = .searching →
           (t.tuner x).af = .confirming ∧ (t.tuner x).oldFrequency = (s.tuner x).oldFrequency) ∧
         ((∀ f, k ≠ .switch f true) ∨ (s.tuner x).af ≠ .searching →
           (t.tuner x).af = .idle ∧ (t.tuner x).streak = 0 ∧ (t.tuner x).oldFrequency = none) ∧
         ∀ n ∈ t.routes, n.tuner = some x → n.source.kindCode = 2 ∨ n.source.kindCode = 3 →
           n.condition = .available ∧ (n.state = .pending → s.listener n.zone = false))

/-- A measurement in DWELL has the quality and area of R78; it refreshes the record of the program's frequency, is kept as
the tuner's last, and raises PROGRAM_QUALITY where the report condition holds of the areas (R71, R78, R79, R90). With a
code and an AF list the area-III streak counts, and at 3 a search of the list's candidates starts, through the other tuner
unless it holds a program; otherwise the streak is 0 (R80, R81). In SEARCHING one in area I or II ends the search and
abandons a fade, and one in area III begins a self search's next jump, fading what sounds first (R77, R82, R84); in CONFIRMING
it changes nothing of that. A missing record is inserted, in place of the victim where the table is full (R90, R92); one that
finds no place raises STATION_TABLE_FULL, for an in-use frequency once (R92). -/
def Obligations.ProgramMeasurementRefreshes : Prop :=
  ∀ (s : State) (x : TunerId) (field : Fin 121) (multipath : Fin 101), s.Works →
    let q := min 120 (field.val - (3 * multipath.val + 5) / 10)
    let area : Area := if s.stations.bHigh ≤ q then .i else if s.stations.bLow ≤ q then .ii else .iii
    let tag : Tag := if s.tuners.link = .paired then .paired else .program
    ((s.tuner x).role ≠ .program ∨ (s.tuner x).activity ≠ .dwell →
      exec (.programMeasurement x field multipath) s = .next s) ∧
    ∀ f, (s.tuner x).role = .program → (s.tuner x).activity = .dwell → (s.tuner x).frequency = some f →
      ∃ t, exec (.programMeasurement x field multipath) s = .next t ∧ s.TunerWork t ∧
        (s.NoRetune → (t.tuner x).frequency = some f ∧ ((t.tuner x).af = .searching ∨ (t.tuner x).activity = .dwell)) ∧
        (s.NoRetune → s.WatchSettled → s.stations.find f ≠ none →
          ∃ r, t.stations.find f = some r ∧ r.age = 0 ∧ r.refreshed = true ∧ r.last = some (q, area, tag)) ∧
        (t.tuner x).measurement =
          some { field := field, multipath := multipath, quality := q, area := area, tag := tag } ∧
        (t.tuner x).prevArea = some area ∧
        (s.NoRetune → s.WatchSettled → (s.tuner x).af = .idle →
          let o := otherTuner x
          let listed := match s.stations.find f with
            | some r => r.afList
            | none => []
          let candidates := listed.filter (fun g => !(s.tuner o).holds g)
          let counts := (s.tuner x).code ≠ none ∧ listed ≠ []
          (¬counts ∨ area ≠ .iii → (t.tuner x).af = .idle ∧ (t.tuner x).streak = 0) ∧
          (counts → area = .iii → (s.tuner x).streak < 2 →
            (t.tuner x).af = .idle ∧ (t.tuner x).streak = (s.tuner x).streak + 1) ∧
          (counts → area = .iii → 2 ≤ (s.tuner x).streak →
            (candidates = [] → (t.tuner x).af = .idle ∧ (t.tuner x).streak = 0) ∧
            (∀ g rest, candidates = g :: rest →
              (t.tuner x).af = .searching ∧ (t.tuner x).streak = 3 ∧
              ((s.tuner o).role = .program → (t.tuner x).search = some ⟨false, candidates, []⟩) ∧
              ((s.tuner o).role = .free → (s.tuner o).activity = .scanStep → s.tuners.link ≠ .paired →
                (t.tuner x).search = some ⟨true, candidates, []⟩) ∧
              ((s.tuner o).role = .partner ∧ s.tuners.link = .paired ∨
                  (s.tuner o).role = .free ∧ (s.tuner o).activity = .none ∧ s.tuners.link ≠ .paired →
                (t.tuner x).search = some ⟨true, rest, []⟩ ∧ (t.tuner o).activity = .afCheckForMaster ∧
                (t.tuner o).check = some ⟨g, none⟩ ∧ t.tuners.link = .none)))) ∧
        (s.WatchSettled → (s.tuner x).af = .searching → (s.tuner (otherTuner x)).retune = none →
          let o := otherTuner x
          (area ≠ .iii → (∀ k tuning, (s.tuner x).retune = some ⟨k, tuning⟩ → tuning = false) →
            (t.tuner x).af = .idle ∧ (t.tuner x).streak = 0 ∧ (t.tuner x).search = none ∧ (t.tuner x).retune = none ∧
            (t.tuner x).frequency = some f ∧
            ((s.tuner x).search.map (fun q => q.partner) = some true → (s.tuner o).activity = .afCheckForMaster →
              (t.tuner o).check = none) ∧
            ((s.tuner x).retune.isSome = true → (∀ r ∈ s.routes, r.Consistent) →
              ∀ n ∈ t.routes, n.tuner = some x → n.fadeMark = false)) ∧
          (area = .iii → (s.tuner x).retune = none → (∀ r ∈ s.routes, r.Consistent) →
            ∀ c rest found, (s.tuner x).search = some ⟨false, c :: rest, found⟩ →
              let sounds := ∃ r ∈ s.routes, r.tuner = some x ∧ (r.state = .rising ∨ r.state = .playing) ∧ r.applied ≠ .mute
              (t.tuner x).af = .searching ∧ (t.tuner x).streak = (s.tuner x).streak ∧
              (t.tuner x).search = some ⟨false, rest, found⟩ ∧ (t.tuner x).frequency = some f ∧
              (sounds → (t.tuner x).retune = some ⟨.jump c, false⟩ ∧ (t.tuner x).activity = .dwell ∧
                ∀ n ∈ t.routes, n.tuner = some x → n.state = .rising ∨ n.state = .playing →
                  n.fadeMark = true ∧ n.target = some .mute) ∧
              (¬sounds → (t.tuner x).retune = some ⟨.jump c, true⟩ ∧ (t.tuner x).activity = .selfAfJump ∧
                ∀ n ∈ t.routes, n.tuner = some x → n.condition = .retune))) ∧
        (s.NoRetune → s.WatchSettled → (s.tuner x).af = .confirming →
          (t.tuner x).af = .confirming ∧ (t.tuner x).streak = (s.tuner x).streak ∧
          (t.tuner x).oldFrequency = (s.tuner x).oldFrequency) ∧
        (s.NoRetune → s.WatchSettled → s.stations.find f = none →
          let heard := { Station.new f with last := some (q, area, tag) }
          (s.stations.records.length < 48 →
            t.stations.find f = some heard ∧ t.events.station = true ∧ t.events.flags.getLsbD 4 = true ∧
            ∀ g, g ≠ f → t.stations.find g = s.stations.find g) ∧
          (48 ≤ s.stations.records.length → ∀ v, s.stations.victim = some v →
            t.stations.find f = some heard ∧ t.events.station = true ∧ t.events.flags.getLsbD 4 = true ∧
            t.stations.find v.frequency = none ∧
            ∀ g, g ≠ f → g ≠ v.frequency → t.stations.find g = s.stations.find g)) ∧
        (s.NoRetune → s.WatchSettled → s.stations.find f = none → 48 ≤ s.stations.records.length →
          (∀ r ∈ s.stations.records, r.pinned = true ∨ r.frequency ∈ s.stations.inUse) →
            t.stations.records = s.stations.records ∧
            (f ∉ s.stations.inUse ∨ f ∉ s.stations.fullRaised → t.events.flags.getLsbD 5 = true) ∧
            (f ∈ s.stations.inUse → f ∈ t.stations.fullRaised) ∧
            (f ∈ s.stations.inUse → f ∈ s.stations.fullRaised → t.events.flags.getLsbD 5 = s.events.flags.getLsbD 5)) ∧
        ∀ old, (s.tuner x).prevArea = some old →
          (match s.tuners.report with
            | .never => False
            | .enterI => old ≠ .i ∧ area = .i
            | .enterII => old ≠ .ii ∧ area = .ii
            | .enterIII => old ≠ .iii ∧ area = .iii
            | .leaveI => old = .i ∧ area ≠ .i
            | .leaveII => old = .ii ∧ area ≠ .ii
            | .leaveIII => old = .iii ∧ area ≠ .iii
            | .anyChange => old ≠ area) →
          t.events.flags.getLsbD 6 = true

/-- A data item decoded on a program in DWELL is applied to the record of its frequency: code, two characters, traffic flags or AF
list, in its order (R94 to R96). While the watch stands on the program, a traffic item with both flags set starts an
announcement, one route for each zone of the follow set if slots are free, with a TUNER source by frequency (log entry 26),
and any other ends it (R101, R102). -/
def Obligations.DataItemsAndAnnouncements : Prop :=
  (∀ (s : State) (x : TunerId) (f : Nat) (r : Station), s.Works → s.SlotsOrdered → s.NoRetune → s.WatchSettled →
     s.tuners.waiting = [] → (s.tuner x).role = .program → (s.tuner x).activity = .dwell → (s.tuner x).af ≠ .confirming →
     (s.tuner x).frequency = some f → s.stations.find f = some r →
       (∀ c : BitVec 16, c ≠ 0 → ∃ t n, exec (.dataItemDecoded x (.programCode c)) s = .next t ∧ s.TunerWork t ∧
         t.stations.find f = some n ∧ n.code = some c.toNat ∧
         (r.code = none ∨ r.code = some c.toNat → n = { r with code := some c.toNat }) ∧
         (∀ old, r.code = some old → old ≠ c.toNat →
           n = { r with code := some c.toNat, name := List.replicate 8 none, afList := [] }) ∧
         (r.code ≠ some c.toNat → (t.tuner x).code = some c.toNat)) ∧
       (∀ (k : Nat) (a b : Byte), k = 1 ∨ k = 3 ∨ k = 5 ∨ k = 7 →
         ∃ t, exec (.dataItemDecoded x (.nameSegment k a b)) s = .next t ∧ s.TunerWork t ∧
           t.stations.find f = some { r with name := (r.name.set (k - 1) (some a)).set k (some b) }) ∧
       (∀ capable active : Bool, s.stations.watch ≠ some (f, x) →
         ∃ t, exec (.dataItemDecoded x (.traffic capable active)) s = .next t ∧ s.TunerWork t ∧
           t.stations.find f = some { r with capable := capable, active := active }) ∧
       (∀ fs : List Nat, ∃ t n, exec (.dataItemDecoded x (.afList fs)) s = .next t ∧ s.TunerWork t ∧
         t.stations.find f = some n ∧ n = { r with afList := n.afList } ∧
         n.afList.Sublist fs ∧ n.afList.length ≤ 8 ∧ n.afList.Nodup ∧
         (∀ g ∈ n.afList, g ∈ fs ∧ onRaster s.tuners.plan g = true ∧ g ≠ r.frequency) ∧
         (n.afList.length < 8 → ∀ g ∈ fs, onRaster s.tuners.plan g = true → g ≠ r.frequency → g ∈ n.afList))) ∧
  (∀ (s : State) (x : TunerId) (f : Nat) (capable active : Bool), s.Works → s.SlotsOrdered →
     (s.tuner x).role = .program → (s.tuner x).activity = .dwell → (s.tuner x).frequency = some f →
     s.stations.watch = some (f, x) → s.stations.find f ≠ none →
       ∃ t, exec (.dataItemDecoded x (.traffic capable active)) s = .next t ∧ s.TableWork t ∧ t.SlotsOrdered ∧
         t.stations.announcing = (capable && active) ∧
         (capable = true → active = true → s.stations.announcing = true → t.stations.announced = s.stations.announced) ∧
         (capable = true → active = true → s.stations.announcing = false → s.routes = [] →
           t.stations.announced.length = s.stations.follow.zones.length ∧
           t.routes.map (fun r => r.zone) = s.stations.follow.zones ∧
           ∀ n ∈ t.routes, n.owner = 6 ∧ n.cls = .announcement ∧ n.source = .tunerFrequency f ∧ n.tuner = some x) ∧
         (capable = true → active = true → s.stations.announcing = false →
           s.routes.length + s.stations.follow.zones.length ≤ 24 →
           ∃ opened : List Route, opened.map Route.handle = t.stations.announced ∧
             opened.map (fun r => r.zone) = s.stations.follow.zones ∧
             ∀ n ∈ opened, n ∈ t.routes ∧ n.owner = 6 ∧ n.cls = .announcement ∧ n.source = .tunerFrequency f ∧
               n.tuner = some x) ∧
         (¬(capable = true ∧ active = true) → s.stations.announcing = true → t.stations.announced = [] ∧
           ∀ n ∈ t.routes, n.handle ∈ s.stations.announced → n.state = .closing))

/-- A scan step begins only on a FREE idle tuner that may scan, with a reserved frequency: the first returned one, else the
cursor's, which moves on, a round ending where it wraps, frequencies in use being passed over before and after the wrap; its measurement is kept, and
it dwells in area I or II without a code; the interval's end takes the partner out of the pairing for one step (R72, R73,
R75, R97, R98). Under INTERLEAVED with diversity ON no step begins until the switch of a partner search settles (log entry
11). A measurement without a scan step and an interval's end without a pairing change nothing (log entry 6). -/
def Obligations.ScanStepsBeginAndMeasure : Prop :=
  (∀ (s : State) (x : TunerId), s.Works →
     let may := (s.tuner x).role = .free ∧ (s.tuner x).activity = .none ∧ s.sup.state ≠ .quiet ∧
       (s.tuners.link = .broken ∨
         (s.tuners.policy.scan ≠ .off ∧ s.tuners.link ≠ .requested ∧
           (∀ q, (s.tuner (otherTuner x)).search = some q → q.partner = false) ∧
           (s.tuners.policy.scan = .interleaved → s.tuners.policy.diversity = true →
             ∀ f tuning, (s.tuner (otherTuner x)).retune ≠ some ⟨.switch f false, tuning⟩)))
     let begun := fun (u : State) => u.setTuner x
       { s.tuner x with activity := .scanStep, scan := some { measurement := none, dwell := false, items := [] } }
     (¬may → exec (.scanStepBegin x) s = .next s) ∧
     (may → ∀ used f rest, s.stations.returned = used ++ f :: rest → (∀ g ∈ used, g ∈ s.stations.inUse) →
       f ∉ s.stations.inUse →
       exec (.scanStepBegin x) s =
         .next (begun { s with stations := { s.stations with returned := rest }.reserve x (some f) })) ∧
     (may → (∀ g ∈ s.stations.returned, g ∈ s.stations.inUse) →
       ∀ k, (∀ j, j < k → s.stations.cursor + j * bandStep s.tuners.plan ∈ s.stations.inUse) →
         let f := s.stations.cursor + k * bandStep s.tuners.plan
         f ∉ s.stations.inUse → f + bandStep s.tuners.plan ≤ bandHigh s.tuners.plan →
           exec (.scanStepBegin x) s =
             .next (begun { s with
               stations := { s.stations with returned := [], cursor := f + bandStep s.tuners.plan }.reserve x
                 (some f) })) ∧
     (may → (∀ g ∈ s.stations.returned, g ∈ s.stations.inUse) →
       let step := bandStep s.tuners.plan
       let high := bandHigh s.tuners.plan
       let low := bandLow s.tuners.plan
       ∀ handed next,
         (∃ k, handed = s.stations.cursor + k * step ∧ next = low ∧ handed ∉ s.stations.inUse ∧
             (∀ j, j < k → s.stations.cursor + j * step ∈ s.stations.inUse) ∧ (k = 0 ∨ handed ≤ high) ∧ high < handed + step) ∨
           (∃ n k, (∀ j, j ≤ n → s.stations.cursor + j * step ∈ s.stations.inUse) ∧
             high < s.stations.cursor + (n + 1) * step ∧ (∀ j, j < k → low + j * step ∈ s.stations.inUse) ∧
             handed = low + k * step ∧ handed ∉ s.stations.inUse ∧ handed + step ≤ high ∧ next = handed + step) →
         (∃ t, exec (.scanStepBegin x) s = .next t ∧ s.TunerWork t ∧ t.routes = s.routes ∧
           t.tuner x = (begun s).tuner x ∧ t.stations.reserved x = some handed ∧
           t.stations.cursor = next ∧ t.stations.returned = [] ∧ t.stations.round = s.stations.round + 1 ∧
           (∀ n ∈ t.stations.records, n.refreshed = false ∧
             (n.age ≤ s.stations.retire ∨ n.pinned = true ∨ n.frequency ∈ s.stations.inUse) ∧
             ∃ r ∈ s.stations.records,
               n = { r with age := if r.refreshed then r.age else min 15 (r.age + 1), refreshed := false }) ∧
           ∀ r ∈ s.stations.records,
             (r.refreshed = true ∧ r.age ≤ s.stations.retire) ∨
                 (r.refreshed = false ∧ min 15 (r.age + 1) ≤ s.stations.retire) ∨
                 r.pinned = true ∨ r.frequency ∈ s.stations.inUse →
               ∃ n ∈ t.stations.records, n.frequency = r.frequency))) ∧
  (∀ (s : State) (x : TunerId) (field : Fin 121) (multipath : Fin 101), s.Works →
     (∀ f dwell items, (s.tuner x).activity = .scanStep → (s.tuner x).scan = some ⟨none, dwell, items⟩ →
       s.stations.reserved x = some f →
         let q := min 120 (field.val - (3 * multipath.val + 5) / 10)
         let area : Area := if s.stations.bHigh ≤ q then .i else if s.stations.bLow ≤ q then .ii else .iii
         let m : Measurement := { field := field, multipath := multipath, quality := q, area := area, tag := .scan }
         ∃ k : ScanStep, exec (.scanMeasurement x field multipath) s = .next (s.setTuner x { s.tuner x with scan := some k }) ∧
           k.measurement = some m ∧ k.items = [] ∧
           (k.dwell = true ↔ area ≠ .iii ∧ ∀ r, s.stations.find f = some r → r.code = none)) ∧
     ((s.tuner x).activity ≠ .scanStep → exec (.scanMeasurement x field multipath) s = .next s) ∧
     (s.tuners.link ≠ .paired ∨ s.tuners.interval = none → exec .scanIntervalExpiry s = .next s) ∧
     (s.tuners.link = .paired → s.tuners.interval ≠ none → (s.tuner x).role = .partner →
       (s.tuner (otherTuner x)).role = .program →
         exec .scanIntervalExpiry s =
           .next ({ s with tuners.link := .broken, tuners.interval := none }.setTuner x
             { s.tuner x with role := .free, activity := .none, partnerOf := none })))

/-- A completed scan step leaves its tuner out of SCAN_STEP with its frequency free again; the frequency's record is
refreshed, or inserted, in place of the victim where the table is full, where the area is I or II, and the items of the dwell
are applied to it in their order; without a victim the results are dropped and STATION_TABLE_FULL is raised; in area III
nothing is applied (R72, R90, R92, R94 to R97). -/
def Obligations.ScanStepCompletes : Prop :=
  ∀ (s : State) (x : TunerId) (m : Measurement) (dwell : Bool) (items : List DataItem) (f : Nat), s.Works → s.NoRetune →
    s.WatchSettled → s.tuners.waiting = [] → (s.tuner x).activity = .scanStep →
    (s.tuner x).scan = some ⟨some m, dwell, items⟩ → s.stations.reserved x = some f →
      let apply := fun (r : Station) (i : DataItem) => match i with
        | .programCode c =>
          if c = 0 ∨ r.code = some c.toNat then r
          else if r.code = none then { r with code := some c.toNat }
          else { r with code := some c.toNat, name := List.replicate 8 none, afList := [] }
        | .nameSegment k a b =>
          if k = 1 ∨ k = 3 ∨ k = 5 ∨ k = 7 then { r with name := (r.name.set (k - 1) (some a)).set k (some b) } else r
        | .traffic capable active => { r with capable := capable, active := active }
        | .afList fs =>
          { r with afList := ((fs.filter (fun g => onRaster s.tuners.plan g && g ≠ f)).eraseDups).take 8 }
      let found := some (m.quality, m.area, m.tag)
      let heard := items.foldl apply { Station.new f with last := found }
      ∃ t, exec (.scanStepComplete x) s = .next t ∧ s.TunerWork t ∧ t.stations.reserved x = none ∧
        (t.tuner x).activity ≠ .scanStep ∧ (t.tuner x).scan = none ∧
        t.tuners.link ≠ .broken ∧
        (m.area = .iii → t.stations.records = s.stations.records) ∧
        (m.area ≠ .iii → ∀ r, s.stations.find f = some r →
          t.stations.find f = some (items.foldl apply { r with last := found, age := 0, refreshed := true }) ∧
          t.stations.records.map (fun y => y.frequency) = s.stations.records.map (fun y => y.frequency)) ∧
        (m.area ≠ .iii → s.stations.find f = none → s.stations.records.length < 48 →
          t.stations.find f = some heard ∧ t.events.station = true) ∧
        (m.area ≠ .iii → s.stations.find f = none → 48 ≤ s.stations.records.length →
          (∀ v, s.stations.victim = some v → t.stations.find f = some heard ∧ t.events.station = true ∧
            t.stations.find v.frequency = none ∧
            ∀ g, g ≠ f → g ≠ v.frequency → t.stations.find g = s.stations.find g) ∧
          (s.stations.victim = none → t.stations.records = s.stations.records ∧
            (f ∉ s.stations.inUse ∨ f ∉ s.stations.fullRaised → t.events.flags.getLsbD 5 = true)))

/-- The checking tuner's measurement is kept with the check. At the check's end its results, and a code decoded, go to the
candidate's record, inserted where there is none, in place of the victim where the table is full (R92, R94), and the next candidate is checked; after the last, of the candidates found in area I or II with the program's code those
whose quality reaches the program's most recent one plus the hysteresis qualify, and the search switches to the best, the
earlier on a tie, or ends with the streak at 0 (R81, R90). A check's end without a check changes nothing (log entry 6). -/
def Obligations.AfCheckIsJudged : Prop :=
  ∀ (s : State) (x : TunerId) (c : Nat), s.Works → (s.tuner x).activity = .afCheckForMaster →
    (∀ (field : Fin 121) (multipath : Fin 101), (s.tuner x).check = some ⟨c, none⟩ →
      exec (.afCheckMeasurement x field multipath) s =
        .next (s.setTuner x { s.tuner x with
          check := some { candidate := c, measurement := some (s.measure field multipath .afCheck) } })) ∧
    (∀ (m : Measurement) (code : Option (BitVec 16)) (rest : List Nat) (found : List (Nat × Nat)),
      let o := otherTuner x
      (s.tuner x).check = some ⟨c, some m⟩ → (s.tuner o).search = some ⟨true, rest, found⟩ →
      (s.tuner o).af = .searching → s.NoRetune → s.WatchSettled → code ≠ some 0 →
        let passes := (∃ k, code = some k ∧ (s.tuner o).code = some k.toNat) ∧ m.area ≠ .iii
        let settled := code = none ∨ s.tuners.waiting = [] ∧ (s.tuner o).frequency ≠ some c ∨
          ∃ r k, s.stations.find c = some r ∧ code = some k ∧ r.code = some k.toNat
        let good := fun (y : Nat × Nat) =>
          ∃ p, (s.tuner o).measurement = some p ∧ p.quality + s.tuners.policy.hysteresis ≤ y.2
        ∃ t, exec (.afCheckEnd x code) s = .next t ∧ s.TunerWork t ∧
          (t.tuner x).check ≠ some ⟨c, some m⟩ ∧
          (code = none → rest ≠ [] ∨ found = [] → ∀ r, s.stations.find c = some r →
            t.stations.find c =
              some { r with last := some (m.quality, m.area, m.tag), age := 0, refreshed := true }) ∧
          (s.tuners.waiting = [] → (s.tuner o).frequency ≠ some c →
            let found? := s.stations.find c
            let base := found?.getD (Station.new c)
            let coded := match code with
              | none => base
              | some k =>
                if base.code = none ∨ base.code = some k.toNat then { base with code := some k.toNat }
                else { base with code := some k.toNat, name := List.replicate 8 none, afList := [] }
            let heard := { coded with last := some (m.quality, m.area, m.tag), age := 0, refreshed := true }
            (found? ≠ none ∨ s.stations.records.length < 48 →
              rest ≠ [] ∨ found = [] ∨ s.stations.records.length < 47 →
              ∃ n, t.stations.find c = some n ∧ n = { heard with active := n.active } ∧
                ((s.tuner o).watch = false → n.active = heard.active) ∧ (found? = none → t.events.station = true)) ∧
            (found? = none → 48 ≤ s.stations.records.length → rest ≠ [] ∨ (found = [] ∧ ¬passes) →
              (∀ v, s.stations.victim = some v →
                t.stations.find c = some heard ∧ t.stations.find v.frequency = none ∧ t.events.station = true) ∧
              (s.stations.victim = none → t.stations.records = s.stations.records ∧
                (c ∉ s.stations.inUse ∨ c ∉ s.stations.fullRaised → t.events.flags.getLsbD 5 = true)))) ∧
          ∀ fs, (passes → fs = found ++ [(c, m.quality)]) → (¬passes → fs = found) → settled →
            (s.tuner x).role = .free →
            (∀ g others, rest = g :: others → (s.tuner o).role = .program →
              (t.tuner x).activity = .afCheckForMaster ∧ (t.tuner x).check = some ⟨g, none⟩ ∧
              (t.tuner o).search = some ⟨true, others, fs⟩ ∧ (t.tuner o).af = .searching) ∧
            (rest = [] → (∀ y ∈ fs, ¬good y) →
              (t.tuner o).af = .idle ∧ (t.tuner o).streak = 0 ∧ (t.tuner o).search = none ∧ (t.tuner o).retune = none) ∧
            (rest = [] → ∀ before y later, fs = before ++ y :: later → good y →
              (∀ z ∈ before, good z → z.2 < y.2) → (∀ z ∈ later, good z → z.2 ≤ y.2) →
                ∃ tuning, (t.tuner o).retune = some ⟨.switch y.1 false, tuning⟩ ∧
                  (tuning = true → (t.tuner o).frequency = some y.1 ∧ (t.tuner o).activity = .retune ∧
                    y.1 ∈ t.stations.inUse ∧ t.events.flags.getLsbD 7 = true) ∧
                  (tuning = false → (t.tuner o).frequency = (s.tuner o).frequency))) ∧
    ((s.tuner x).check = none → ∀ code, exec (.afCheckEnd x code) s = .next s)

/-- A self jump returns to the program after its measurement, which refreshes the candidate's record; after the last candidate
the master switches, with confirmation, to the best that qualified, or the search ends with the streak at 0. A switch of a
self search that no code confirms in 150 ms is reverted to the frequency it came from, or, where the other tuner holds that
one, stays without a code; the first code decoded confirms the switch if it is the program's, and otherwise goes to the record
and reverts the switch at once (R82, R83, R90, R94). A timeout outside CONFIRMING changes nothing (log entry 6). -/
def Obligations.JumpEndsAndUnconfirmedSwitchesRevert : Prop :=
  ∀ (s : State) (x : TunerId), s.Works → (s.tuner (otherTuner x)).retune = none → (s.tuner x).role = .program →
    (∀ (c : Nat) (field : Fin 121) (multipath : Fin 101),
      (s.tuner x).activity = .selfAfJump → (s.tuner x).retune = some ⟨.jump c, true⟩ → s.WatchSettled →
      (∀ cs found, (s.tuner x).search = some ⟨false, cs, found⟩ → cs ≠ []) →
        ∃ t, exec (.selfAfJumpEnd x field multipath) s = .next t ∧ s.TunerWork t ∧
          (t.tuner x).activity = .dwell ∧ (t.tuner x).retune = none ∧
          (t.tuner x).frequency = (s.tuner x).frequency ∧
          ∀ r, s.stations.find c = some r →
            let m := s.measure field multipath .afCheck
            t.stations.find c = some { r with last := some (m.quality, m.area, .afCheck), age := 0, refreshed := true }) ∧
    (∀ (c : Nat) (field : Fin 121) (multipath : Fin 101) (found fs : List (Nat × Nat)),
      (s.tuner x).activity = .selfAfJump → (s.tuner x).retune = some ⟨.jump c, true⟩ → s.WatchSettled →
      (s.tuner x).search = some ⟨false, [], found⟩ →
        let m := s.measure field multipath .afCheck
        let qualifies := m.area ≠ .iii ∧
          ∃ p, (s.tuner x).measurement = some p ∧ p.quality + s.tuners.policy.hysteresis ≤ m.quality
        (qualifies → fs = found ++ [(c, m.quality)]) → (¬qualifies → fs = found) →
          ∃ t, exec (.selfAfJumpEnd x field multipath) s = .next t ∧ s.TunerWork t ∧
            (fs = [] → (t.tuner x).af = .idle ∧ (t.tuner x).streak = 0 ∧ (t.tuner x).search = none ∧
              (t.tuner x).activity = .dwell ∧ (t.tuner x).retune = none) ∧
            (∀ before y later, fs = before ++ y :: later → (∀ z ∈ before, z.2 < y.2) → (∀ z ∈ later, z.2 ≤ y.2) →
              ((s.tuner (otherTuner x)).holds y.1 = true →
                (t.tuner x).af = .idle ∧ (t.tuner x).streak = 0 ∧ (t.tuner x).retune = none) ∧
              ((s.tuner (otherTuner x)).holds y.1 = false →
                ∃ tuning, (t.tuner x).retune = some ⟨.switch y.1 true, tuning⟩ ∧
                  (tuning = true → (t.tuner x).frequency = some y.1 ∧ (t.tuner x).activity = .retune ∧
                    (t.tuner x).oldFrequency = (s.tuner x).frequency ∧ y.1 ∈ t.stations.inUse ∧
                    t.events.flags.getLsbD 7 = true) ∧
                  (tuning = false → (t.tuner x).frequency = (s.tuner x).frequency ∧ (t.tuner x).activity = .dwell)))) ∧
    (∀ old, (s.tuner x).af = .confirming → (s.tuner x).retune = none → (s.tuner x).oldFrequency = some old →
      (s.tuner (otherTuner x)).holds old = false →
        ∃ t tuning, exec (.afConfirmTimeout x) s = .next t ∧ s.TunerWork t ∧
          (t.tuner x).retune = some ⟨.revert old none, tuning⟩ ∧
          (tuning = true → (t.tuner x).frequency = some old ∧ (t.tuner x).activity = .retune ∧
            t.events.flags.getLsbD 7 = true)) ∧
    (∀ old, (s.tuner x).af = .confirming → (s.tuner x).retune = none → (s.tuner x).oldFrequency = some old →
      (s.tuner (otherTuner x)).holds old = true →
        ∃ t, exec (.afConfirmTimeout x) s = .next t ∧ s.TunerWork t ∧
          (t.tuner x).af = .idle ∧ (t.tuner x).streak = 0 ∧ (t.tuner x).code = none ∧ (t.tuner x).retune = none ∧
          (t.tuner x).frequency = (s.tuner x).frequency) ∧
    (∀ (old f : Nat) (c : BitVec 16), (s.tuner x).af = .confirming → (s.tuner x).retune = none →
      (s.tuner x).oldFrequency = some old → (s.tuner x).activity = .dwell → (s.tuner x).frequency = some f → c ≠ 0 →
      s.tuners.waiting = [] →
        ∃ t, exec (.dataItemDecoded x (.programCode c)) s = .next t ∧ s.TunerWork t ∧
          (s.WatchSettled → s.stations.records.length < 48 ∨ s.stations.find old ≠ none → ∀ r, s.stations.find f = some r →
            ∃ n, t.stations.find f = some n ∧ n.code = some c.toNat) ∧
          ((s.tuner x).code = some c.toNat →
            (t.tuner x).af = .idle ∧ (t.tuner x).streak = 0 ∧ (t.tuner x).oldFrequency = none ∧
            (t.tuner x).retune = none ∧ (t.tuner x).code = some c.toNat ∧ (t.tuner x).frequency = some f) ∧
          ((s.tuner x).code ≠ some c.toNat → (s.tuner (otherTuner x)).holds old = true →
            (t.tuner x).af = .idle ∧ (t.tuner x).streak = 0 ∧ (t.tuner x).code = some c.toNat ∧
            (t.tuner x).retune = none ∧ (t.tuner x).frequency = some f) ∧
          ((s.tuner x).code ≠ some c.toNat → (s.tuner (otherTuner x)).holds old = false →
            ∃ tuning, (t.tuner x).retune = some ⟨.revert old (some c.toNat), tuning⟩ ∧
              (tuning = true → (t.tuner x).frequency = some old ∧ (t.tuner x).activity = .retune ∧
                t.events.flags.getLsbD 7 = true) ∧
              (tuning = false → (t.tuner x).frequency = some f ∧ (t.tuner x).activity = .dwell))) ∧
    ((s.tuner x).af ≠ .confirming ∨ (s.tuner x).retune ≠ none → exec (.afConfirmTimeout x) s = .next s)

/-! ## Phone port -/

/-- PHONE_ADVERTISE of client 0 replaces the stored modes for the next negotiation; PHONE_RESTART of client 0 or of a leg's
owner puts the link into HOLD_OFF for 400 ms with its words and faults forgotten (R131, R134). -/
def Obligations.PhoneRequests : Prop :=
  ∀ (s : State) (c : Byte) (p : List Byte),
    (s.Accepts .phoneAdvertise c p →
      let good := p.length = 1 ∧ 1 ≤ u8At p 0 ∧ u8At p 0 ≤ 7
      (good → c = 0 → ∃ m : ModeSet, m.sum = u8At p 0 ∧
        exec (.phoneAdvertise c p) s = .next (s.served { s with phone.stored := m } .phoneAdvertise c p
          (p ++ u8 s.phone.inUse.sum ++ u8 s.phone.link.code))) ∧
      (¬good → exec (.phoneAdvertise c p) s = .next (s.declined .phoneAdvertise c p .badArgument)) ∧
      (good → c ≠ 0 → exec (.phoneAdvertise c p) s = .next (s.declined .phoneAdvertise c p .notPermitted))) ∧
    (s.Accepts .phoneRestart c p →
      let may := c = 0 ∨ ∃ l ∈ s.calls.legs, l.owner = c.toNat
      (p = [] → may → ∃ u, exec (.phoneRestart c p) s = .next (s.served u .phoneRestart c p [4#8]) ∧
        State.TunerWork { s with phone := u.phone, freeCount := u.freeCount } u ∧
        u.phone = { s.phone with
          link := .holdOff, mode := none, negotiated := false, selected := none, upRate := none, runWord := none
          runCount := 0, partner := none, ownFault := false, detectionFault := false, partnerFault := false
          silence := none, holdOff := some 400, wordCount := 0 } ∧
        (s.phone.link ≠ .holdOff → u.events.flags.getLsbD 9 = true) ∧
        (s.phone.link ≠ .up → u.routes = s.routes ∧ u.calls = s.calls)) ∧
      (p ≠ [] → exec (.phoneRestart c p) s = .next (s.declined .phoneRestart c p .badArgument)) ∧
      (p = [] → ¬may → exec (.phoneRestart c p) s = .next (s.declined .phoneRestart c p .notPermitted)))

/-- The clock detector PRESENT takes a DOWN link outside QUIET into NEGOTIATING, ABSENT takes a link that is not in HOLD_OFF DOWN;
at a span's end with a clock the rate class is the mode within 2 % of the rate, else OTHER, and a change takes UP back to
NEGOTIATING, or ACKNOWLEDGING into UP; NEGOTIATING starts the word count (R122 to R129, R133; the closed 2 % limits are the
model's choice, log entry 20, as is the rate class kept at PRESENT, log entry 46). A PRESENT with the clock present and an
ABSENT without one change nothing (log entry 6). -/
def Obligations.ClockAndRateMoveTheLink : Prop :=
  (∀ s : State, s.Works → s.phone.Consistent →
     (s.phone.clock = true → exec .clockDetectPresent s = .next s) ∧
     (s.phone.clock = false → ∃ t, exec .clockDetectPresent s = .next t ∧
       State.TunerWork { s with phone := t.phone } t ∧ t.routes = s.routes ∧ t.calls = s.calls ∧ t.phone.clock = true ∧
       (s.phone.link = .down ∧ s.sup.state ≠ .quiet →
         t.phone.link = .negotiating ∧ t.phone.inUse = s.phone.stored ∧ t.phone.silence = some 300 ∧
           t.phone.wordCount = 0 ∧ t.events.flags.getLsbD 9 = true) ∧
       (s.phone.link ≠ .down ∨ s.sup.state = .quiet → t.phone = { s.phone with clock := true })) ∧
     (s.phone.clock = false → exec .clockDetectAbsent s = .next s) ∧
     (s.phone.clock = true → ∃ t, exec .clockDetectAbsent s = .next t ∧
       State.TunerWork { s with phone := t.phone, freeCount := t.freeCount } t ∧
       t.phone.clock = false ∧ t.phone.rate = .none ∧ t.phone.stored = s.phone.stored ∧
       (s.phone.link = .holdOff → t.phone.link = .holdOff ∧ t.phone.holdOff = s.phone.holdOff) ∧
       (s.phone.link ≠ .holdOff → t.phone.link = .down ∧ t.phone.mode = none) ∧
       (s.phone.link ≠ .holdOff → s.phone.link ≠ .down →
         t.phone.partner = none ∧ t.events.flags.getLsbD 9 = true))) ∧
  (∀ (s : State) (rate : Nat), s.Works →
     (s.phone.clock = false → s.phone.rate = .none → exec (.rateSpanEnd rate) s = .next s) ∧
     (s.phone.clock = true → ∃ t,
       exec (.rateSpanEnd rate) s = .next t ∧
       State.TunerWork { s with phone := t.phone, freeCount := t.freeCount } t ∧
       t.phone.rate =
         (if 100 * rate ≤ 102 * 8000 ∧ 98 * 8000 ≤ 100 * rate then .mode .nb
         else if 100 * rate ≤ 102 * 16000 ∧ 98 * 16000 ≤ 100 * rate then .mode .wb
         else if 100 * rate ≤ 102 * 32000 ∧ 98 * 32000 ≤ 100 * rate then .mode .swb
         else .other) ∧
       (t.phone.rate = s.phone.rate → t = s) ∧
       (t.phone.rate ≠ s.phone.rate →
         (s.phone.link = .up → t.phone.link = .negotiating ∧ t.phone.mode = none ∧ t.phone.wordCount = 0) ∧
         (s.phone.link = .acknowledging →
           (∀ m, s.phone.selected = some m → s.phone.runCount = 3 → t.phone.rate = .mode m →
             t.phone.link = .up ∧ t.phone.mode = some m ∧ t.phone.negotiated = true ∧
               t.phone.wordCount = s.phone.wordCount) ∧
           ((∀ m, s.phone.selected = some m → s.phone.runCount ≠ 3 ∨ t.phone.rate ≠ .mode m) →
             t.phone = { s.phone with rate := t.phone.rate })) ∧
         (s.phone.link ≠ .up → s.phone.link ≠ .acknowledging → t = { s with phone.rate := t.phone.rate }))))

/-- The sixteen bits the part sends for a word are received as that word, and a word of a reserved kind, of even parity or with a
mode its kind does not carry is not valid and ignored (R122). Runs of valid words, held at 3, take the link from
NEGOTIATING through ACKNOWLEDGING into UP, and back, an ADVERTISE being counted there (R126 to R128); the word count starts
with NEGOTIATING and goes on through ACKNOWLEDGING and UP (R122, R125). -/
def Obligations.WordsAndNegotiation : Prop :=
  ((∀ w : ControlWord, (w.kind = .advertise ↔ w.selected = none) → wordOf w.bits = some w) ∧
   ∀ b : BitVec 16,
     (b.getLsbD 15 = false → b.getLsbD 14 = false → wordOf b = none) ∧
     ((List.range 16).countP (fun k => b.getLsbD k) % 2 = 0 → wordOf b = none) ∧
     (b.getLsbD 15 = false → b.getLsbD 14 = true → b.getLsbD 10 = true ∨ b.getLsbD 9 = true → wordOf b = none) ∧
     (b.getLsbD 15 = true → b.getLsbD 10 = false → b.getLsbD 9 = false → wordOf b = none) ∧
     ∀ w, wordOf b = some w →
       w.kind.code = (if b.getLsbD 15 then 2 else 0) + (if b.getLsbD 14 then 1 else 0) ∧
       w.caps = ⟨b.getLsbD 11, b.getLsbD 12, b.getLsbD 13⟩ ∧
       modeCode w.selected = (if b.getLsbD 10 then 2 else 0) + (if b.getLsbD 9 then 1 else 0) ∧
       w.fault = b.getLsbD 8) ∧
  (∀ (s : State) (b : BitVec 16), s.Works →
     (wordOf b = none → exec (.partnerWord b) s = .next s) ∧
     ∀ w, wordOf b = some w →
       ∃ t, exec (.partnerWord b) s = .next t ∧
         State.TunerWork { s with phone := t.phone, freeCount := t.freeCount } t ∧
         (s.phone.link = .down ∨ s.phone.link = .holdOff → t = s) ∧
         (s.phone.link ≠ .down → s.phone.link ≠ .holdOff → t.phone.partner = some w ∧ t.phone.partnerFault = w.fault) ∧
         (s.phone.link = .negotiating → w.kind = .advertise → s.phone.runWord = some w → s.phone.runCount = 2 →
           (∀ m, bestCommon s.phone.inUse w.caps = some m →
             t.phone.link = .acknowledging ∧ t.phone.selected = some m ∧ t.phone.runCount = 0 ∧
               t.events.flags.getLsbD 9 = true) ∧
           (bestCommon s.phone.inUse w.caps = none →
             t.phone.link = .negotiating ∧ t.phone.ownFault = true ∧ t.phone.runCount = 3)) ∧
         (s.phone.link = .negotiating → w.kind = .advertise → s.phone.runWord = some w → s.phone.runCount ≠ 2 →
           t.phone.link = .negotiating ∧ t.phone.runWord = some w ∧ t.phone.runCount = min 3 (s.phone.runCount + 1) ∧
             t.phone.ownFault = s.phone.ownFault) ∧
         (s.phone.link = .negotiating → w.kind = .advertise → s.phone.runWord ≠ some w →
           t.phone.link = .negotiating ∧ t.phone.runWord = some w ∧ t.phone.runCount = 1) ∧
         (s.phone.link = .negotiating → w.kind ≠ .advertise →
           t.phone.link = .negotiating ∧ t.phone.runWord = none ∧ t.phone.runCount = 0) ∧
         (∀ m, s.phone.link = .acknowledging → w.kind ≠ .advertise → w.selected = some m → s.phone.selected = some m →
           (2 ≤ s.phone.runCount → s.phone.rate = .mode m →
             t.phone.link = .up ∧ t.phone.mode = some m ∧ t.phone.negotiated = true) ∧
           (s.phone.runCount < 2 → t.phone.link = .acknowledging ∧ t.phone.runCount = s.phone.runCount + 1) ∧
           (2 ≤ s.phone.runCount → s.phone.rate ≠ .mode m →
             t.phone.link = .acknowledging ∧ t.phone.selected = some m ∧ t.phone.runCount = 3)) ∧
         ((s.phone.link = .acknowledging ∨ s.phone.link = .up) → t.phone.link = .negotiating → t.phone.wordCount = 0 ∧
           (w.kind = .advertise → t.phone.runWord = some w ∧ t.phone.runCount = 1) ∧
           (w.kind ≠ .advertise → t.phone.runWord = none ∧ t.phone.runCount = 0)) ∧
         (t.phone.link ≠ .negotiating → t.phone.wordCount = s.phone.wordCount) ∧
         (s.phone.link = .acknowledging → w.kind = .advertise ∨ w.selected ≠ s.phone.selected →
           t.phone.link = .negotiating ∧ t.phone.inUse = s.phone.stored) ∧
         (s.phone.link = .up → w.kind = .advertise ∨ (s.phone.negotiated = true ∧ w.selected ≠ s.phone.mode) →
           t.phone.link = .negotiating ∧ t.phone.mode = none) ∧
         (s.phone.link = .up → w.kind ≠ .advertise → s.phone.negotiated = false ∨ w.selected = s.phone.mode →
           t.phone.link = .up ∧ t.phone.mode = s.phone.mode))

/-- 300 ms of silence set the mode from the measured rate where the set in use has it, and otherwise the detection fault,
a link in ACKNOWLEDGING returning to NEGOTIATING; 400 ms of hold-off end in NEGOTIATING, or in DOWN without a clock
(R129 to R131). An expiry of a timer that does not run changes nothing (log entry 6). -/
def Obligations.SilenceAndHoldOffEnd : Prop :=
  ∀ s : State, s.Works →
    (s.phone.silence = none → exec .silenceTimerExpiry s = .next s) ∧
    (s.phone.silence ≠ none → ∃ t, exec .silenceTimerExpiry s = .next t ∧
      State.TunerWork { s with phone := t.phone, freeCount := t.freeCount } t ∧
      (∀ m, s.phone.rate = .mode m → s.phone.inUse.has m = true →
        t.phone.link = .up ∧ t.phone.mode = some m ∧ t.phone.negotiated = false ∧ t.phone.silence = none) ∧
      ((∀ m, s.phone.rate = .mode m → s.phone.inUse.has m = false) →
        t.phone.detectionFault = true ∧ t.phone.silence = some 300 ∧
        (s.phone.link = .acknowledging → t.phone.link = .negotiating ∧ t.phone.wordCount = 0) ∧
        (s.phone.link ≠ .acknowledging → t.phone.link = s.phone.link) ∧
        (s.phone.detectionFault = false → t.events.flags.getLsbD 9 = true))) ∧
    (s.phone.link ≠ .holdOff → exec .holdOffExpiry s = .next s) ∧
    (s.phone.link = .holdOff → ∃ t, exec .holdOffExpiry s = .next t ∧
      t = { s with phone := t.phone, events.flags := s.events.flags ||| 1#18 <<< 9 } ∧ t.phone.holdOff = none ∧
      (s.phone.clock = true →
        t.phone.link = .negotiating ∧ t.phone.inUse = s.phone.stored ∧ t.phone.silence = some 300 ∧
          t.phone.wordCount = 0) ∧
      (s.phone.clock = false → t.phone.link = .down))

/-! ## Calls -/

/-- LEG_OPEN creates a leg with the lowest free identifier, RINGING or ACTIVE; a fourth is refused TABLE_FULL. LEG_STATE makes a
leg ACTIVE or puts it on hold. A leg made ACTIVE puts any other ACTIVE leg on hold, whose microphones leave the uplink, and
starts the checks of its own seats. The rings of a leg that is no longer RINGING end, and no CALL route of a leg HELD, or
ACTIVE without the link UP, sounds: each is PENDING with its cause, SUSPENDED or CLOSING (R9, R10, R140, R155). That a HELD request replies 0 also for the ACTIVE leg it names is the model's choice, log
entry 48 (R136, R138, R139, R143, R144). -/
def Obligations.LegsAreOpenedAndMoved : Prop :=
  (∀ (s : State) (c : Byte) (p : List Byte), s.Accepts .legOpen c p → s.calls.Consistent →
     let good := p.length = 3 ∧ u8At p 0 ≤ 1 ∧ u8At p 1 ≤ 15 ∧ u8At p 2 ≤ 15
     (¬good → exec (.legOpen c p) s = .next (s.declined .legOpen c p .badArgument)) ∧
     (good → s.calls.legs.length = 3 → exec (.legOpen c p) s = .next (s.declined .legOpen c p .tableFull)) ∧
     (good → s.calls.legs.length < 3 → ∃ (u : State) (n : Leg),
       exec (.legOpen c p) s = .next (s.served u .legOpen c p
         (u8 n.id ++ [n.reuse] ++ u8 (u8At p 0) ++
           (match s.calls.legs.find? (fun l => l.state = .active) with
             | some l => if u8At p 0 = 1 then u8 l.id ++ [l.reuse] else [0#8, 0#8]
             | none => [0#8, 0#8]))) ∧
       State.TunerWork { s with calls.legs := u.calls.legs } u ∧
       u.calls.legs =
         (if u8At p 0 = 1 then s.calls.legs.map (fun l => if l.state = .active then { l with state := .held } else l)
           else s.calls.legs) ++ [n] ∧
       (1 ≤ n.id ∧ n.id ≤ 3) ∧ (∀ l ∈ s.calls.legs, l.id ≠ n.id) ∧
       (∀ j, 1 ≤ j → j < n.id → ∃ l ∈ s.calls.legs, l.id = j) ∧
       n.reuse = tabGet s.calls.reuse (n.id - 1) 0 ∧ n.owner = c.toNat ∧
       n.state = (if u8At p 0 = 1 then .active else .ringing) ∧ n.ring = u8At p 1 ∧ n.seats.sum = u8At p 2 ∧
       n.gain = s.calls.defaultGain ∧ n.mute = false ∧ n.order = s.calls.legs.length + 1 ∧
       (u8At p 0 = 1 → ∀ x, n.seats.has x = true → (u.calls.mics.get (seatIndex x)).check = some 100) ∧
       (u8At p 0 = 1 → s.NoRetune → s.WatchSettled → ∀ l ∈ s.calls.legs, l.state = .active → ∀ r ∈ u.routes,
         r.source = .leg l.id l.reuse → r.play = none ∧
           ((r.state = .pending ∧ r.cause = some (if s.listener r.zone then .legHeld else .noListener)) ∨
             r.state = .suspended ∨ r.state = .closing)) ∧
       (u8At p 0 = 1 → ∀ l ∈ s.calls.legs, l.state = .active → ∀ x, l.seats.has x = true →
         (u.calls.mics.get (seatIndex x)).canceller = .idle ∧
         (n.seats.has x = false → (u.calls.mics.get (seatIndex x)).check = none)))) ∧
  (∀ (s : State) (c : Byte) (p : List Byte), s.Accepts .legState c p → s.calls.Consistent →
     let silent := fun (u : State) (l : Leg) (why : Cause) => ∀ r ∈ u.routes, r.source = .leg l.id l.reuse →
       (r.state = .pending ∧ r.cause = some (if s.listener r.zone then why else .noListener)) ∨
         r.state = .suspended ∨ r.state = .closing
     let unrung := fun (u : State) (l : Leg) => ∀ r ∈ u.routes, r.source = .leg l.id l.reuse → r.play = none
     let good := p.length = 3 ∧ (1 ≤ u8At p 0 ∧ u8At p 0 ≤ 3) ∧ (u8At p 2 = 1 ∨ u8At p 2 = 2)
     (¬good → exec (.legState c p) s = .next (s.declined .legState c p .badArgument)) ∧
     (good → s.leg (u8At p 0) (p.getD 1 0) = none →
       exec (.legState c p) s = .next (s.declined .legState c p .notFound)) ∧
     ∀ l, good → s.leg (u8At p 0) (p.getD 1 0) = some l →
       (c ≠ 0 → c.toNat ≠ l.owner → exec (.legState c p) s = .next (s.declined .legState c p .notPermitted)) ∧
       (c = 0 ∨ c.toNat = l.owner →
         (u8At p 2 = 1 → l.state = .active →
           exec (.legState c p) s = .next (s.served s .legState c p [1#8, 0#8, 0#8])) ∧
         (u8At p 2 = 2 → l.state = .held →
           exec (.legState c p) s = .next (s.served s .legState c p [2#8, 0#8, 0#8])) ∧
         (u8At p 2 = 2 → l.state ≠ .held → ∃ u,
           exec (.legState c p) s = .next (s.served u .legState c p [2#8, 0#8, 0#8]) ∧
           State.TunerWork { s with calls.legs := u.calls.legs } u ∧
           u.calls.legs = s.calls.legs.map (fun x => if x.id = l.id then { x with state := .held } else x) ∧
           (s.NoRetune → s.WatchSettled → silent u l .legHeld ∧ unrung u l) ∧
           (l.state = .active → ∀ x, l.seats.has x = true →
             (u.calls.mics.get (seatIndex x)).check = none ∧ (u.calls.mics.get (seatIndex x)).canceller = .idle)) ∧
         (u8At p 2 = 1 → l.state ≠ .active → ∃ u : State,
           exec (.legState c p) s = .next (s.served u .legState c p
             ([1#8] ++ match s.calls.legs.find? (fun y => y.state = .active) with
               | some y => u8 y.id ++ [y.reuse]
               | none => [0#8, 0#8])) ∧
           State.TunerWork { s with calls.legs := u.calls.legs } u ∧
           u.calls.legs = s.calls.legs.map (fun x =>
             if x.id = l.id then { x with state := .active }
             else if x.state = .active then { x with state := .held } else x) ∧
           (s.NoRetune → s.WatchSettled → unrung u l ∧ (s.phone.link ≠ .up → silent u l .linkDown) ∧
             (s.phone.link = .up → ∀ r ∈ u.routes, r.source = .leg l.id l.reuse → r.state = .pending →
               s.listener r.zone = false) ∧
             ∀ y ∈ s.calls.legs, y.state = .active → silent u y .legHeld ∧ unrung u y) ∧
           (∀ x, l.seats.has x = true → (u.calls.mics.get (seatIndex x)).check = some 100) ∧
           (∀ y ∈ s.calls.legs, y.state = .active → ∀ x, y.seats.has x = true →
             (u.calls.mics.get (seatIndex x)).canceller = .idle ∧
             (l.seats.has x = false → (u.calls.mics.get (seatIndex x)).check = none)) ∧
           ((∃ y ∈ s.calls.legs, y.state = .active) → u.events.flags.getLsbD 11 = true))))

/-- LEG_CLOSE removes a leg: its identifier is free with its reuse count one higher, newer legs move up in order, its
routes are removed or CLOSING, and an ACTIVE leg's microphones leave the uplink (R136, R141, R144). -/
def Obligations.LegCloseRemovesALeg : Prop :=
  ∀ (s : State) (c : Byte) (p : List Byte), s.Accepts .legClose c p → s.calls.Consistent → s.SlotsOrdered →
    let good := p.length = 2 ∧ 1 ≤ u8At p 0 ∧ u8At p 0 ≤ 3
    (¬good → exec (.legClose c p) s = .next (s.declined .legClose c p .badArgument)) ∧
    (good → s.leg (u8At p 0) (p.getD 1 0) = none →
      exec (.legClose c p) s = .next (s.declined .legClose c p .notFound)) ∧
    ∀ l, good → s.leg (u8At p 0) (p.getD 1 0) = some l →
      (c ≠ 0 → c.toNat ≠ l.owner → exec (.legClose c p) s = .next (s.declined .legClose c p .notPermitted)) ∧
      (c = 0 ∨ c.toNat = l.owner →
        let mine := s.routes.filter (fun r => r.source = .leg l.id l.reuse && r.state ≠ .closing)
        let gone := mine.filter (fun r => r.state = .pending || r.state = .suspended)
        let others := fun (rs : List Route) => (rs.filter (fun r => r.source ≠ .leg l.id l.reuse)).map Route.identity
        ∃ u, exec (.legClose c p) s =
            .next (s.served u .legClose c p (u8 (mine.length - gone.length) ++ u8 gone.length)) ∧
          State.TableWork { s with calls.legs := u.calls.legs, calls.reuse := u.calls.reuse } u ∧
          u.calls.legs = (s.calls.legs.filter (fun x => x.id ≠ l.id)).map
            (fun x => if l.order < x.order then { x with order := x.order - 1 } else x) ∧
          tabGet u.calls.reuse (l.id - 1) 0 = tabGet s.calls.reuse (l.id - 1) 0 + 1 ∧
          others u.routes = others s.routes ∧
          (∀ n ∈ u.routes, n.source = .leg l.id l.reuse → n.state = .closing ∧ n.play = none) ∧
          (l.state = .active → ∀ x, l.seats.has x = true →
            (u.calls.mics.get (seatIndex x)).check = none ∧ (u.calls.mics.get (seatIndex x)).canceller = .idle))

/-- LEG_SEATS replaces a leg's speaking seats, on the ACTIVE leg starting the checks of those added and taking those removed
out of the uplink; LEG_UPLINK sets gain and mute; ECHO_TARGET of client 0 the echo target; nothing else (R142, R150, R151).
A leg identifier outside 1 to 3 gives BAD_ARGUMENT, as log entry 23 reads R172. -/
def Obligations.LegSettings : Prop :=
  ∀ (s : State) (c : Byte) (p : List Byte),
    (∀ l, s.Accepts .legSeats c p → p.length = 3 → 1 ≤ u8At p 0 → u8At p 0 ≤ 3 → u8At p 2 ≤ 15 →
      s.leg (u8At p 0) (p.getD 1 0) = some l → c = 0 ∨ c.toNat = l.owner →
        ∃ (u : State) (n : SeatSet), exec (.legSeats c p) s = .next (s.served u .legSeats c p (u8 (u8At p 2))) ∧
          n.sum = u8At p 2 ∧
          u = { s with
            calls.legs := s.calls.legs.map (fun x => if x.id = l.id then { x with seats := n } else x)
            calls.mics := u.calls.mics
            events.flags := u.events.flags } ∧
          (l.state ≠ .active → u.calls.mics = s.calls.mics ∧ u.events.flags = s.events.flags) ∧
          (l.state = .active → ∀ x, (u.calls.mics.get (seatIndex x)) =
            (let m := s.calls.mics.get (seatIndex x)
            if n.has x = true ∧ l.seats.has x = false then { m with check := some 100 }
            else if n.has x = false ∧ l.seats.has x = true then
              { m with
                check := none, canceller := .idle, sustain := 0, divergence := 0, filterEmpty := true, remembered := none }
            else m))) ∧
    (s.Accepts .legSeats c p → p.length ≠ 3 ∨ 16 ≤ u8At p 2 ∨ u8At p 0 = 0 ∨ 4 ≤ u8At p 0 →
      exec (.legSeats c p) s = .next (s.declined .legSeats c p .badArgument)) ∧
    (s.Accepts .legSeats c p → p.length = 3 → 1 ≤ u8At p 0 → u8At p 0 ≤ 3 → u8At p 2 ≤ 15 →
      (s.leg (u8At p 0) (p.getD 1 0) = none → exec (.legSeats c p) s = .next (s.declined .legSeats c p .notFound)) ∧
      ∀ l, s.leg (u8At p 0) (p.getD 1 0) = some l → c ≠ 0 → c.toNat ≠ l.owner →
        exec (.legSeats c p) s = .next (s.declined .legSeats c p .notPermitted)) ∧
    (s.Accepts .legUplink c p → p.length = 4 → 1 ≤ u8At p 0 → u8At p 0 ≤ 3 → u8At p 3 ≤ 1 →
      (s.leg (u8At p 0) (p.getD 1 0) = none → exec (.legUplink c p) s = .next (s.declined .legUplink c p .notFound)) ∧
      ∀ l, s.leg (u8At p 0) (p.getD 1 0) = some l → c ≠ 0 → c.toNat ≠ l.owner →
        exec (.legUplink c p) s = .next (s.declined .legUplink c p .notPermitted)) ∧
    (∀ l, s.Accepts .legUplink c p → p.length = 4 → 1 ≤ u8At p 0 → u8At p 0 ≤ 3 → u8At p 3 ≤ 1 →
      s.leg (u8At p 0) (p.getD 1 0) = some l → c = 0 ∨ c.toNat = l.owner →
        exec (.legUplink c p) s =
          .next (s.served
            { s with
              calls.legs := s.calls.legs.map (fun x =>
                if x.id = l.id then { x with gain := min 96 (u8At p 2), mute := u8At p 3 = 1 } else x) }
            .legUplink c p (u8 (min 96 (u8At p 2)) ++ u8 (u8At p 3)))) ∧
    (s.Accepts .legUplink c p → p.length ≠ 4 ∨ 2 ≤ u8At p 3 ∨ u8At p 0 = 0 ∨ 4 ≤ u8At p 0 →
      exec (.legUplink c p) s = .next (s.declined .legUplink c p .badArgument)) ∧
    (s.Accepts .echoTarget c p →
      let good := p.length = 1 ∧ 10 ≤ u8At p 0 ∧ u8At p 0 ≤ 30
      (good → c = 0 → exec (.echoTarget c p) s =
        .next (s.served { s with calls.echoTarget := u8At p 0 } .echoTarget c p p)) ∧
      (¬good → exec (.echoTarget c p) s = .next (s.declined .echoTarget c p .badArgument)) ∧
      (good → c ≠ 0 → exec (.echoTarget c p) s = .next (s.declined .echoTarget c p .notPermitted)))

/-- A check's end sets the health by the measured power, and only a NORMAL microphone joins the uplink (R143 to R145). An active
window counts toward CONVERGED at the eighth in succession at the target, and away from it at the fourth 6 dB below it,
raising ECHO_STATE; an inactive window counts nothing (R146). A check's end without a check and a window of a canceller that
judges none change nothing (log entry 6); any other window leaves the filter not empty (log entry 31). -/
def Obligations.ChecksAndWindowsAreJudged : Prop :=
  (∀ (s : State) (x : Seat) (power : Int), s.Works →
     let m := s.calls.mics.get (seatIndex x)
     let health : Health := if power < -9000 then .opened else if -2000 < power then .saturated else .normal
     (m.check = none → exec (.micCheckEnd x power) s = .next s) ∧
     (m.check ≠ none → ∃ n : Mic,
       exec (.micCheckEnd x power) s =
         .next { s with
           calls.mics := s.calls.mics.set (seatIndex x) n
           events.flags := if health = .normal then s.events.flags else s.events.flags ||| 1#18 <<< 11 } ∧
       n.health = health ∧ n.check = none ∧
       (health = .normal → s.phone.link = .up →
         n = { m with
           check := none, health := .normal, canceller := .converging, sustain := 0, divergence := 0, filterEmpty := true
           lastMode := s.phone.mode, remembered := none }) ∧
       (health ≠ .normal ∨ s.phone.link ≠ .up → n = { m with check := none, health := health }))) ∧
  (∀ (s : State) (x : Seat) (downlink : Int) (power residual : Nat), s.Works →
     let m := s.calls.mics.get (seatIndex x)
     let atLeast := fun (e : Nat) => residual = 0 ∨ 10 ^ e * residual ^ 10 ≤ power ^ 10
     (m.canceller = .idle ∨ m.canceller = .frozen → exec (.echoWindowEnd x downlink power residual) s = .next s) ∧
     (m.canceller = .converging ∨ m.canceller = .converged → ∃ n : Mic,
       exec (.echoWindowEnd x downlink power residual) s =
         .next { s with
           calls.mics := s.calls.mics.set (seatIndex x) n
           events.flags := if n.canceller = m.canceller then s.events.flags else s.events.flags ||| 1#18 <<< 10 } ∧
       n = { m with
         filterEmpty := false, canceller := n.canceller, sustain := n.sustain, divergence := n.divergence } ∧
       (downlink < -5000 → n = { m with filterEmpty := false }) ∧
       (-5000 ≤ downlink → m.canceller = .converging →
         (atLeast s.calls.echoTarget → m.sustain < 7 → n.canceller = .converging ∧ n.sustain = m.sustain + 1) ∧
         (atLeast s.calls.echoTarget → 7 ≤ m.sustain →
           n.canceller = .converged ∧ n.sustain = 8 ∧ n.divergence = 0) ∧
         (¬atLeast s.calls.echoTarget → n.canceller = .converging ∧ n.sustain = 0)) ∧
       (-5000 ≤ downlink → m.canceller = .converged →
         (atLeast (s.calls.echoTarget - 6) → n.canceller = .converged ∧ n.divergence = 0) ∧
         (¬atLeast (s.calls.echoTarget - 6) → m.divergence < 3 →
           n.canceller = .converged ∧ n.divergence = m.divergence + 1) ∧
         (¬atLeast (s.calls.echoTarget - 6) → 3 ≤ m.divergence →
           n.canceller = .converging ∧ n.sustain = 0 ∧ n.divergence = 0))))

/-- Whatever event or PHONE_RESTART takes the link into UP or out of it, with no retune in progress and no watch waiting: on
entry no CALL route on an ACTIVE leg stays PENDING where its zone has a listener, and each canceller that may runs, restored
in the mode it was frozen in; on exit those routes are PENDING with cause LINK_DOWN (NO_LISTENER where their zone has none),
SUSPENDED or CLOSING, and each running canceller is FROZEN (R5, R9, R10, R132, R148). A cabin-group route sent into CLOSING
from RISING or PLAYING is a reference change: every running canceller is CONVERGING with its counts at 0 and its filter
kept, and a FROZEN one remembers CONVERGING (R147). -/
def Obligations.LinkAndReferenceChangesAct : Prop :=
  (∀ (s t : State) (i : Instr), s.NoRetune → s.WatchSettled →
    (i = .clockDetectPresent ∨ i = .clockDetectAbsent ∨ (∃ rate, i = .rateSpanEnd rate) ∨ (∃ b, i = .partnerWord b) ∨
      i = .silenceTimerExpiry ∨ i = .holdOffExpiry ∨ ∃ c p, i = .phoneRestart c p) →
    exec i s = .next t →
      let moved := ∃ r ∈ s.routes, r.zone.domain = .cabinGroup ∧ s.legIs r .active = true
      (s.phone.link ≠ .up → t.phone.link = .up →
        (∀ n ∈ t.routes, t.legIs n .active = true → n.state = .pending → s.listener n.zone = false) ∧
        ∀ x : Seat,
          let m := s.calls.mics.get (seatIndex x)
          let n := t.calls.mics.get (seatIndex x)
          let fresh : Mic := { m with
            canceller := .converging, sustain := 0, divergence := 0, filterEmpty := true, lastMode := t.phone.mode
            remembered := none }
          (m.canceller = .idle → n = if s.calls.included x = true then fresh else m) ∧
          (m.canceller = .frozen → m.lastMode ≠ t.phone.mode → n = fresh) ∧
          (m.canceller = .frozen → m.lastMode = t.phone.mode →
            n = { m with canceller := n.canceller, sustain := 0, divergence := 0, remembered := none } ∧
            (m.remembered ≠ some true → n.canceller = .converging) ∧
            (m.remembered = some true → n.canceller = .converged ∨ (moved ∧ n.canceller = .converging)))) ∧
      (s.phone.link = .up → t.phone.link ≠ .up →
        (∀ n ∈ t.routes, t.legIs n .active = true →
          (n.state = .pending ∧ n.cause = some (if s.listener n.zone then .linkDown else .noListener)) ∨
            n.state = .suspended ∨ n.state = .closing) ∧
        ∀ x : Seat,
          let m := s.calls.mics.get (seatIndex x)
          let n := t.calls.mics.get (seatIndex x)
          (m.canceller = .idle → n = m) ∧
          (m.canceller = .converging ∨ m.canceller = .converged →
            n = { m with
              canceller := .frozen, sustain := n.sustain, divergence := n.divergence, remembered := n.remembered } ∧
            (m.canceller = .converging → n.remembered = some false) ∧
            (m.canceller = .converged → n.remembered = some true ∨ (moved ∧ n.remembered = some false)) ∧
            (¬moved → n.sustain = m.sustain ∧ n.divergence = m.divergence)))) ∧
  (∀ (s : State) (c : Byte) (p : List Byte) (r : Route), s.Accepts .routeRetire c p → s.SlotsOrdered →
    p.length = 2 → 1 ≤ u8At p 0 → u8At p 0 ≤ 24 → s.routeOf (handleAt p 0) = some r → c = 0 ∨ c.toNat = r.owner →
    r.zone.domain = .cabinGroup → r.state = .rising ∨ r.state = .playing → r.applied ≠ .mute →
      ∃ t, exec (.routeRetire c p) s = .next t ∧ ∀ x : Seat,
        let m := s.calls.mics.get (seatIndex x)
        let n := t.calls.mics.get (seatIndex x)
        (m.canceller = .idle → n = m) ∧
        (m.canceller = .converging ∨ m.canceller = .converged →
          n = { m with canceller := .converging, sustain := 0, divergence := 0 }) ∧
        (m.canceller = .frozen → n = { m with remembered := m.remembered.map (fun _ => false) }) ∧
        (m.canceller = .converged → t.events.flags.getLsbD 10 = true))

/-! ## Jacks, lines, supervision -/

/-- A detect input that disagrees with the jack state starts 50 ms, one that agrees again stops them; at their end the jack
state changes, HEADPHONE is raised, an insertion lowers a step above the safe start to it and leaves no route of the zone
PENDING whose source is available, and a zone left without a listener has no route in RISING, PLAYING or YIELDING (R9, R10,
R110 to R112). A held part records only its pin (log entry 33); an unchanged level and an idle timer change nothing else
(log entry 6). -/
def Obligations.JackDetection : Prop :=
  ∀ (s : State) (o : HpOut),
    (∀ level, s.port.phase = .held ∨ s.hpDet o = level → exec (.hpDetChange o level) s = .next (s.setHpDet o level)) ∧
    (∀ level, s.Works → s.hpDet o ≠ level →
      exec (.hpDetChange o level) s = .next ((s.setHpDet o level).setJack o
        { s.jack o with timer := if level = (s.jack o).present then none else some 50 })) ∧
    (s.Works → (s.jack o).timer = none → exec (.hpDebounceExpiry o) s = .next s) ∧
    (s.Works → (s.jack o).timer ≠ none →
      ∃ t, exec (.hpDebounceExpiry o) s = .next t ∧
        State.TunerWork { s with jacks := t.jacks, mixer := t.mixer } t ∧
        t.jacks = (s.setJack o { present := !(s.jack o).present, timer := none }).jacks ∧
        t.events.flags.getLsbD 12 = true ∧
        (let z := hpZone o
        t.mixer = s.mixer.setZone z { s.mixer.zone z with
          volume :=
            if (s.jack o).present then (s.mixer.zone z).volume else min (s.mixer.zone z).volume s.jacks.safeStart }) ∧
        (s.NoRetune → (s.jack o).present = true → ∀ r ∈ t.routes, r.zone = hpZone o →
          r.state ≠ .rising ∧ r.state ≠ .playing ∧ r.state ≠ .yielding ∧
          (r.state = .pending → r.cause = some .noListener)) ∧
        (s.NoRetune → (s.jack o).present = false → ∀ r ∈ t.routes, r.zone = hpZone o → r.state = .pending →
          s.condition r ≠ .available))

/-- A line pin that disagrees with the line's state starts 20 ms, one that agrees again stops them; at their end a released
line is ASSERTED and, enabled and not silenced by QUIET, opens an ALERT route in each of its zones, as far as slots are
free; an asserted or latched line is RELEASED and its routes are retired; every other route stays the route it is (R29,
R156 to R158). A held part records only its pin (log entry 33); an unchanged level and an idle timer change nothing else
(log entry 6). -/
def Obligations.DirectLines : Prop :=
  ∀ (s : State) (i : Fin 4),
    (∀ level, s.port.phase = .held ∨ s.pins.alertIn.get i = level →
      exec (.alertInChange i level) s = .next { s with pins.alertIn := s.pins.alertIn.set i level }) ∧
    (∀ level, s.Works → s.pins.alertIn.get i ≠ level →
      let l := s.lines.get i
      exec (.alertInChange i level) s = .next
        { s with
          pins.alertIn := s.pins.alertIn.set i level
          lines := s.lines.set i { l with
            timer := if (level = true ↔ l.activeLow = false) ↔ l.state ≠ .released then none else some 20 } }) ∧
    (s.Works → (s.lines.get i).timer = none → exec (.lineDebounceExpiry i) s = .next s) ∧
    (s.Works → s.SlotsOrdered → (s.lines.get i).timer ≠ none → (s.lines.get i).state = .released →
      let l := s.lines.get i
      let sounds := l.enabled = true ∧ (s.sup.state = .quiet → l.quiet = true)
      ∃ t, exec (.lineDebounceExpiry i) s = .next t ∧ State.TableWork { s with lines := t.lines } t ∧
        t.lines = s.lines.set i { l with state := .asserted, timer := none, routes := (t.lines.get i).routes } ∧
        (¬sounds → t = { s with lines := s.lines.set i { l with state := .asserted, timer := none, routes := [] } }) ∧
        (t.routes.filter (fun r => r.handle ∉ (t.lines.get i).routes)).map Route.identity =
          s.routes.map Route.identity ∧
        (sounds → s.routes.length + l.zones.zones.length ≤ 24 →
          ∃ opened : List Route, opened.map Route.handle = (t.lines.get i).routes ∧
            opened.map (fun r => r.zone) = l.zones.zones ∧
            ∀ r ∈ opened, r ∈ t.routes ∧ r.owner = 7 ∧ r.cls = .alert ∧ r.source = .tone l.pattern ∧ r.line = some i) ∧
        (sounds → (t.lines.get i).routes.length = min l.zones.zones.length (24 - s.routes.length)) ∧
        (sounds → 24 < s.routes.length + l.zones.zones.length → t.events.flags.getLsbD 2 = true) ∧
        (sounds → s.routes.length = 24 → l.zones.zones ≠ [] →
          (t.lines.get i).routes = [] ∧ t.events.flags.getLsbD 2 = true)) ∧
    (s.Works → s.SlotsOrdered → (s.lines.get i).timer ≠ none → (s.lines.get i).state ≠ .released →
      let l := s.lines.get i
      ∃ t, exec (.lineDebounceExpiry i) s = .next t ∧ State.TableWork { s with lines := t.lines } t ∧
        t.lines = s.lines.set i { l with state := .released, timer := none, routes := [] } ∧
        (t.routes.filter (fun r => r.handle ∉ l.routes)).map Route.identity =
          (s.routes.filter (fun r => r.handle ∉ l.routes)).map Route.identity ∧
        ∀ r ∈ t.routes, r.handle ∈ l.routes → r.state = .closing)

/-- RESUME of client 0 returns the part from LIMP to RUN, and precedence is judged anew in all three domains: a route that is
not CLOSING is YIELDING or SUSPENDED exactly where it is outranked; in RUN it does nothing. QUIET_EXIT of client 0 leaves
QUIET, the port negotiating if it has a clock and T1 taken for a WAITING watch, and in RUN does nothing (R12, R25, R70, R164,
R167). QUIET_ENTER of client 0 in
RUN without a leg enters QUIET: the watchdog is UNARMED, every route is removed but those of direct lines that work in
QUIET, and the tuners, the watch and the link are given up; with a leg it is refused CALL_PRESENT; in QUIET it does nothing
(R31, R64, R166). -/
def Obligations.LimpAndQuietRequests : Prop :=
  (∀ (s : State) (c : Byte) (p : List Byte),
     (s.Accepts .resume c p →
       (p = [] → c = 0 → s.sup.state = .limp → ∃ u, exec (.resume c p) s = .next (s.served u .resume c p [0#8]) ∧
         State.TunerWork { s with sup.state := .run } u ∧
         (s.NoRetune →
           u.routes = (State.rerunAll { s with sup.state := .run } [.cabinGroup, .hp1, .hp2]).routes ∧
           ∀ r ∈ u.routes, r.state ≠ .closing →
             ((r.state = .yielding ∨ r.state = .suspended) ↔ u.outranked u.routes r = true))) ∧
       (p = [] → c = 0 → s.sup.state ≠ .limp → exec (.resume c p) s = .next (s.served s .resume c p [0#8])) ∧
       (p = [] → c ≠ 0 → exec (.resume c p) s = .next (s.declined .resume c p .notPermitted)) ∧
       (p ≠ [] → exec (.resume c p) s = .next (s.declined .resume c p .badArgument))) ∧
     (s.Accepts .quietExit c p →
       (p = [] → c = 0 → s.sup.state = .quiet → s.QuietBare →
         ∃ u, exec (.quietExit c p) s = .next (s.served u .quietExit c p [0#8]) ∧
           State.TunerWork { s with sup.state := .run, phone := u.phone } u ∧ u.routes = s.routes ∧ u.calls = s.calls ∧
           (s.phone.clock = false → u.phone = s.phone) ∧
           (s.phone.clock = true →
             u.phone.link = .negotiating ∧ u.phone.inUse = s.phone.stored ∧ u.phone.silence = some 300) ∧
           (s.tuners.watch = none → u.tuners = s.tuners ∧ u.stations = s.stations) ∧
           (∀ f, s.tuners.watch = some f →
             u.tuners.watch = some f ∧ u.stations.watch = some (f, .t1) ∧ f ∈ u.stations.inUse ∧
             u.tuners.t1 = { Tuner.free with
               role := .program, frequency := some f, watch := true, activity := .retune, code := u.tuners.t1.code } ∧
             (∀ r, s.stations.find f = some r → u.tuners.t1.code = r.code) ∧
             (s.stations.find f = none → u.tuners.t1.code = none) ∧
             u.tuners.t2.frequency = none ∧ u.tuners.t2.watch = false)) ∧
       (p = [] → c = 0 → s.sup.state ≠ .quiet → exec (.quietExit c p) s = .next (s.served s .quietExit c p [0#8])) ∧
       (p = [] → c ≠ 0 → exec (.quietExit c p) s = .next (s.declined .quietExit c p .notPermitted)) ∧
       (p ≠ [] → exec (.quietExit c p) s = .next (s.declined .quietExit c p .badArgument)))) ∧
  (∀ (s : State) (c : Byte) (p : List Byte), s.Accepts .quietEnter c p → s.SlotsOrdered →
     (p = [] → c = 0 → s.sup.state ≠ .quiet → s.calls.legs = [] →
       let keeps := fun (r : Route) => r.owner = 7 && match r.line with
         | some i => (s.lines.get i).quiet
         | none => false
       ∃ u, exec (.quietEnter c p) s =
           .next (s.served u .quietEnter c p (u8 (s.routes.length - (s.routes.filter keeps).length))) ∧
         u.sup = { s.sup with state := .quiet, left := none } ∧ u.QuietBare ∧
         u.routes.map Route.identity = (s.routes.filter keeps).map Route.identity ∧
         (∀ i, u.lines.get i =
           if (s.lines.get i).state = .asserted ∧ (s.lines.get i).quiet = false then { s.lines.get i with routes := [] }
           else s.lines.get i) ∧
         u.mixer = s.mixer ∧ u.thermal = s.thermal ∧ u.store = s.store ∧ u.port = s.port ∧ u.jacks = s.jacks ∧
         u.stations.records = s.stations.records ∧ u.tuners.policy = s.tuners.policy ∧ u.phone.stored = s.phone.stored) ∧
     (p = [] → c = 0 → s.sup.state = .quiet → exec (.quietEnter c p) s = .next (s.served s .quietEnter c p [0#8])) ∧
     (p = [] → c = 0 → s.sup.state ≠ .quiet → s.calls.legs ≠ [] →
       exec (.quietEnter c p) s = .next (s.declined .quietEnter c p .callPresent)) ∧
     (p = [] → c ≠ 0 → exec (.quietEnter c p) s = .next (s.declined .quietEnter c p .notPermitted)) ∧
     (p ≠ [] → exec (.quietEnter c p) s = .next (s.declined .quietEnter c p .badArgument)))

/-! ## Other transfers and resets -/

/-- A read transfer clocks out the response, then zero bytes, and an UNREAD response read in full is READ and READY falls;
an EMPTY buffer gives zero bytes, and so does a part that does not run; nothing else changes, unless the whole response of
a pending part reset is read, when the reset takes effect (R171, R174, R175). -/
def Obligations.ReadTransfersClockOutTheResponse : Prop :=
  ∀ (s : State) (n : Nat), 1 ≤ n →
    let zeros := List.replicate n 0#8
    (s.port.phase ≠ .running → exec (.readTransfer n) s = .next { s with port.sdo := zeros }) ∧
    (s.port.phase = .running →
      (s.port.buffer = .empty → exec (.readTransfer n) s = .next { s with port.sdo := zeros }) ∧
      (∀ r, s.port.buffer = .read r → s.port.resetPending = none →
        exec (.readTransfer n) s = .next { s with port.sdo := (r ++ zeros).take n }) ∧
      (∀ r, s.port.buffer = .unread r → n < r.length →
        exec (.readTransfer n) s = .next { s with port.sdo := r.take n }) ∧
      (∀ r, s.port.buffer = .unread r → r.length ≤ n → s.port.resetPending = none →
        exec (.readTransfer n) s = .next { s with port.sdo := (r ++ zeros).take n, port.buffer := .read r } ∧
        State.ready { s with port.sdo := (r ++ zeros).take n, port.buffer := .read r } = false) ∧
      (∀ r, s.port.buffer = .unread r → r.length ≤ n → s.port.resetPending ≠ none →
        ∃ t, exec (.readTransfer n) s = .next t ∧ t.port.phase = .startUp ∧ t.port.resetKind = .part ∧
          t.port.buffer = .empty ∧ t.port.resetPending = none ∧ t.port.sdo = (r ++ zeros).take n ∧
          t.tuners.plan = s.tuners.plan))

/-- RESET_N low or the loss of supply holds the part: a pending part reset is dropped, a row write aborted with only its
row changed and left defective; the pins follow; nothing else changes, a held part keeping its records (log entry 33). At
start-up's end the part runs and its start-up response is UNREAD (R174, R175, R186); outside start-up nothing happens (log
entry 6). -/
def Obligations.PartIsHeldAndStartUpEnds : Prop :=
  ∀ s : State,
    (∀ cause : ResetCause, ∃ t, exec (.resetNAssert cause) s = .next t ∧
      t = { s with
        pins := match cause with
          | .resetN => { s.pins with resetN := false }
          | .supplyLost => { s.pins with supply := false }
        port := { s.port with phase := .held, resetPending := none }
        freeCount := t.freeCount
        store := { s.store with rows := t.store.rows, writer := none } } ∧
      t.atnA = false ∧ t.atnB = false ∧ t.ready = false ∧
      (s.store.writer = none → t.store = s.store) ∧
      (∀ w, s.store.writer = some w → (∀ k, k ≠ w.row → t.store.row k = s.store.row k) ∧
        (w.row ≤ 30 → (t.store.row w.row).good = false))) ∧
    (s.port.phase = .startUp → exec .startUpEnd s = .next { s with
      port.phase := .running
      port.buffer := .unread (response 0#8 .ok
        (u8 s.port.resetKind.code ++ u8 (bandCode s.tuners.plan) ++ u8 (defectCount s.store.defect))) }) ∧
    (s.port.phase ≠ .startUp → exec .startUpEnd s = .next s)

/-- RESET_N rising with supply, supply with RESET_N high, and a pending part reset at its time begin start-up, with the
straps given or the plan kept: every block takes its starting values and those of the good rows of the store, and each
enabled line sampled as asserted opens its ALERT routes, in line order (log entry 37). Without supply, with RESET_N low, or
with no part reset pending nothing starts (log entry 6; R6, R35, R39, R43, R64, R89, R110, R120, R137, R156, R162, R174,
R175, R178, R183). A good row's fields are fitted or replaced as their rules say, and a defective row gives its built-in
values, the three rows of the curve together (R35 to R37, R40, R42, R43, R64, R89, R112, R120, R137, R153, R156, R160, R162,
R182, R184; bits 5 to 7 of a stored zone set are log entry 39). -/
def Obligations.StartUpsTakeStartingValues : Prop :=
  (∀ (s : State) (i : Instr) (plan : BandPlan) (kind : ResetKind),
    (i = .resetNRelease plan ∧ s.pins.resetN = false ∧ s.pins.supply = true ∧ kind = .powerOn) ∨
      (i = .supplyApplication plan ∧ s.pins.supply = false ∧ s.pins.resetN = true ∧ kind = .powerOn) ∨
      (i = .partResetTimeout ∧ s.port.phase = .running ∧ s.port.resetPending.isSome = true ∧ kind = .part ∧
        plan = s.tuners.plan) →
    let st := s.abortWrite.store
    let line := fun (n : Fin 4) => loadLine (st.goodRow (5 + n.val / 2)) n (6 * (n.val % 2)) (s.pins.alertIn.get n)
    let sounding := [0, 1, 2, 3].filter (fun n => (line n).enabled && (line n).state = .asserted)
    ∃ t, exec i s = .next t ∧ t.pending = s.pending ∧ t.freeCount = s.abortWrite.freeCount ∧
      t.port = { s.port with
        phase := .startUp, requestBuffer := [], buffer := .empty, rearLock := false, resetPending := none
        resetKind := kind } ∧
      t.pins = (if kind = .part then s.pins else { s.pins with resetN := true, supply := true }) ∧
      (s.store.writer = none → st = s.store) ∧
      t.store = { st with defect := t.store.defect } ∧
      (∀ k : Fin 31, t.store.defect.getLsbD k = !(st.row k).good) ∧
      t.defaultRamp = loadRamps (st.goodRow 1) ∧ t.alertMax = loadAlertMax (st.goodRow 0) ∧
      t.mixer = st.loadMixer ∧ t.mixer.InRange ∧
      (∀ (n : Fin 20) (z : Zone), z.domain = .cabinGroup → t.mixer.weight z n = match z with
        | .cabin => weightFor t.mixer.cabin.balance t.mixer.cabin.fade (t.mixer.map.get n)
        | .front => weightFor t.mixer.front.balance 0 (t.mixer.map.get n)
        | _ => 0) ∧
      t.thermal = loadThermal (st.goodRow 2) ∧ t.thermal.derate = 0 ∧ t.thermal.recovery = 0 ∧
      t.tuners =
        { plan := plan, t1 := .free, t2 := .free, link := .none, interval := none, watch := none, waiting := []
          policy := loadPolicy (st.goodRow 3), report := .never } ∧
      t.stations = Stations.initial plan (st.goodRow 3) ∧
      t.jacks = { j1 := ⟨s.pins.hpDet1, none⟩, j2 := ⟨s.pins.hpDet2, none⟩, safeStart := loadSafeStart (st.goodRow 0) } ∧
      t.phone = Phone.initial (loadModes (st.goodRow 4)) ∧
      t.calls.legs = [] ∧ (∀ k, tabGet t.calls.reuse k 0 = 0) ∧ (∀ n, t.calls.mics.get n = .initial) ∧
      t.calls.echoTarget = loadEchoTarget (st.goodRow 4) ∧ t.calls.defaultGain = loadMicGain (st.goodRow 4) ∧
      (∀ n : Fin 16, t.tones.get n = loadPattern (st.goodRow (7 + n))) ∧
      t.sup = { state := .run, period := loadPeriod (st.goodRow 0), left := none
                limpVolume := loadLimpVolume (st.goodRow 0) } ∧
      (∀ k, tabGet t.reuse k 0 = 0) ∧
      (∀ n, t.lines.get n = { line n with routes := (t.lines.get n).routes } ∧ (t.lines.get n).timer = none ∧
        (n ∉ sounding → (t.lines.get n).routes = []) ∧
        (n ∈ sounding → (t.lines.get n).routes = (t.routes.filter (fun r => r.line = some n)).map Route.handle)) ∧
      (t.routes.map (fun r => (r.line, r.zone)) =
        sounding.flatMap (fun n => (line n).zones.zones.map (fun z => (some n, z)))) ∧
      (t.routes.map (fun r => r.slot) = List.range' 1 t.routes.length) ∧
      (∀ r ∈ t.routes, r.reuse = 0 ∧ r.owner = 7 ∧ r.cls = .alert ∧
        ∃ n, r.line = some n ∧ r.source = .tone (line n).pattern ∧ r.level = (line n).level) ∧
      t.events.station = false ∧ t.events.lineB = 0x00E00#18 ∧ t.events.enable = 0x3FFFF#18 ∧
      (t.events.flags.getLsbD 16 = true ↔ t.store.defect ≠ 0) ∧
      (sounding = [] → t.events.mask = 0 ∧ t.events.flags = (if t.store.defect = 0 then 0#18 else 1#18 <<< 16))) ∧
  (∀ (s : State) (plan : BandPlan),
    (s.pins.resetN = true → exec (.resetNRelease plan) s = .next s) ∧
    (s.pins.supply = true → exec (.supplyApplication plan) s = .next s) ∧
    (s.pins.supply = false → exec (.resetNRelease plan) s =
      .next (if s.pins.resetN then s else { s with pins.resetN := true })) ∧
    (s.pins.resetN = false → exec (.supplyApplication plan) s =
      .next (if s.pins.supply then s else { s with pins.supply := true })) ∧
    (s.port.phase ≠ .running ∨ s.port.resetPending = none → exec .partResetTimeout s = .next s)) ∧
  (∀ p : List Byte,
    let b := u8At p
    let row := some p
    (loadPeriod none = .ms1000 ∧ loadPeriod row = match b 0 with
      | 0 => .off
      | 1 => .ms250
      | 2 => .ms500
      | 4 => .ms2000
      | _ => .ms1000) ∧
    (loadLimpVolume none = 20 ∧ loadLimpVolume row = min 40 (b 1)) ∧
    (loadSafeStart none = 15 ∧ loadSafeStart row = min 40 (b 2)) ∧
    (loadAlertMax none = 30 ∧ loadAlertMax row = max 1 (min 120 (b 7))) ∧
    (let ramp := fun (i : Nat) (own : RampClass) => match b i with
      | 1 => .fast
      | 2 => .normal
      | 3 => .slow
      | _ => own
    loadRamps none = ⟨.fast, .normal, .normal, .normal, .slow⟩ ∧
      loadRamps row = ⟨ramp 3 .fast, ramp 4 .normal, ramp 5 .normal, ramp 6 .normal, ramp 7 .slow⟩) ∧
    (loadThermal none = ⟨.internal, 25, 25, 95, 5, 0, 0, 0⟩ ∧
      loadThermal row =
        ⟨if b 0 = 1 then .external else .internal, 25, 25, max 60 (min 120 (b 1)), max 1 (min 15 (b 2)), 0, 0, 0⟩) ∧
    (loadPolicy none = ⟨true, false, .interleaved, 4, 6⟩ ∧
      loadPolicy row =
        ⟨b 0 ≠ 0, b 1 = 1, if b 2 = 0 then .off else if b 2 = 2 then .full else .interleaved, max 1 (min 60 (b 3)),
          min 30 (b 7)⟩) ∧
    (∀ plan, (Stations.initial plan none).bLow = 20 ∧ (Stations.initial plan none).bHigh = 40 ∧
      (Stations.initial plan none).retire = 3 ∧ (Stations.initial plan row).bLow = min 120 (b 4) ∧
      (Stations.initial plan row).bHigh = max (min 120 (b 4)) (min 120 (b 5)) ∧
      (Stations.initial plan row).retire = max 1 (min 15 (b 6)) ∧ (Stations.initial plan row).records = [] ∧
      (Stations.initial plan row).cursor = (match plan with
        | .a => 8750
        | .b => 8790
        | .c => 7600
        | .d => 8750) ∧
      (Stations.initial plan row).round = 0 ∧ (Stations.initial plan row).follow = ⟨false, false, false, false, false⟩) ∧
    (loadModes none = ⟨true, true, true⟩ ∧ loadModes row =
      if b 0 = 0 ∨ 7 < b 0 then ⟨true, true, true⟩
      else ⟨b 0 % 2 = 1, b 0 / 2 % 2 = 1, b 0 / 4 % 2 = 1⟩) ∧
    (loadEchoTarget none = 18 ∧ loadEchoTarget row = max 10 (min 30 (b 1))) ∧
    (loadMicGain none = 24 ∧ loadMicGain row = min 96 (b 2)) ∧
    (∀ (n base : Nat) (pin : Bool),
      let asserted := fun (low : Bool) => if pin = low then LineState.released else .asserted
      loadLine none n base pin = ⟨true, true, n, ⟨true, false, false⟩, 0, false, asserted true, none, []⟩ ∧
      let low : Bool := b (base + 1) ≠ 0
      loadLine row n base pin =
        ⟨b base ≠ 0, low, if 15 < b (base + 2) then n else b (base + 2),
          ⟨b (base + 3) % 2 = 1, b (base + 3) / 2 % 2 = 1, b (base + 3) / 4 % 2 = 1⟩,
          -((min 240 (b (base + 4)) : Nat) : Int), b (base + 5) ≠ 0, asserted low, none, []⟩) ∧
    (let tone := fun (i : Nat) =>
      let f := 256 * b i + b (i + 1)
      (⟨if f = 0 then 0 else max 200 (min 4000 (10 * f)), if b (i + 2) = 0 then 10 else 10 * b (i + 2),
        min 160 (b (i + 3))⟩ : Segment)
    loadPattern none = ⟨⟨880, 120, 0⟩, ⟨0, 40, 0⟩, ⟨660, 120, 8⟩, 720, 0⟩ ∧
      loadPattern row = ⟨tone 0, tone 4, tone 8, 10 * b 12, b 13⟩)) ∧
  (∀ st : Store,
    let m := st.loadMixer
    let builtIn : List Nat :=
      [48, 49, 48, 49, 48, 49, 50, 20, 21, 20, 21, 20, 21, 26, 112, 113, 48, 49, 18, 22]
    (∀ k, st.goodRow k = if (st.row k).check = crc8 (st.row k).bytes then some (st.row k).bytes else none) ∧
    (st.goodRow 0 = none → m.hp1.cap = 32 ∧ m.hp2.cap = 32 ∧ m.alertFloor = -120) ∧
    (∀ p, st.goodRow 0 = some p → m.hp1.cap = min 40 (u8At p 3) ∧ m.hp2.cap = min 40 (u8At p 4) ∧
      m.alertFloor = max (-240) (min 0 (i16At p 5))) ∧
    (st.goodRow 1 = none → m.depths = ⟨40, 24, 48⟩) ∧
    (∀ p, st.goodRow 1 = some p → m.depths = ⟨min 240 (u8At p 0), min 240 (u8At p 1), min 240 (u8At p 2)⟩) ∧
    (st.goodRow 29 = none → m.cabin.volume = 15 ∧ m.front.volume = 15 ∧ m.driver.volume = 15 ∧
      m.hp1.volume = min m.hp1.cap 15 ∧ m.hp2.volume = min m.hp2.cap 15 ∧
      m.cabin.balance = 0 ∧ m.cabin.fade = 0 ∧ m.front.balance = 0) ∧
    (∀ p, st.goodRow 29 = some p → m.cabin.volume = min 40 (u8At p 0) ∧ m.front.volume = min 40 (u8At p 1) ∧
      m.driver.volume = min 40 (u8At p 2) ∧ m.hp1.volume = min m.hp1.cap (u8At p 3) ∧
      m.hp2.volume = min m.hp2.cap (u8At p 4) ∧ m.cabin.balance = max (-10) (min 10 (i8At p 5)) ∧
      m.cabin.fade = max (-10) (min 10 (i8At p 6)) ∧ m.front.balance = max (-10) (min 10 (i8At p 7))) ∧
    (st.goodRow 30 = none → m.hp1.follow = false ∧ m.hp2.follow = false) ∧
    (∀ p, st.goodRow 30 = some p → (m.hp1.follow = true ↔ u8At p 0 ≠ 0) ∧ (m.hp2.follow = true ↔ u8At p 1 ≠ 0)) ∧
    (∀ v, v ≤ 40 → tabGet m.curve v 0 = match st.goodRow 23, st.goodRow 24, st.goodRow 25 with
      | some p, some q, some r => if v < 15 then u8At p v else if v < 30 then u8At q (v - 15) else u8At r (v - 30)
      | _, _, _ => if v = 0 then 0 else if 21 ≤ v then 3 * (40 - v) else 60 + 5 * (20 - v)) ∧
    (∀ n : Fin 20,
      let own := builtIn.getD n 0
      let b := match st.goodRow (26 + n / 7) with
        | some p =>
          let x := u8At p (n % 7)
          if 127 < x ∨ x % 4 = 3 ∨ x / 4 % 4 = 3 then own else x
        | none => own
      m.map.get n =
        { side := if b % 4 = 0 then .left else if b % 4 = 1 then .right else .centre
          row := if b / 4 % 4 = 0 then .front else if b / 4 % 4 = 1 then .rear else .none
          member := ⟨b / 16 % 2 = 1, b / 32 % 2 = 1, b / 64 % 2 = 1⟩ }))

/-! ## Queries -/

/-- LEG_GET, DIRECT_LINE_GET, STORE_READ and PART_INFO report what their rules list and change nothing but the answer;
STORE_READ is refused while a row is written. All four are taken in every supervision state, the last two not from client 2
under the lock (R152, R161, R176, R187). -/
def Obligations.LegLineStoreAndPartQueries : Prop :=
  ∀ (s : State) (c : Byte) (p : List Byte),
    (s.takesRequests = true → p.length ≤ 60 → c.toNat ≤ 5 →
      s.Accepts .legGet c p ∧ s.Accepts .directLineGet c p ∧
      (c ≠ 2 ∨ s.port.rearLock = false → s.Accepts .storeRead c p ∧ s.Accepts .partInfo c p) ∧
      (c = 2 → s.port.rearLock = true →
        exec (.storeRead c p) s = .next (s.declined .storeRead c p .notPermitted) ∧
        exec (.partInfo c p) s = .next (s.declined .partInfo c p .notPermitted))) ∧
    (s.Accepts .legGet c p →
      let common := [Seat.driver, .passenger, .rearLeft, .rearRight].flatMap (fun x =>
          let m := s.calls.mics.get (seatIndex x)
          u8 m.health.code ++ flag m.check.isSome ++ flag (s.calls.included x) ++ u8 m.canceller.code ++ u8 m.sustain ++
            u8 m.divergence ++ u8 (modeCode m.lastMode) ++
            (match m.remembered with
              | none => [0#8]
              | some false => [1#8]
              | some true => [2#8])) ++
        u8 s.calls.echoTarget ++ flag s.uplinkRuns
      (p.length = 2 → u8At p 0 = 0 →
        exec (.legGet c p) s = .next (s.served s .legGet c p
          (u8 s.calls.legs.length ++ s.calls.legs.flatMap (fun l => u8 l.id ++ [l.reuse] ++ u8 l.state.code) ++ common))) ∧
      (∀ l, p.length = 2 → 1 ≤ u8At p 0 → u8At p 0 ≤ 3 → s.leg (u8At p 0) (p.getD 1 0) = some l →
        exec (.legGet c p) s = .next (s.served s .legGet c p
          (u8 l.id ++ [l.reuse] ++ u8 l.owner ++ u8 l.state.code ++ u8 l.ring ++ u8 l.seats.sum ++ u8 l.gain ++
            flag l.mute ++ u8 l.order ++ common))) ∧
      (p.length = 2 → 1 ≤ u8At p 0 → u8At p 0 ≤ 3 → s.leg (u8At p 0) (p.getD 1 0) = none →
        exec (.legGet c p) s = .next (s.declined .legGet c p .notFound)) ∧
      (p.length ≠ 2 ∨ 4 ≤ u8At p 0 → exec (.legGet c p) s = .next (s.declined .legGet c p .badArgument))) ∧
    (s.Accepts .directLineGet c p →
      (∀ i : Fin 4, p = [BitVec.ofNat 8 i] →
        let l := s.lines.get i
        exec (.directLineGet c p) s = .next (s.served s .directLineGet c p
          (p ++ flag l.enabled ++ flag l.activeLow ++ u8 l.pattern ++ u8 l.zones.sum ++ i16 l.level ++ flag l.quiet ++
            u8 l.state.code ++ flag l.timer.isSome ++ u8 l.routes.length ++
            l.routes.flatMap (fun h => u8 h.slot ++ [h.reuse])))) ∧
      (p.length ≠ 1 ∨ 4 ≤ u8At p 0 →
        exec (.directLineGet c p) s = .next (s.declined .directLineGet c p .badArgument))) ∧
    (s.Accepts .storeRead c p →
      (p.length = 1 → u8At p 0 ≤ 30 → s.store.writer = none →
        let r := s.store.row (u8At p 0)
        exec (.storeRead c p) s = .next (s.served s .storeRead c p
          (p ++ r.data.toList ++ [r.check] ++ (if r.check = crc8 r.data.toList then [1#8] else [0#8]) ++
            flag (s.store.defect.getLsbD (u8At p 0)) ++ u16 s.store.writeCount))) ∧
      (p.length = 1 → u8At p 0 ≤ 30 → s.store.writer ≠ none →
        exec (.storeRead c p) s = .next (s.declined .storeRead c p .storeBusy)) ∧
      (p.length ≠ 1 ∨ 31 ≤ u8At p 0 → exec (.storeRead c p) s = .next (s.declined .storeRead c p .badArgument))) ∧
    (s.Accepts .partInfo c p →
      (p = [] →
        exec (.partInfo c p) s = .next (s.served s .partInfo c p
          ([0x5A#8, 0x08#8, 1#8] ++ u8 (bandCode s.tuners.plan) ++ u8 s.port.resetKind.code ++ u8 s.sup.state.code ++
            flag s.port.rearLock ++ u16 s.store.writeCount ++ u32 s.store.defect.toNat ++ u8 s.port.buffer.code))) ∧
      (p ≠ [] → exec (.partInfo c p) s = .next (s.declined .partInfo c p .badArgument)))
end

