-- ==== Sys2Proof/Laws/State.lean ====
section
/-! SUPPORT. One lemma per field per plain update of the state: what an update leaves alone. -/

namespace Sys2Proof.Machine

variable (s : State)

/-! ### raise -/

@[simp] theorem State.raise_pending (e : EventSource) : (s.raise e).pending = s.pending := rfl
@[simp] theorem State.raise_freeCount (e : EventSource) : (s.raise e).freeCount = s.freeCount := rfl
@[simp] theorem State.raise_pins (e : EventSource) : (s.raise e).pins = s.pins := rfl
@[simp] theorem State.raise_port (e : EventSource) : (s.raise e).port = s.port := rfl
@[simp] theorem State.raise_routes (e : EventSource) : (s.raise e).routes = s.routes := rfl
@[simp] theorem State.raise_reuse (e : EventSource) : (s.raise e).reuse = s.reuse := rfl
@[simp] theorem State.raise_defaultRamp (e : EventSource) : (s.raise e).defaultRamp = s.defaultRamp := rfl
@[simp] theorem State.raise_alertMax (e : EventSource) : (s.raise e).alertMax = s.alertMax := rfl
@[simp] theorem State.raise_mixer (e : EventSource) : (s.raise e).mixer = s.mixer := rfl
@[simp] theorem State.raise_thermal (e : EventSource) : (s.raise e).thermal = s.thermal := rfl
@[simp] theorem State.raise_tuners (e : EventSource) : (s.raise e).tuners = s.tuners := rfl
@[simp] theorem State.raise_stations (e : EventSource) : (s.raise e).stations = s.stations := rfl
@[simp] theorem State.raise_jacks (e : EventSource) : (s.raise e).jacks = s.jacks := rfl
@[simp] theorem State.raise_phone (e : EventSource) : (s.raise e).phone = s.phone := rfl
@[simp] theorem State.raise_calls (e : EventSource) : (s.raise e).calls = s.calls := rfl
@[simp] theorem State.raise_tones (e : EventSource) : (s.raise e).tones = s.tones := rfl
@[simp] theorem State.raise_lines (e : EventSource) : (s.raise e).lines = s.lines := rfl
@[simp] theorem State.raise_sup (e : EventSource) : (s.raise e).sup = s.sup := rfl
@[simp] theorem State.raise_store (e : EventSource) : (s.raise e).store = s.store := rfl

/-! ### raiseIf -/

@[simp] theorem State.raiseIf_pending (c : Bool) (e : EventSource) : (s.raiseIf c e).pending = s.pending := by cases c <;> rfl
@[simp] theorem State.raiseIf_freeCount (c : Bool) (e : EventSource) : (s.raiseIf c e).freeCount = s.freeCount := by cases c <;> rfl
@[simp] theorem State.raiseIf_pins (c : Bool) (e : EventSource) : (s.raiseIf c e).pins = s.pins := by cases c <;> rfl
@[simp] theorem State.raiseIf_port (c : Bool) (e : EventSource) : (s.raiseIf c e).port = s.port := by cases c <;> rfl
@[simp] theorem State.raiseIf_routes (c : Bool) (e : EventSource) : (s.raiseIf c e).routes = s.routes := by cases c <;> rfl
@[simp] theorem State.raiseIf_reuse (c : Bool) (e : EventSource) : (s.raiseIf c e).reuse = s.reuse := by cases c <;> rfl
@[simp] theorem State.raiseIf_defaultRamp (c : Bool) (e : EventSource) : (s.raiseIf c e).defaultRamp = s.defaultRamp := by cases c <;> rfl
@[simp] theorem State.raiseIf_alertMax (c : Bool) (e : EventSource) : (s.raiseIf c e).alertMax = s.alertMax := by cases c <;> rfl
@[simp] theorem State.raiseIf_mixer (c : Bool) (e : EventSource) : (s.raiseIf c e).mixer = s.mixer := by cases c <;> rfl
@[simp] theorem State.raiseIf_thermal (c : Bool) (e : EventSource) : (s.raiseIf c e).thermal = s.thermal := by cases c <;> rfl
@[simp] theorem State.raiseIf_tuners (c : Bool) (e : EventSource) : (s.raiseIf c e).tuners = s.tuners := by cases c <;> rfl
@[simp] theorem State.raiseIf_stations (c : Bool) (e : EventSource) : (s.raiseIf c e).stations = s.stations := by cases c <;> rfl
@[simp] theorem State.raiseIf_jacks (c : Bool) (e : EventSource) : (s.raiseIf c e).jacks = s.jacks := by cases c <;> rfl
@[simp] theorem State.raiseIf_phone (c : Bool) (e : EventSource) : (s.raiseIf c e).phone = s.phone := by cases c <;> rfl
@[simp] theorem State.raiseIf_calls (c : Bool) (e : EventSource) : (s.raiseIf c e).calls = s.calls := by cases c <;> rfl
@[simp] theorem State.raiseIf_tones (c : Bool) (e : EventSource) : (s.raiseIf c e).tones = s.tones := by cases c <;> rfl
@[simp] theorem State.raiseIf_lines (c : Bool) (e : EventSource) : (s.raiseIf c e).lines = s.lines := by cases c <;> rfl
@[simp] theorem State.raiseIf_sup (c : Bool) (e : EventSource) : (s.raiseIf c e).sup = s.sup := by cases c <;> rfl
@[simp] theorem State.raiseIf_store (c : Bool) (e : EventSource) : (s.raiseIf c e).store = s.store := by cases c <;> rfl

/-! ### markSlots -/

@[simp] theorem State.markSlots_pending (m : BitVec 24) : (s.markSlots m).pending = s.pending := by unfold State.markSlots; split <;> rfl
@[simp] theorem State.markSlots_freeCount (m : BitVec 24) : (s.markSlots m).freeCount = s.freeCount := by unfold State.markSlots; split <;> rfl
@[simp] theorem State.markSlots_pins (m : BitVec 24) : (s.markSlots m).pins = s.pins := by unfold State.markSlots; split <;> rfl
@[simp] theorem State.markSlots_port (m : BitVec 24) : (s.markSlots m).port = s.port := by unfold State.markSlots; split <;> rfl
@[simp] theorem State.markSlots_routes (m : BitVec 24) : (s.markSlots m).routes = s.routes := by unfold State.markSlots; split <;> rfl
@[simp] theorem State.markSlots_reuse (m : BitVec 24) : (s.markSlots m).reuse = s.reuse := by unfold State.markSlots; split <;> rfl
@[simp] theorem State.markSlots_defaultRamp (m : BitVec 24) : (s.markSlots m).defaultRamp = s.defaultRamp := by unfold State.markSlots; split <;> rfl
@[simp] theorem State.markSlots_alertMax (m : BitVec 24) : (s.markSlots m).alertMax = s.alertMax := by unfold State.markSlots; split <;> rfl
@[simp] theorem State.markSlots_mixer (m : BitVec 24) : (s.markSlots m).mixer = s.mixer := by unfold State.markSlots; split <;> rfl
@[simp] theorem State.markSlots_thermal (m : BitVec 24) : (s.markSlots m).thermal = s.thermal := by unfold State.markSlots; split <;> rfl
@[simp] theorem State.markSlots_tuners (m : BitVec 24) : (s.markSlots m).tuners = s.tuners := by unfold State.markSlots; split <;> rfl
@[simp] theorem State.markSlots_stations (m : BitVec 24) : (s.markSlots m).stations = s.stations := by unfold State.markSlots; split <;> rfl
@[simp] theorem State.markSlots_jacks (m : BitVec 24) : (s.markSlots m).jacks = s.jacks := by unfold State.markSlots; split <;> rfl
@[simp] theorem State.markSlots_phone (m : BitVec 24) : (s.markSlots m).phone = s.phone := by unfold State.markSlots; split <;> rfl
@[simp] theorem State.markSlots_calls (m : BitVec 24) : (s.markSlots m).calls = s.calls := by unfold State.markSlots; split <;> rfl
@[simp] theorem State.markSlots_tones (m : BitVec 24) : (s.markSlots m).tones = s.tones := by unfold State.markSlots; split <;> rfl
@[simp] theorem State.markSlots_lines (m : BitVec 24) : (s.markSlots m).lines = s.lines := by unfold State.markSlots; split <;> rfl
@[simp] theorem State.markSlots_sup (m : BitVec 24) : (s.markSlots m).sup = s.sup := by unfold State.markSlots; split <;> rfl
@[simp] theorem State.markSlots_store (m : BitVec 24) : (s.markSlots m).store = s.store := by unfold State.markSlots; split <;> rfl

/-! ### stationChanged -/

@[simp] theorem State.stationChanged_pending : (s.stationChanged).pending = s.pending := rfl
@[simp] theorem State.stationChanged_freeCount : (s.stationChanged).freeCount = s.freeCount := rfl
@[simp] theorem State.stationChanged_pins : (s.stationChanged).pins = s.pins := rfl
@[simp] theorem State.stationChanged_port : (s.stationChanged).port = s.port := rfl
@[simp] theorem State.stationChanged_routes : (s.stationChanged).routes = s.routes := rfl
@[simp] theorem State.stationChanged_reuse : (s.stationChanged).reuse = s.reuse := rfl
@[simp] theorem State.stationChanged_defaultRamp : (s.stationChanged).defaultRamp = s.defaultRamp := rfl
@[simp] theorem State.stationChanged_alertMax : (s.stationChanged).alertMax = s.alertMax := rfl
@[simp] theorem State.stationChanged_mixer : (s.stationChanged).mixer = s.mixer := rfl
@[simp] theorem State.stationChanged_thermal : (s.stationChanged).thermal = s.thermal := rfl
@[simp] theorem State.stationChanged_tuners : (s.stationChanged).tuners = s.tuners := rfl
@[simp] theorem State.stationChanged_stations : (s.stationChanged).stations = s.stations := rfl
@[simp] theorem State.stationChanged_jacks : (s.stationChanged).jacks = s.jacks := rfl
@[simp] theorem State.stationChanged_phone : (s.stationChanged).phone = s.phone := rfl
@[simp] theorem State.stationChanged_calls : (s.stationChanged).calls = s.calls := rfl
@[simp] theorem State.stationChanged_tones : (s.stationChanged).tones = s.tones := rfl
@[simp] theorem State.stationChanged_lines : (s.stationChanged).lines = s.lines := rfl
@[simp] theorem State.stationChanged_sup : (s.stationChanged).sup = s.sup := rfl
@[simp] theorem State.stationChanged_store : (s.stationChanged).store = s.store := rfl

/-! ### setTuner -/

@[simp] theorem State.setTuner_pending (x : TunerId) (t : Tuner) : (s.setTuner x t).pending = s.pending := by cases x <;> rfl
@[simp] theorem State.setTuner_freeCount (x : TunerId) (t : Tuner) : (s.setTuner x t).freeCount = s.freeCount := by cases x <;> rfl
@[simp] theorem State.setTuner_pins (x : TunerId) (t : Tuner) : (s.setTuner x t).pins = s.pins := by cases x <;> rfl
@[simp] theorem State.setTuner_port (x : TunerId) (t : Tuner) : (s.setTuner x t).port = s.port := by cases x <;> rfl
@[simp] theorem State.setTuner_routes (x : TunerId) (t : Tuner) : (s.setTuner x t).routes = s.routes := by cases x <;> rfl
@[simp] theorem State.setTuner_reuse (x : TunerId) (t : Tuner) : (s.setTuner x t).reuse = s.reuse := by cases x <;> rfl
@[simp] theorem State.setTuner_defaultRamp (x : TunerId) (t : Tuner) : (s.setTuner x t).defaultRamp = s.defaultRamp := by cases x <;> rfl
@[simp] theorem State.setTuner_alertMax (x : TunerId) (t : Tuner) : (s.setTuner x t).alertMax = s.alertMax := by cases x <;> rfl
@[simp] theorem State.setTuner_mixer (x : TunerId) (t : Tuner) : (s.setTuner x t).mixer = s.mixer := by cases x <;> rfl
@[simp] theorem State.setTuner_thermal (x : TunerId) (t : Tuner) : (s.setTuner x t).thermal = s.thermal := by cases x <;> rfl
@[simp] theorem State.setTuner_stations (x : TunerId) (t : Tuner) : (s.setTuner x t).stations = s.stations := by cases x <;> rfl
@[simp] theorem State.setTuner_jacks (x : TunerId) (t : Tuner) : (s.setTuner x t).jacks = s.jacks := by cases x <;> rfl
@[simp] theorem State.setTuner_phone (x : TunerId) (t : Tuner) : (s.setTuner x t).phone = s.phone := by cases x <;> rfl
@[simp] theorem State.setTuner_calls (x : TunerId) (t : Tuner) : (s.setTuner x t).calls = s.calls := by cases x <;> rfl
@[simp] theorem State.setTuner_tones (x : TunerId) (t : Tuner) : (s.setTuner x t).tones = s.tones := by cases x <;> rfl
@[simp] theorem State.setTuner_lines (x : TunerId) (t : Tuner) : (s.setTuner x t).lines = s.lines := by cases x <;> rfl
@[simp] theorem State.setTuner_sup (x : TunerId) (t : Tuner) : (s.setTuner x t).sup = s.sup := by cases x <;> rfl
@[simp] theorem State.setTuner_events (x : TunerId) (t : Tuner) : (s.setTuner x t).events = s.events := by cases x <;> rfl
@[simp] theorem State.setTuner_store (x : TunerId) (t : Tuner) : (s.setTuner x t).store = s.store := by cases x <;> rfl

/-! ### setJack -/

@[simp] theorem State.setJack_pending (o : HpOut) (j : Jack) : (s.setJack o j).pending = s.pending := by cases o <;> rfl
@[simp] theorem State.setJack_freeCount (o : HpOut) (j : Jack) : (s.setJack o j).freeCount = s.freeCount := by cases o <;> rfl
@[simp] theorem State.setJack_pins (o : HpOut) (j : Jack) : (s.setJack o j).pins = s.pins := by cases o <;> rfl
@[simp] theorem State.setJack_port (o : HpOut) (j : Jack) : (s.setJack o j).port = s.port := by cases o <;> rfl
@[simp] theorem State.setJack_routes (o : HpOut) (j : Jack) : (s.setJack o j).routes = s.routes := by cases o <;> rfl
@[simp] theorem State.setJack_reuse (o : HpOut) (j : Jack) : (s.setJack o j).reuse = s.reuse := by cases o <;> rfl
@[simp] theorem State.setJack_defaultRamp (o : HpOut) (j : Jack) : (s.setJack o j).defaultRamp = s.defaultRamp := by cases o <;> rfl
@[simp] theorem State.setJack_alertMax (o : HpOut) (j : Jack) : (s.setJack o j).alertMax = s.alertMax := by cases o <;> rfl
@[simp] theorem State.setJack_mixer (o : HpOut) (j : Jack) : (s.setJack o j).mixer = s.mixer := by cases o <;> rfl
@[simp] theorem State.setJack_thermal (o : HpOut) (j : Jack) : (s.setJack o j).thermal = s.thermal := by cases o <;> rfl
@[simp] theorem State.setJack_tuners (o : HpOut) (j : Jack) : (s.setJack o j).tuners = s.tuners := by cases o <;> rfl
@[simp] theorem State.setJack_stations (o : HpOut) (j : Jack) : (s.setJack o j).stations = s.stations := by cases o <;> rfl
@[simp] theorem State.setJack_phone (o : HpOut) (j : Jack) : (s.setJack o j).phone = s.phone := by cases o <;> rfl
@[simp] theorem State.setJack_calls (o : HpOut) (j : Jack) : (s.setJack o j).calls = s.calls := by cases o <;> rfl
@[simp] theorem State.setJack_tones (o : HpOut) (j : Jack) : (s.setJack o j).tones = s.tones := by cases o <;> rfl
@[simp] theorem State.setJack_lines (o : HpOut) (j : Jack) : (s.setJack o j).lines = s.lines := by cases o <;> rfl
@[simp] theorem State.setJack_sup (o : HpOut) (j : Jack) : (s.setJack o j).sup = s.sup := by cases o <;> rfl
@[simp] theorem State.setJack_events (o : HpOut) (j : Jack) : (s.setJack o j).events = s.events := by cases o <;> rfl
@[simp] theorem State.setJack_store (o : HpOut) (j : Jack) : (s.setJack o j).store = s.store := by cases o <;> rfl

/-! ### setHpDet -/

@[simp] theorem State.setHpDet_pending (o : HpOut) (b : Bool) : (s.setHpDet o b).pending = s.pending := by cases o <;> rfl
@[simp] theorem State.setHpDet_freeCount (o : HpOut) (b : Bool) : (s.setHpDet o b).freeCount = s.freeCount := by cases o <;> rfl
@[simp] theorem State.setHpDet_port (o : HpOut) (b : Bool) : (s.setHpDet o b).port = s.port := by cases o <;> rfl
@[simp] theorem State.setHpDet_routes (o : HpOut) (b : Bool) : (s.setHpDet o b).routes = s.routes := by cases o <;> rfl
@[simp] theorem State.setHpDet_reuse (o : HpOut) (b : Bool) : (s.setHpDet o b).reuse = s.reuse := by cases o <;> rfl
@[simp] theorem State.setHpDet_defaultRamp (o : HpOut) (b : Bool) : (s.setHpDet o b).defaultRamp = s.defaultRamp := by cases o <;> rfl
@[simp] theorem State.setHpDet_alertMax (o : HpOut) (b : Bool) : (s.setHpDet o b).alertMax = s.alertMax := by cases o <;> rfl
@[simp] theorem State.setHpDet_mixer (o : HpOut) (b : Bool) : (s.setHpDet o b).mixer = s.mixer := by cases o <;> rfl
@[simp] theorem State.setHpDet_thermal (o : HpOut) (b : Bool) : (s.setHpDet o b).thermal = s.thermal := by cases o <;> rfl
@[simp] theorem State.setHpDet_tuners (o : HpOut) (b : Bool) : (s.setHpDet o b).tuners = s.tuners := by cases o <;> rfl
@[simp] theorem State.setHpDet_stations (o : HpOut) (b : Bool) : (s.setHpDet o b).stations = s.stations := by cases o <;> rfl
@[simp] theorem State.setHpDet_jacks (o : HpOut) (b : Bool) : (s.setHpDet o b).jacks = s.jacks := by cases o <;> rfl
@[simp] theorem State.setHpDet_phone (o : HpOut) (b : Bool) : (s.setHpDet o b).phone = s.phone := by cases o <;> rfl
@[simp] theorem State.setHpDet_calls (o : HpOut) (b : Bool) : (s.setHpDet o b).calls = s.calls := by cases o <;> rfl
@[simp] theorem State.setHpDet_tones (o : HpOut) (b : Bool) : (s.setHpDet o b).tones = s.tones := by cases o <;> rfl
@[simp] theorem State.setHpDet_lines (o : HpOut) (b : Bool) : (s.setHpDet o b).lines = s.lines := by cases o <;> rfl
@[simp] theorem State.setHpDet_sup (o : HpOut) (b : Bool) : (s.setHpDet o b).sup = s.sup := by cases o <;> rfl
@[simp] theorem State.setHpDet_events (o : HpOut) (b : Bool) : (s.setHpDet o b).events = s.events := by cases o <;> rfl
@[simp] theorem State.setHpDet_store (o : HpOut) (b : Bool) : (s.setHpDet o b).store = s.store := by cases o <;> rfl

/-! ### setMic -/

@[simp] theorem State.setMic_pending (x : Seat) (m : Mic) : (s.setMic x m).pending = s.pending := rfl
@[simp] theorem State.setMic_freeCount (x : Seat) (m : Mic) : (s.setMic x m).freeCount = s.freeCount := rfl
@[simp] theorem State.setMic_pins (x : Seat) (m : Mic) : (s.setMic x m).pins = s.pins := rfl
@[simp] theorem State.setMic_port (x : Seat) (m : Mic) : (s.setMic x m).port = s.port := rfl
@[simp] theorem State.setMic_routes (x : Seat) (m : Mic) : (s.setMic x m).routes = s.routes := rfl
@[simp] theorem State.setMic_reuse (x : Seat) (m : Mic) : (s.setMic x m).reuse = s.reuse := rfl
@[simp] theorem State.setMic_defaultRamp (x : Seat) (m : Mic) : (s.setMic x m).defaultRamp = s.defaultRamp := rfl
@[simp] theorem State.setMic_alertMax (x : Seat) (m : Mic) : (s.setMic x m).alertMax = s.alertMax := rfl
@[simp] theorem State.setMic_mixer (x : Seat) (m : Mic) : (s.setMic x m).mixer = s.mixer := rfl
@[simp] theorem State.setMic_thermal (x : Seat) (m : Mic) : (s.setMic x m).thermal = s.thermal := rfl
@[simp] theorem State.setMic_tuners (x : Seat) (m : Mic) : (s.setMic x m).tuners = s.tuners := rfl
@[simp] theorem State.setMic_stations (x : Seat) (m : Mic) : (s.setMic x m).stations = s.stations := rfl
@[simp] theorem State.setMic_jacks (x : Seat) (m : Mic) : (s.setMic x m).jacks = s.jacks := rfl
@[simp] theorem State.setMic_phone (x : Seat) (m : Mic) : (s.setMic x m).phone = s.phone := rfl
@[simp] theorem State.setMic_tones (x : Seat) (m : Mic) : (s.setMic x m).tones = s.tones := rfl
@[simp] theorem State.setMic_lines (x : Seat) (m : Mic) : (s.setMic x m).lines = s.lines := rfl
@[simp] theorem State.setMic_sup (x : Seat) (m : Mic) : (s.setMic x m).sup = s.sup := rfl
@[simp] theorem State.setMic_events (x : Seat) (m : Mic) : (s.setMic x m).events = s.events := rfl
@[simp] theorem State.setMic_store (x : Seat) (m : Mic) : (s.setMic x m).store = s.store := rfl

/-! ### dropWaiting -/

@[simp] theorem State.dropWaiting_pending (h : Handle) : (s.dropWaiting h).pending = s.pending := rfl
@[simp] theorem State.dropWaiting_freeCount (h : Handle) : (s.dropWaiting h).freeCount = s.freeCount := rfl
@[simp] theorem State.dropWaiting_pins (h : Handle) : (s.dropWaiting h).pins = s.pins := rfl
@[simp] theorem State.dropWaiting_port (h : Handle) : (s.dropWaiting h).port = s.port := rfl
@[simp] theorem State.dropWaiting_routes (h : Handle) : (s.dropWaiting h).routes = s.routes := rfl
@[simp] theorem State.dropWaiting_reuse (h : Handle) : (s.dropWaiting h).reuse = s.reuse := rfl
@[simp] theorem State.dropWaiting_defaultRamp (h : Handle) : (s.dropWaiting h).defaultRamp = s.defaultRamp := rfl
@[simp] theorem State.dropWaiting_alertMax (h : Handle) : (s.dropWaiting h).alertMax = s.alertMax := rfl
@[simp] theorem State.dropWaiting_mixer (h : Handle) : (s.dropWaiting h).mixer = s.mixer := rfl
@[simp] theorem State.dropWaiting_thermal (h : Handle) : (s.dropWaiting h).thermal = s.thermal := rfl
@[simp] theorem State.dropWaiting_stations (h : Handle) : (s.dropWaiting h).stations = s.stations := rfl
@[simp] theorem State.dropWaiting_jacks (h : Handle) : (s.dropWaiting h).jacks = s.jacks := rfl
@[simp] theorem State.dropWaiting_phone (h : Handle) : (s.dropWaiting h).phone = s.phone := rfl
@[simp] theorem State.dropWaiting_calls (h : Handle) : (s.dropWaiting h).calls = s.calls := rfl
@[simp] theorem State.dropWaiting_tones (h : Handle) : (s.dropWaiting h).tones = s.tones := rfl
@[simp] theorem State.dropWaiting_lines (h : Handle) : (s.dropWaiting h).lines = s.lines := rfl
@[simp] theorem State.dropWaiting_sup (h : Handle) : (s.dropWaiting h).sup = s.sup := rfl
@[simp] theorem State.dropWaiting_events (h : Handle) : (s.dropWaiting h).events = s.events := rfl
@[simp] theorem State.dropWaiting_store (h : Handle) : (s.dropWaiting h).store = s.store := rfl

/-! ### unpair -/

@[simp] theorem State.unpair_pending : (s.unpair).pending = s.pending := rfl
@[simp] theorem State.unpair_freeCount : (s.unpair).freeCount = s.freeCount := rfl
@[simp] theorem State.unpair_pins : (s.unpair).pins = s.pins := rfl
@[simp] theorem State.unpair_port : (s.unpair).port = s.port := rfl
@[simp] theorem State.unpair_routes : (s.unpair).routes = s.routes := rfl
@[simp] theorem State.unpair_reuse : (s.unpair).reuse = s.reuse := rfl
@[simp] theorem State.unpair_defaultRamp : (s.unpair).defaultRamp = s.defaultRamp := rfl
@[simp] theorem State.unpair_alertMax : (s.unpair).alertMax = s.alertMax := rfl
@[simp] theorem State.unpair_mixer : (s.unpair).mixer = s.mixer := rfl
@[simp] theorem State.unpair_thermal : (s.unpair).thermal = s.thermal := rfl
@[simp] theorem State.unpair_stations : (s.unpair).stations = s.stations := rfl
@[simp] theorem State.unpair_jacks : (s.unpair).jacks = s.jacks := rfl
@[simp] theorem State.unpair_phone : (s.unpair).phone = s.phone := rfl
@[simp] theorem State.unpair_calls : (s.unpair).calls = s.calls := rfl
@[simp] theorem State.unpair_tones : (s.unpair).tones = s.tones := rfl
@[simp] theorem State.unpair_lines : (s.unpair).lines = s.lines := rfl
@[simp] theorem State.unpair_sup : (s.unpair).sup = s.sup := rfl
@[simp] theorem State.unpair_events : (s.unpair).events = s.events := rfl
@[simp] theorem State.unpair_store : (s.unpair).store = s.store := rfl

/-! ### leaveInUse -/

@[simp] theorem State.leaveInUse_pending (f : Nat) : (s.leaveInUse f).pending = s.pending := rfl
@[simp] theorem State.leaveInUse_freeCount (f : Nat) : (s.leaveInUse f).freeCount = s.freeCount := rfl
@[simp] theorem State.leaveInUse_pins (f : Nat) : (s.leaveInUse f).pins = s.pins := rfl
@[simp] theorem State.leaveInUse_port (f : Nat) : (s.leaveInUse f).port = s.port := rfl
@[simp] theorem State.leaveInUse_routes (f : Nat) : (s.leaveInUse f).routes = s.routes := rfl
@[simp] theorem State.leaveInUse_reuse (f : Nat) : (s.leaveInUse f).reuse = s.reuse := rfl
@[simp] theorem State.leaveInUse_defaultRamp (f : Nat) : (s.leaveInUse f).defaultRamp = s.defaultRamp := rfl
@[simp] theorem State.leaveInUse_alertMax (f : Nat) : (s.leaveInUse f).alertMax = s.alertMax := rfl
@[simp] theorem State.leaveInUse_mixer (f : Nat) : (s.leaveInUse f).mixer = s.mixer := rfl
@[simp] theorem State.leaveInUse_thermal (f : Nat) : (s.leaveInUse f).thermal = s.thermal := rfl
@[simp] theorem State.leaveInUse_tuners (f : Nat) : (s.leaveInUse f).tuners = s.tuners := rfl
@[simp] theorem State.leaveInUse_jacks (f : Nat) : (s.leaveInUse f).jacks = s.jacks := rfl
@[simp] theorem State.leaveInUse_phone (f : Nat) : (s.leaveInUse f).phone = s.phone := rfl
@[simp] theorem State.leaveInUse_calls (f : Nat) : (s.leaveInUse f).calls = s.calls := rfl
@[simp] theorem State.leaveInUse_tones (f : Nat) : (s.leaveInUse f).tones = s.tones := rfl
@[simp] theorem State.leaveInUse_lines (f : Nat) : (s.leaveInUse f).lines = s.lines := rfl
@[simp] theorem State.leaveInUse_sup (f : Nat) : (s.leaveInUse f).sup = s.sup := rfl
@[simp] theorem State.leaveInUse_events (f : Nat) : (s.leaveInUse f).events = s.events := rfl
@[simp] theorem State.leaveInUse_store (f : Nat) : (s.leaveInUse f).store = s.store := rfl

/-! ### ignoreTransfer -/

@[simp] theorem State.ignoreTransfer_pending (n : Nat) : (s.ignoreTransfer n).pending = s.pending := rfl
@[simp] theorem State.ignoreTransfer_freeCount (n : Nat) : (s.ignoreTransfer n).freeCount = s.freeCount := rfl
@[simp] theorem State.ignoreTransfer_pins (n : Nat) : (s.ignoreTransfer n).pins = s.pins := rfl
@[simp] theorem State.ignoreTransfer_routes (n : Nat) : (s.ignoreTransfer n).routes = s.routes := rfl
@[simp] theorem State.ignoreTransfer_reuse (n : Nat) : (s.ignoreTransfer n).reuse = s.reuse := rfl
@[simp] theorem State.ignoreTransfer_defaultRamp (n : Nat) : (s.ignoreTransfer n).defaultRamp = s.defaultRamp := rfl
@[simp] theorem State.ignoreTransfer_alertMax (n : Nat) : (s.ignoreTransfer n).alertMax = s.alertMax := rfl
@[simp] theorem State.ignoreTransfer_mixer (n : Nat) : (s.ignoreTransfer n).mixer = s.mixer := rfl
@[simp] theorem State.ignoreTransfer_thermal (n : Nat) : (s.ignoreTransfer n).thermal = s.thermal := rfl
@[simp] theorem State.ignoreTransfer_tuners (n : Nat) : (s.ignoreTransfer n).tuners = s.tuners := rfl
@[simp] theorem State.ignoreTransfer_stations (n : Nat) : (s.ignoreTransfer n).stations = s.stations := rfl
@[simp] theorem State.ignoreTransfer_jacks (n : Nat) : (s.ignoreTransfer n).jacks = s.jacks := rfl
@[simp] theorem State.ignoreTransfer_phone (n : Nat) : (s.ignoreTransfer n).phone = s.phone := rfl
@[simp] theorem State.ignoreTransfer_calls (n : Nat) : (s.ignoreTransfer n).calls = s.calls := rfl
@[simp] theorem State.ignoreTransfer_tones (n : Nat) : (s.ignoreTransfer n).tones = s.tones := rfl
@[simp] theorem State.ignoreTransfer_lines (n : Nat) : (s.ignoreTransfer n).lines = s.lines := rfl
@[simp] theorem State.ignoreTransfer_sup (n : Nat) : (s.ignoreTransfer n).sup = s.sup := rfl
@[simp] theorem State.ignoreTransfer_events (n : Nat) : (s.ignoreTransfer n).events = s.events := rfl
@[simp] theorem State.ignoreTransfer_store (n : Nat) : (s.ignoreTransfer n).store = s.store := rfl

/-! ### answered -/

@[simp] theorem State.answered_pending (a b : List Byte) : (s.answered a b).pending = s.pending := rfl
@[simp] theorem State.answered_freeCount (a b : List Byte) : (s.answered a b).freeCount = s.freeCount := rfl
@[simp] theorem State.answered_pins (a b : List Byte) : (s.answered a b).pins = s.pins := rfl
@[simp] theorem State.answered_routes (a b : List Byte) : (s.answered a b).routes = s.routes := rfl
@[simp] theorem State.answered_reuse (a b : List Byte) : (s.answered a b).reuse = s.reuse := rfl
@[simp] theorem State.answered_defaultRamp (a b : List Byte) : (s.answered a b).defaultRamp = s.defaultRamp := rfl
@[simp] theorem State.answered_alertMax (a b : List Byte) : (s.answered a b).alertMax = s.alertMax := rfl
@[simp] theorem State.answered_mixer (a b : List Byte) : (s.answered a b).mixer = s.mixer := rfl
@[simp] theorem State.answered_thermal (a b : List Byte) : (s.answered a b).thermal = s.thermal := rfl
@[simp] theorem State.answered_tuners (a b : List Byte) : (s.answered a b).tuners = s.tuners := rfl
@[simp] theorem State.answered_stations (a b : List Byte) : (s.answered a b).stations = s.stations := rfl
@[simp] theorem State.answered_jacks (a b : List Byte) : (s.answered a b).jacks = s.jacks := rfl
@[simp] theorem State.answered_phone (a b : List Byte) : (s.answered a b).phone = s.phone := rfl
@[simp] theorem State.answered_calls (a b : List Byte) : (s.answered a b).calls = s.calls := rfl
@[simp] theorem State.answered_tones (a b : List Byte) : (s.answered a b).tones = s.tones := rfl
@[simp] theorem State.answered_lines (a b : List Byte) : (s.answered a b).lines = s.lines := rfl
@[simp] theorem State.answered_sup (a b : List Byte) : (s.answered a b).sup = s.sup := rfl
@[simp] theorem State.answered_events (a b : List Byte) : (s.answered a b).events = s.events := rfl
@[simp] theorem State.answered_store (a b : List Byte) : (s.answered a b).store = s.store := rfl

/-! ### readOut -/

@[simp] theorem State.readOut_pending (n : Nat) : (s.readOut n).pending = s.pending := by
  unfold State.readOut; split
  · rfl
  · rfl
  · dsimp only; split <;> rfl
@[simp] theorem State.readOut_freeCount (n : Nat) : (s.readOut n).freeCount = s.freeCount := by
  unfold State.readOut; split
  · rfl
  · rfl
  · dsimp only; split <;> rfl
@[simp] theorem State.readOut_pins (n : Nat) : (s.readOut n).pins = s.pins := by
  unfold State.readOut; split
  · rfl
  · rfl
  · dsimp only; split <;> rfl
@[simp] theorem State.readOut_routes (n : Nat) : (s.readOut n).routes = s.routes := by
  unfold State.readOut; split
  · rfl
  · rfl
  · dsimp only; split <;> rfl
@[simp] theorem State.readOut_reuse (n : Nat) : (s.readOut n).reuse = s.reuse := by
  unfold State.readOut; split
  · rfl
  · rfl
  · dsimp only; split <;> rfl
@[simp] theorem State.readOut_defaultRamp (n : Nat) : (s.readOut n).defaultRamp = s.defaultRamp := by
  unfold State.readOut; split
  · rfl
  · rfl
  · dsimp only; split <;> rfl
@[simp] theorem State.readOut_alertMax (n : Nat) : (s.readOut n).alertMax = s.alertMax := by
  unfold State.readOut; split
  · rfl
  · rfl
  · dsimp only; split <;> rfl
@[simp] theorem State.readOut_mixer (n : Nat) : (s.readOut n).mixer = s.mixer := by
  unfold State.readOut; split
  · rfl
  · rfl
  · dsimp only; split <;> rfl
@[simp] theorem State.readOut_thermal (n : Nat) : (s.readOut n).thermal = s.thermal := by
  unfold State.readOut; split
  · rfl
  · rfl
  · dsimp only; split <;> rfl
@[simp] theorem State.readOut_tuners (n : Nat) : (s.readOut n).tuners = s.tuners := by
  unfold State.readOut; split
  · rfl
  · rfl
  · dsimp only; split <;> rfl
@[simp] theorem State.readOut_stations (n : Nat) : (s.readOut n).stations = s.stations := by
  unfold State.readOut; split
  · rfl
  · rfl
  · dsimp only; split <;> rfl
@[simp] theorem State.readOut_jacks (n : Nat) : (s.readOut n).jacks = s.jacks := by
  unfold State.readOut; split
  · rfl
  · rfl
  · dsimp only; split <;> rfl
@[simp] theorem State.readOut_phone (n : Nat) : (s.readOut n).phone = s.phone := by
  unfold State.readOut; split
  · rfl
  · rfl
  · dsimp only; split <;> rfl
@[simp] theorem State.readOut_calls (n : Nat) : (s.readOut n).calls = s.calls := by
  unfold State.readOut; split
  · rfl
  · rfl
  · dsimp only; split <;> rfl
@[simp] theorem State.readOut_tones (n : Nat) : (s.readOut n).tones = s.tones := by
  unfold State.readOut; split
  · rfl
  · rfl
  · dsimp only; split <;> rfl
@[simp] theorem State.readOut_lines (n : Nat) : (s.readOut n).lines = s.lines := by
  unfold State.readOut; split
  · rfl
  · rfl
  · dsimp only; split <;> rfl
@[simp] theorem State.readOut_sup (n : Nat) : (s.readOut n).sup = s.sup := by
  unfold State.readOut; split
  · rfl
  · rfl
  · dsimp only; split <;> rfl
@[simp] theorem State.readOut_events (n : Nat) : (s.readOut n).events = s.events := by
  unfold State.readOut; split
  · rfl
  · rfl
  · dsimp only; split <;> rfl
@[simp] theorem State.readOut_store (n : Nat) : (s.readOut n).store = s.store := by
  unfold State.readOut; split
  · rfl
  · rfl
  · dsimp only; split <;> rfl

/-! ### validRequest -/

@[simp] theorem State.validRequest_pending : (s.validRequest).pending = s.pending := by unfold State.validRequest; split <;> simp
@[simp] theorem State.validRequest_freeCount : (s.validRequest).freeCount = s.freeCount := by unfold State.validRequest; split <;> simp
@[simp] theorem State.validRequest_pins : (s.validRequest).pins = s.pins := by unfold State.validRequest; split <;> simp
@[simp] theorem State.validRequest_port : (s.validRequest).port = s.port := by unfold State.validRequest; split <;> simp
@[simp] theorem State.validRequest_routes : (s.validRequest).routes = s.routes := by unfold State.validRequest; split <;> simp
@[simp] theorem State.validRequest_reuse : (s.validRequest).reuse = s.reuse := by unfold State.validRequest; split <;> simp
@[simp] theorem State.validRequest_defaultRamp : (s.validRequest).defaultRamp = s.defaultRamp := by unfold State.validRequest; split <;> simp
@[simp] theorem State.validRequest_alertMax : (s.validRequest).alertMax = s.alertMax := by unfold State.validRequest; split <;> simp
@[simp] theorem State.validRequest_mixer : (s.validRequest).mixer = s.mixer := by unfold State.validRequest; split <;> simp
@[simp] theorem State.validRequest_thermal : (s.validRequest).thermal = s.thermal := by unfold State.validRequest; split <;> simp
@[simp] theorem State.validRequest_tuners : (s.validRequest).tuners = s.tuners := by unfold State.validRequest; split <;> simp
@[simp] theorem State.validRequest_stations : (s.validRequest).stations = s.stations := by unfold State.validRequest; split <;> simp
@[simp] theorem State.validRequest_jacks : (s.validRequest).jacks = s.jacks := by unfold State.validRequest; split <;> simp
@[simp] theorem State.validRequest_phone : (s.validRequest).phone = s.phone := by unfold State.validRequest; split <;> simp
@[simp] theorem State.validRequest_calls : (s.validRequest).calls = s.calls := by unfold State.validRequest; split <;> simp
@[simp] theorem State.validRequest_tones : (s.validRequest).tones = s.tones := by unfold State.validRequest; split <;> simp
@[simp] theorem State.validRequest_lines : (s.validRequest).lines = s.lines := by unfold State.validRequest; split <;> simp
@[simp] theorem State.validRequest_store : (s.validRequest).store = s.store := by unfold State.validRequest; split <;> simp

/-! ### fetched -/

@[simp] theorem State.fetched_pending : (s.fetched).pending = s.pending := rfl
@[simp] theorem State.fetched_freeCount : (s.fetched).freeCount = s.freeCount := rfl
@[simp] theorem State.fetched_pins : (s.fetched).pins = s.pins := rfl
@[simp] theorem State.fetched_port : (s.fetched).port = s.port := rfl
@[simp] theorem State.fetched_routes : (s.fetched).routes = s.routes := rfl
@[simp] theorem State.fetched_reuse : (s.fetched).reuse = s.reuse := rfl
@[simp] theorem State.fetched_defaultRamp : (s.fetched).defaultRamp = s.defaultRamp := rfl
@[simp] theorem State.fetched_alertMax : (s.fetched).alertMax = s.alertMax := rfl
@[simp] theorem State.fetched_mixer : (s.fetched).mixer = s.mixer := rfl
@[simp] theorem State.fetched_thermal : (s.fetched).thermal = s.thermal := rfl
@[simp] theorem State.fetched_tuners : (s.fetched).tuners = s.tuners := rfl
@[simp] theorem State.fetched_stations : (s.fetched).stations = s.stations := rfl
@[simp] theorem State.fetched_jacks : (s.fetched).jacks = s.jacks := rfl
@[simp] theorem State.fetched_phone : (s.fetched).phone = s.phone := rfl
@[simp] theorem State.fetched_calls : (s.fetched).calls = s.calls := rfl
@[simp] theorem State.fetched_tones : (s.fetched).tones = s.tones := rfl
@[simp] theorem State.fetched_lines : (s.fetched).lines = s.lines := rfl
@[simp] theorem State.fetched_sup : (s.fetched).sup = s.sup := rfl
@[simp] theorem State.fetched_store : (s.fetched).store = s.store := rfl

/-! ### quietStations -/

@[simp] theorem State.quietStations_pending : (s.quietStations).pending = s.pending := rfl
@[simp] theorem State.quietStations_freeCount : (s.quietStations).freeCount = s.freeCount := rfl
@[simp] theorem State.quietStations_pins : (s.quietStations).pins = s.pins := rfl
@[simp] theorem State.quietStations_port : (s.quietStations).port = s.port := rfl
@[simp] theorem State.quietStations_routes : (s.quietStations).routes = s.routes := rfl
@[simp] theorem State.quietStations_reuse : (s.quietStations).reuse = s.reuse := rfl
@[simp] theorem State.quietStations_defaultRamp : (s.quietStations).defaultRamp = s.defaultRamp := rfl
@[simp] theorem State.quietStations_alertMax : (s.quietStations).alertMax = s.alertMax := rfl
@[simp] theorem State.quietStations_mixer : (s.quietStations).mixer = s.mixer := rfl
@[simp] theorem State.quietStations_thermal : (s.quietStations).thermal = s.thermal := rfl
@[simp] theorem State.quietStations_tuners : (s.quietStations).tuners = s.tuners := rfl
@[simp] theorem State.quietStations_jacks : (s.quietStations).jacks = s.jacks := rfl
@[simp] theorem State.quietStations_phone : (s.quietStations).phone = s.phone := rfl
@[simp] theorem State.quietStations_calls : (s.quietStations).calls = s.calls := rfl
@[simp] theorem State.quietStations_tones : (s.quietStations).tones = s.tones := rfl
@[simp] theorem State.quietStations_lines : (s.quietStations).lines = s.lines := rfl
@[simp] theorem State.quietStations_sup : (s.quietStations).sup = s.sup := rfl
@[simp] theorem State.quietStations_events : (s.quietStations).events = s.events := rfl
@[simp] theorem State.quietStations_store : (s.quietStations).store = s.store := rfl

/-! ### The written parts -/

@[simp] theorem State.raise_flags (e : EventSource) : (s.raise e).events.flags = s.events.flags ||| e.bit := rfl
@[simp] theorem State.raise_mask (e : EventSource) : (s.raise e).events.mask = s.events.mask := rfl
@[simp] theorem State.raise_station (e : EventSource) : (s.raise e).events.station = s.events.station := rfl
@[simp] theorem State.stationChanged_station : s.stationChanged.events.station = true := rfl
@[simp] theorem State.answered_buffer (a b : List Byte) : (s.answered a b).port.buffer = .unread b := rfl
@[simp] theorem State.answered_sdo (a b : List Byte) : (s.answered a b).port.sdo = zeroBytes a.length := rfl
@[simp] theorem State.answered_phase (a b : List Byte) : (s.answered a b).port.phase = s.port.phase := rfl
@[simp] theorem State.answered_rearLock (a b : List Byte) : (s.answered a b).port.rearLock = s.port.rearLock := rfl
@[simp] theorem State.answered_resetPending (a b : List Byte) :
    (s.answered a b).port.resetPending = s.port.resetPending := rfl
@[simp] theorem State.ignoreTransfer_buffer (n : Nat) : (s.ignoreTransfer n).port.buffer = s.port.buffer := rfl
@[simp] theorem State.tuner_setTuner_same (x : TunerId) (t : Tuner) : (s.setTuner x t).tuner x = t := by
  cases x <;> rfl
@[simp] theorem State.tuner_setTuner_other (x : TunerId) (t : Tuner) :
    (s.setTuner x t).tuner (otherTuner x) = s.tuner (otherTuner x) := by cases x <;> rfl
@[simp] theorem State.jack_setJack (o : HpOut) (j : Jack) : (s.setJack o j).jack o = j := by cases o <;> rfl
@[simp] theorem State.validRequest_state : s.validRequest.sup.state = s.sup.state := by
  unfold State.validRequest; split <;> simp_all
@[simp] theorem State.validRequest_period : s.validRequest.sup.period = s.sup.period := by
  unfold State.validRequest; split <;> simp
@[simp] theorem State.validRequest_limpVolume : s.validRequest.sup.limpVolume = s.sup.limpVolume := by
  unfold State.validRequest; split <;> simp

/-! ### Containers -/

@[simp] theorem Quad.get_set_same {α : Type} (q : Quad α) (i : Fin 4) (x : α) : (q.set i x).get i = x := by
  match i with
  | 0 => rfl
  | 1 => rfl
  | 2 => rfl
  | 3 => rfl

@[simp] theorem Quad.get_map {α β : Type} (q : Quad α) (f : α → β) (i : Fin 4) : (q.map f).get i = f (q.get i) := by
  match i with
  | 0 => rfl
  | 1 => rfl
  | 2 => rfl
  | 3 => rfl

theorem Quad.get_set_ne {α : Type} (q : Quad α) (i j : Fin 4) (x : α) (h : j ≠ i) : (q.set i x).get j = q.get j := by
  match i, j with
  | 0, 0 => exact absurd rfl h
  | 0, 1 => rfl
  | 0, 2 => rfl
  | 0, 3 => rfl
  | 1, 0 => rfl
  | 1, 1 => exact absurd rfl h
  | 1, 2 => rfl
  | 1, 3 => rfl
  | 2, 0 => rfl
  | 2, 1 => rfl
  | 2, 2 => exact absurd rfl h
  | 2, 3 => rfl
  | 3, 0 => rfl
  | 3, 1 => rfl
  | 3, 2 => rfl
  | 3, 3 => exact absurd rfl h

@[simp] theorem tabGet_tabOf {α : Type} (n : Nat) (f : Nat → α) (i : Nat) (d : α) :
    tabGet (tabOf n f) i d = if i < n then f i else d := by
  unfold tabGet tabOf; split <;> simp_all

/-- What a fitted value is (8.3, 9.2). -/
theorem fit_eq {low high : Int} (h : low ≤ high) (x : Int) : fit low high x = max low (min high x) := by
  unfold fit; split <;> try split
  all_goals omega

/-- What a fitted number is (8.3, 9.2). -/
theorem fitNat_eq {low high : Nat} (h : low ≤ high) (x : Nat) : fitNat low high x = max low (min high x) := by
  unfold fitNat; split <;> try split
  all_goals omega

theorem tabGet_tabSet {α : Type} {n : Nat} (v : Vector α n) (i j : Nat) (x d : α) :
    tabGet (tabSet v i x) j d = if i = j ∧ i < n then x else tabGet v j d := by
  unfold tabGet tabSet
  by_cases h : i < n <;> by_cases k : j < n <;> simp [h, k, Vector.getElem_set] <;> omega

end Sys2Proof.Machine
end

