-- ==== Sys2Proof/Laws/Routes.lean ====
section
/-! SUPPORT. What the part can make of one route of its table: one relation, and one lemma for each change of a route. -/

namespace Sys2Proof.Machine

/-! ## What stays of a route -/

/-- What names a route and says whose it is, and what it plays where: nothing but its removal ends that. -/
def Route.Same (r n : Route) : Prop :=
  n.slot = r.slot ∧ n.reuse = r.reuse ∧ n.owner = r.owner ∧ n.zone = r.zone ∧ n.cls = r.cls ∧ n.source = r.source ∧
    n.line = r.line

theorem Route.Same.refl (r : Route) : r.Same r := ⟨rfl, rfl, rfl, rfl, rfl, rfl, rfl⟩

theorem Route.Same.trans {a b c : Route} (h : a.Same b) (k : b.Same c) : a.Same c := by
  obtain ⟨h1, h2, h3, h4, h5, h6, h7⟩ := h
  obtain ⟨k1, k2, k3, k4, k5, k6, k7⟩ := k
  exact ⟨k1.trans h1, k2.trans h2, k3.trans h3, k4.trans h4, k5.trans h5, k6.trans h6, k7.trans h7⟩

/-- The states of a route that LIMP silences. -/
def RouteState.Quiet (st : RouteState) : Prop := st = .yielding ∨ st = .suspended ∨ st = .closing

/-- What the part can make of a route in a supervision state, with an alert floor: the route stays itself, its fields go on
agreeing, a class silenced by LIMP stays silent in LIMP, its gains stay in range under a floor of at most 0, and a route
in CLOSING stays there. -/
structure Evolves (st : SupState) (floor : Int) (r n : Route) : Prop where
  same : r.Same n
  consistent : r.Consistent → n.Consistent
  limp : st = .limp → r.cls.limpSilenced → r.state.Quiet → n.state.Quiet
  gains : floor ≤ 0 → r.GainsInRange → n.GainsInRange
  closing : r.state = .closing → n.state = .closing

variable {st : SupState} {floor : Int}

theorem Evolves.refl (r : Route) : Evolves st floor r r := ⟨.refl r, id, fun _ _ h => h, fun _ h => h, id⟩

theorem Evolves.trans {a b c : Route} (h : Evolves st floor a b) (k : Evolves st floor b c) : Evolves st floor a c where
  same := h.same.trans k.same
  consistent := fun x => k.consistent (h.consistent x)
  limp := fun x y z => k.limp x (by rw [h.same.2.2.2.2.1]; exact y) (h.limp x y z)
  gains := fun x y => k.gains x (h.gains x y)
  closing := fun x => k.closing (h.closing x)

/-! ## Gains -/

theorem gainOf_inRange {x : Int} (h : x ≤ 0) : (gainOf x).InRange := by
  unfold gainOf; split
  · trivial
  · exact ⟨by omega, h⟩

theorem State.computedTarget_inRange (s : State) (r : Route) (h : s.mixer.alertFloor ≤ 0) (k : r.level ≤ 0) :
    (s.computedTarget r).InRange := by
  have d : 0 ≤ s.derateTerm r.zone := by unfold State.derateTerm; split <;> omega
  have a : s.mixer.attenuation (s.mixer.zone r.zone).volume ≤ 0 := by unfold Mixer.attenuation; omega
  unfold State.computedTarget
  dsimp only
  split
  · split
    · exact gainOf_inRange (by omega)
    · exact gainOf_inRange (by omega)
  · split
    · trivial
    · exact gainOf_inRange (by omega)

/-- Every ramp step moves by at most 1 q and never past its target. -/
theorem stepToward_between {low high t x : Int} (ht : Between low high t) (hx : Between low high x) :
    Between low high (stepToward t x) := by
  obtain ⟨a, b⟩ := ht
  obtain ⟨c, d⟩ := hx
  unfold stepToward
  split
  · exact ⟨by omega, by omega⟩
  · split
    · exact ⟨by omega, by omega⟩
    · exact ⟨c, d⟩

/-! ## Ramp ends and re-aims -/

/-- What a ramp end can make of a route: nothing, PLAYING from RISING, SUSPENDED from YIELDING. -/
theorem Route.rampEnded_cases (r : Route) :
    r.rampEnded = r ∨ (r.state = .rising ∧ r.fadeMark = false ∧ r.rampEnded = { r with state := .playing }) ∨
      (r.state = .yielding ∧ r.rampEnded = { r.ringOff with state := .suspended, target := none }) := by
  unfold Route.rampEnded
  cases h : r.state <;> simp
  cases k : r.fadeMark <;> simp

@[simp] theorem Route.ringOff_state (r : Route) : r.ringOff.state = r.state := by unfold Route.ringOff; split <;> rfl
@[simp] theorem Route.ringOff_applied (r : Route) : r.ringOff.applied = r.applied := by
  unfold Route.ringOff; split <;> rfl
@[simp] theorem Route.ringOff_target (r : Route) : r.ringOff.target = r.target := by unfold Route.ringOff; split <;> rfl
@[simp] theorem Route.ringOff_running (r : Route) : r.ringOff.running = r.running := by
  unfold Route.ringOff; split <;> rfl
@[simp] theorem Route.ringOff_cause (r : Route) : r.ringOff.cause = r.cause := by unfold Route.ringOff; split <;> rfl
@[simp] theorem Route.ringOff_fadeMark (r : Route) : r.ringOff.fadeMark = r.fadeMark := by
  unfold Route.ringOff; split <;> rfl
@[simp] theorem Route.ringOff_cls (r : Route) : r.ringOff.cls = r.cls := by unfold Route.ringOff; split <;> rfl
@[simp] theorem Route.ringOff_level (r : Route) : r.ringOff.level = r.level := by unfold Route.ringOff; split <;> rfl

theorem Route.ringOff_same (r : Route) : r.Same r.ringOff := by
  unfold Route.ringOff; split
  · exact .refl r
  · exact .refl r

/-- A ramp that ended at MUTE, or that ends on a route with sound at its target, evolves the route. -/
theorem Route.rampEnded_evolves (r : Route) (h : r.state = .yielding → r.applied = .mute ∧ r.running = false) :
    Evolves st floor r r.rampEnded := by
  rcases r.rampEnded_cases with e | ⟨a, b, e⟩ | ⟨a, e⟩
  · rw [e]; exact .refl r
  · rw [e]
    refine ⟨.refl r, fun c => ⟨?_, ?_, ?_, ?_, ?_⟩, ?_, fun _ g => g, by simp_all⟩
    · have := c.cause; simp [a] at this ⊢; exact this
    · simp
    · simp
    · simp
    · simp
    · simp [a, RouteState.Quiet]
  · rw [e]
    obtain ⟨m, n⟩ := h a
    refine ⟨?_, fun c => ⟨?_, ?_, ?_, ?_, ?_⟩, ?_, fun _ g => ⟨?_, ?_, ?_⟩, by simp_all⟩
    · exact r.ringOff_same.trans ⟨rfl, rfl, rfl, rfl, rfl, rfl, rfl⟩
    · have := c.cause; simp [a] at this ⊢; exact this
    · simp [m, n]
    · simp
    · intro k; have := c.marked (by simpa using k); simp [a] at this
    · intro k; exact absurd a (c.alert (by simpa using k)).1
    · simp [a, RouteState.Quiet]
    · simpa using g.1
    · simpa using g.2.1
    · simp

/-- A re-aim of a route toward a target in range: a sounding route, or one that leaves toward MUTE. -/
theorem Route.aim_evolves (r : Route) (t : Gain) (k : RampClass) (g : floor ≤ 0 → r.level ≤ 0 → t.InRange)
    (h : r.state ≠ .pending ∧ r.state ≠ .suspended) (m : r.state = .yielding ∨ r.state = .closing → t = .mute) :
    Evolves st floor r (r.aim t k) := by
  have base : ∀ (a : Gain) (b : Bool), (a = r.applied ∨ a = .q (-384)) →
      Evolves st floor r { r with target := some t, step := k, applied := a, running := b } := by
    intro a b ha
    refine ⟨.refl r, fun c => ⟨c.cause, ?_, ?_, c.marked, c.alert⟩, fun _ _ q => q, fun f i => ⟨i.1, ?_, ?_⟩, by simp_all⟩
    · simp [h.1, h.2]
    · intro q; simp [m q]
    · rcases ha with e | e
      · rw [e]; exact i.2.1
      · rw [e]; exact ⟨by omega, by omega⟩
    · intro u e; cases e; exact g f i.1.2
  unfold Route.aim
  dsimp only
  split
  · rename_i e1
    refine (base r.applied false (.inl rfl)).trans (Route.rampEnded_evolves _ (fun _ => ⟨e1, rfl⟩))
  · rename_i v e1
    split
    · refine (base (.q (-384)) false (.inr rfl)).trans (Route.rampEnded_evolves _ (fun e => ?_))
      have := m (.inl e); simp at this
    · exact base (.q (-384)) true (.inr rfl)
  · rename_i a v e1
    split
    · refine (base r.applied false (.inl rfl)).trans (Route.rampEnded_evolves _ (fun e => ?_))
      have := m (.inl e); simp at this
    · exact base r.applied true (.inl rfl)
  · exact base r.applied true (.inl rfl)

/-! ## Changes of a route -/

theorem RouteState.sounding_iff (x : RouteState) : x.sounding = true ↔ x = .rising ∨ x = .playing := by
  cases x <;> simp [RouteState.sounding]

theorem State.retarget_evolves (s : State) (k : RampClass) (r : Route) :
    Evolves s.sup.state s.mixer.alertFloor r (s.retarget k r) := by
  unfold State.retarget
  split
  · rename_i h
    simp only [Bool.and_eq_true, RouteState.sounding_iff] at h
    refine r.aim_evolves _ _ (fun a b => s.computedTarget_inRange r a b) ?_ ?_
    · rcases h.1.1 with e | e <;> simp [e]
    · rcases h.1.1 with e | e <;> simp [e]
  · exact .refl r

theorem State.withDuck_evolves (s : State) (d : Nat) (r : Route) :
    Evolves s.sup.state s.mixer.alertFloor r (s.withDuck d r) := by
  unfold State.withDuck
  split
  · exact .refl r
  · refine Evolves.trans ?_ (s.retarget_evolves .normal _)
    exact ⟨.refl r, fun c => ⟨c.cause, c.silent, c.leaving, c.marked, c.alert⟩, fun _ _ q => q, fun _ g => g, by simp_all⟩

theorem Route.rampStep_evolves (r : Route) : Evolves st floor r r.rampStep := by
  have step : ∀ (a : Gain) (b : Bool) (t : Gain), r.target = some t → (r.GainsInRange → a.InRange) →
      Evolves st floor r { r with applied := a, running := b } := by
    intro a b t e f
    refine ⟨.refl r, fun c => ⟨c.cause, ?_, c.leaving, c.marked, c.alert⟩, fun _ _ q => q, fun _ i => ⟨i.1, f i, i.2.2⟩, by simp_all⟩
    intro q; have := (c.silent q).2.2; simp [e] at this
  unfold Route.rampStep
  split
  · rename_i a v e1 e2
    dsimp only
    have near : r.GainsInRange → Gain.InRange (.q (stepToward v a)) := by
      intro i
      have x := i.2.1; rw [e1] at x
      exact stepToward_between (i.2.2 _ e2) x
    have one := step (.q (stepToward v a)) false (.q v) e2 near
    split
    · refine one.trans ?_
      rcases Route.rampEnded_cases { r with applied := .q (stepToward v a), running := false } with e | ⟨p, q, e⟩ | ⟨p, e⟩
      · rw [e]; exact .refl _
      · exact Route.rampEnded_evolves _ (fun y => by simp at p y; simp [p] at y)
      · rw [e]
        refine ⟨?_, fun c => ?_, ?_, fun _ i => ?_, by simp_all⟩
        · exact (Route.ringOff_same _).trans ⟨rfl, rfl, rfl, rfl, rfl, rfl, rfl⟩
        · have := c.leaving (.inl p); simp [e2] at this
        · simp [RouteState.Quiet]
        · exact ⟨by simpa using i.1, by simpa using i.2.1, by simp⟩
    · exact step (.q (stepToward v a)) r.running (.q v) e2 near
  · rename_i a e1 e2
    dsimp only
    split
    · refine (step .mute false .mute e2 (fun _ => trivial)).trans (Route.rampEnded_evolves _ (fun _ => ⟨rfl, rfl⟩))
    · rename_i n
      refine step (.q (stepToward (-385) a)) r.running .mute e2 (fun i => ?_)
      have x := i.2.1; rw [e1] at x
      obtain ⟨l, u⟩ := x
      unfold stepToward at n ⊢
      constructor
      · split <;> (try split) <;> simp_all <;> omega
      · split <;> (try split) <;> omega
  · exact .refl r

/-- Entry into RISING: not of a class that LIMP silences out of a silent state. -/
theorem State.enterRising_evolves (s : State) (r : Route) (c : r.state ≠ .closing)
    (h : s.sup.state = .limp → r.cls.limpSilenced → ¬r.state.Quiet) :
    Evolves s.sup.state s.mixer.alertFloor r (s.enterRising r) := by
  unfold State.enterRising
  dsimp only
  have one : ∀ p, Evolves s.sup.state s.mixer.alertFloor r
      { r with state := .rising, cause := none, fadeMark := false, play := p } := by
    intro p
    refine ⟨.refl r, fun c => ⟨by simp, by simp, by simp, by simp, by simp⟩, fun a b q => absurd q (h a b), fun _ g => g, by simp_all⟩
  split
  · refine (one _).trans (Route.aim_evolves _ _ _ (fun a b => s.computedTarget_inRange _ a b) ?_ ?_) <;> simp
  · refine (one r.play).trans (Route.aim_evolves _ _ _ (fun a b => s.computedTarget_inRange _ a b) ?_ ?_) <;> simp

theorem State.enterPending_evolves (s : State) (r : Route) (c : r.state ≠ .closing)
    (h : s.sup.state = .limp → r.cls.limpSilenced → ¬r.state.Quiet) :
    Evolves s.sup.state s.mixer.alertFloor r (s.enterPending r) := by
  unfold State.enterPending
  refine ⟨r.ringOff_same.trans ⟨rfl, rfl, rfl, rfl, rfl, rfl, rfl⟩, fun c => ⟨by simp, by simp, by simp, by simp, by simp⟩,
    fun a b q => absurd q (h a b), fun _ g => ⟨by simpa using g.1, trivial, by simp⟩, by simp_all⟩

theorem Route.suspend_evolves (r : Route) (c : r.state ≠ .closing) (h : r.Consistent → r.cls ≠ .alert) : Evolves st floor r r.suspend := by
  unfold Route.suspend
  refine ⟨r.ringOff_same.trans ⟨rfl, rfl, rfl, rfl, rfl, rfl, rfl⟩,
    fun c => ⟨by simp, by simp, by simp, by simp, by simp [h c]⟩, by simp [RouteState.Quiet],
    fun _ g => ⟨by simpa using g.1, trivial, by simp⟩, by simp_all⟩

theorem Route.yieldUp_evolves (r : Route) (h : r.cls ≠ .alert) (k : r.state = .rising ∨ r.state = .playing) :
    Evolves st floor r r.yieldUp := by
  unfold Route.yieldUp
  have e : ({ r with state := .yielding, fadeMark := false } : Route).aim .mute r.ramp =
      ({ r with state := .yielding, fadeMark := false, target := some .mute } : Route).aim .mute r.ramp := by
    unfold Route.aim; rfl
  rw [e]
  refine Evolves.trans (b := { r with state := .yielding, fadeMark := false, target := some .mute }) ?_
    (Route.aim_evolves _ _ _ (fun _ _ => trivial) ?_ ?_)
  · refine ⟨.refl r, fun c => ⟨?_, by simp, by simp, by simp, by simp [h]⟩, by simp [RouteState.Quiet], fun _ g => ⟨g.1, g.2.1, ?_⟩,
      by rcases k with k | k <;> simp [k]⟩
    · have := c.cause; rcases k with k | k <;> simp [k] at this ⊢ <;> exact this
    · intro t e; cases e; trivial
  · simp
  · simp

theorem Route.close_evolves (r : Route) (k : r.state ≠ .pending) : Evolves st floor r r.close := by
  unfold Route.close
  have e : ({ r with state := .closing, fadeMark := false } : Route).aim .mute r.ramp =
      ({ r with state := .closing, fadeMark := false, target := some .mute } : Route).aim .mute r.ramp := by
    unfold Route.aim; rfl
  rw [e]
  refine Evolves.trans (b := { r with state := .closing, fadeMark := false, target := some .mute }) ?_
    (Route.aim_evolves _ _ _ (fun _ _ => trivial) ?_ ?_)
  · refine ⟨.refl r, fun c => ⟨?_, by simp, by simp, by simp, by simp⟩, by simp [RouteState.Quiet], fun _ g => ⟨g.1, g.2.1, ?_⟩, by simp_all⟩
    · have := c.cause; simp [k] at this ⊢; exact this
    · intro t e; cases e; trivial
  · simp
  · simp

/-! ## Changes by notices and re-runs -/

theorem State.refresh_evolves (s : State) (r : Route) : Evolves s.sup.state s.mixer.alertFloor r (s.refresh r) := by
  unfold State.refresh
  split
  · split
    · rename_i e; exact s.enterRising_evolves r (by simp [e]) (fun _ _ => by simp [e, RouteState.Quiet])
    · exact .refl r
  · split
    · rename_i e; exact s.enterPending_evolves r (by simp [e]) (fun _ _ => by simp [e, RouteState.Quiet])
    · rename_i e; exact s.enterPending_evolves r (by simp [e]) (fun _ _ => by simp [e, RouteState.Quiet])
    · rename_i e
      exact r.suspend_evolves (by simp [e]) (fun c h => (c.alert h).1 e)
    · rename_i e
      exact ⟨.refl r, fun c => ⟨by simp [e], by simpa [e] using c.silent, by simp [e], c.marked, c.alert⟩,
        fun _ _ q => q, fun _ g => g, by simp_all⟩
    · exact .refl r

theorem State.outranked_alert (s : State) (rs : List Route) (r : Route) (h : r.cls = .alert) :
    s.outranked rs r = false := by simp [State.outranked, h]

/-- LIMP outranks the classes it silences (R26). -/
theorem State.outranked_limp (s : State) (rs : List Route) (r : Route) (h : s.sup.state = .limp)
    (k : r.cls.limpSilenced) : s.outranked rs r = true := by
  rcases k with e | e | e <;> simp [State.outranked, e, h]

theorem State.judged_evolves (s : State) (rs : List Route) (r : Route) :
    Evolves s.sup.state s.mixer.alertFloor r (s.judged rs r) := by
  have up : s.outranked rs r = false → s.sup.state = .limp → r.cls.limpSilenced → ¬r.state.Quiet := by
    intro a b c; simp [s.outranked_limp rs r b c] at a
  have not : s.outranked rs r = true → r.cls ≠ .alert := by
    intro a b; simp [s.outranked_alert rs r b] at a
  unfold State.judged
  split
  · exact .refl r
  · split
    · rename_i o
      split
      · exact r.suspend_evolves ‹_› (fun _ => not o)
      · rename_i e; exact r.yieldUp_evolves (not o) (.inl e)
      · rename_i e; exact r.yieldUp_evolves (not o) (.inr e)
      · exact .refl r
    · rename_i o
      have o' : s.outranked rs r = false := by simpa using o
      split
      · exact s.enterRising_evolves r ‹_› (up o')
      · split
        · exact s.enterRising_evolves r ‹_› (up o')
        · exact s.enterPending_evolves r ‹_› (up o')
      · exact .refl r

theorem State.notified_evolves (s : State) (c : Condition) (r : Route) :
    Evolves s.sup.state s.mixer.alertFloor r (s.notified c r) := by
  have one : Evolves s.sup.state s.mixer.alertFloor r { r with condition := c } :=
    ⟨.refl r, fun x => ⟨x.cause, x.silent, x.leaving, x.marked, x.alert⟩, fun _ _ q => q, fun _ g => g, by simp_all⟩
  unfold State.notified
  dsimp only
  split
  · rename_i h
    simp only [Bool.and_eq_true, RouteState.sounding_iff] at h
    have e : r.state = .rising ∨ r.state = .playing := h.1.2
    have two : Evolves s.sup.state s.mixer.alertFloor r { r with condition := c, fadeMark := false } :=
      ⟨.refl r, fun x => ⟨x.cause, x.silent, x.leaving, by simp, x.alert⟩, fun _ _ q => q, fun _ g => g, by simp_all⟩
    refine two.trans (Route.aim_evolves _ _ _ (fun a b => s.computedTarget_inRange _ a b) ?_ ?_)
    · rcases e with e | e <;> simp [e]
    · rcases e with e | e <;> simp [e]
  · exact one.trans (s.refresh_evolves _)

theorem Route.fade_evolves (r : Route) : Evolves st floor r r.fade := by
  unfold Route.fade
  split
  · rename_i h
    rw [RouteState.sounding_iff] at h
    have one : Evolves st floor r { r with fadeMark := true } :=
      ⟨.refl r, fun x => ⟨x.cause, x.silent, x.leaving, fun _ => h, x.alert⟩, fun _ _ q => q, fun _ g => g, by simp_all⟩
    refine one.trans (Route.aim_evolves _ _ _ (fun _ _ => trivial) ?_ ?_)
    · rcases h with e | e <;> simp [e]
    · simp
  · exact .refl r

end Sys2Proof.Machine
end

