-- ==== Sys2Proof/Laws/Frames.lean ====
section
/-! SUPPORT. What the shared operations on routes leave alone: one relation, and one lemma for each operation that says
everything it can do. -/

namespace Sys2Proof.Machine

/-! ## Routes one by one -/

/-- Two lists of routes that agree one by one, up to what the part can make of a route. -/
abbrev Each (st : SupState) (floor : Int) (rs ns : List Route) : Prop := List.Forall₂ (Evolves st floor) rs ns

variable {st : SupState} {floor : Int}

theorem Each.map (f : Route → Route) (rs : List Route) (h : ∀ r ∈ rs, Evolves st floor r (f r)) :
    Each st floor rs (rs.map f) := by
  induction rs with
  | nil => exact .nil
  | cons r rs ih => exact .cons (h r (by simp)) (ih (fun x m => h x (by simp [m])))

theorem Each.refl (rs : List Route) : Each st floor rs rs := by
  have := Each.map (st := st) (floor := floor) id rs (fun r _ => .refl r)
  simpa using this

theorem Each.trans {a b c : List Route} (h : Each st floor a b) (k : Each st floor b c) : Each st floor a c := by
  induction h generalizing c with
  | nil => cases k; exact .nil
  | cons x _ ih => cases k with | cons y z => exact .cons (x.trans y) (ih z)

/-- A law of routes that the part's changes keep, kept by a whole table. -/
theorem Each.forall {rs ns : List Route} (h : Each st floor rs ns) (p q : Route → Prop)
    (k : ∀ r n, Evolves st floor r n → p r → q n) (m : ∀ r ∈ rs, p r) : ∀ n ∈ ns, q n := by
  induction h with
  | nil => simp
  | cons x _ ih =>
    intro n i
    rcases List.mem_cons.1 i with e | e
    · subst e; exact k _ _ x (m _ (by simp))
    · exact ih (fun r j => m r (by simp [j])) n e

/-- What stays of each route, the table keeps in order. -/
theorem Each.map_eq {α : Type} {rs ns : List Route} (h : Each st floor rs ns) (f : Route → α)
    (k : ∀ r n, r.Same n → f n = f r) : ns.map f = rs.map f := by
  induction h with
  | nil => rfl
  | cons x _ ih => simp [k _ _ x.same, ih]

/-! ## Routes in place -/

/-- What the part does to the routes in place: nothing changes but routes as they may evolve, the cancellers at reference
changes, and pending flags and slot marks, which only join. -/
structure RouteFrame (s t : State) : Prop where
  rest : t = { s with
    routes := t.routes
    calls := { s.calls with mics := t.calls.mics }
    events := { s.events with flags := t.events.flags, mask := t.events.mask } }
  flags : s.events.flags ||| t.events.flags = t.events.flags
  each : Each s.sup.state s.mixer.alertFloor s.routes t.routes

namespace RouteFrame

variable {s t u : State}

theorem sup (h : RouteFrame s t) : t.sup = s.sup := by rw [h.rest]
theorem mixer (h : RouteFrame s t) : t.mixer = s.mixer := by rw [h.rest]
theorem pending (h : RouteFrame s t) : t.pending = s.pending := by rw [h.rest]
theorem port (h : RouteFrame s t) : t.port = s.port := by rw [h.rest]
theorem tuners (h : RouteFrame s t) : t.tuners = s.tuners := by rw [h.rest]
theorem stations (h : RouteFrame s t) : t.stations = s.stations := by rw [h.rest]
theorem thermal (h : RouteFrame s t) : t.thermal = s.thermal := by rw [h.rest]
theorem phone (h : RouteFrame s t) : t.phone = s.phone := by rw [h.rest]
theorem store (h : RouteFrame s t) : t.store = s.store := by rw [h.rest]
theorem reuse (h : RouteFrame s t) : t.reuse = s.reuse := by rw [h.rest]
theorem lines (h : RouteFrame s t) : t.lines = s.lines := by rw [h.rest]
theorem legs (h : RouteFrame s t) : t.calls.legs = s.calls.legs := by rw [h.rest]

theorem refl (s : State) : RouteFrame s s := ⟨rfl, by simp, Each.refl _⟩

theorem trans (h : RouteFrame s t) (k : RouteFrame t u) : RouteFrame s u where
  rest := by
    refine k.rest.trans ?_
    conv_lhs => rw [h.rest]
  flags := by rw [← k.flags, ← h.flags]; simp only [BitVec.or_assoc]; simp [← BitVec.or_assoc]
  each := by
    have e := k.each
    rw [h.sup, h.mixer] at e
    exact h.each.trans e

end RouteFrame

theorem State.raise_frame (s : State) (e : EventSource) : RouteFrame s (s.raise e) :=
  ⟨rfl, by simp [← BitVec.or_assoc], .refl _⟩

theorem State.raiseIf_frame (s : State) (c : Bool) (e : EventSource) : RouteFrame s (s.raiseIf c e) := by
  cases c
  · exact .refl s
  · exact s.raise_frame e

theorem State.markSlots_frame (s : State) (m : BitVec 24) : RouteFrame s (s.markSlots m) := by
  unfold State.markSlots
  split
  · exact .refl s
  · exact ⟨rfl, by simp [← BitVec.or_assoc], .refl _⟩

theorem State.referenceChange_frame (s : State) : RouteFrame s s.referenceChange := by
  unfold State.referenceChange
  exact RouteFrame.trans (t := { s with calls.mics := s.calls.mics.map Mic.referenceChange })
    ⟨rfl, by simp, .refl _⟩ (State.raiseIf_frame _ _ _)

theorem State.putRoutes_frame (s : State) (rs : List Route) (h : Each s.sup.state s.mixer.alertFloor s.routes rs) :
    RouteFrame s (s.putRoutes rs) := by
  have one : RouteFrame s { s with routes := rs } := ⟨rfl, by simp, h⟩
  unfold State.putRoutes
  dsimp only
  split
  · exact one.trans (State.referenceChange_frame _)
  · exact one

theorem State.commitRoutes_frame (s : State) (rs : List Route) (h : Each s.sup.state s.mixer.alertFloor s.routes rs) :
    RouteFrame s (s.commitRoutes rs) := (s.putRoutes_frame rs h).trans (State.markSlots_frame _ _)

theorem State.judgeClass_each (s : State) (d : Domain) (c : RouteClass) (rs : List Route) :
    Each s.sup.state s.mixer.alertFloor rs (s.judgeClass d c rs) := by
  refine Each.map _ rs (fun r _ => ?_)
  split
  · exact s.judged_evolves rs r
  · exact .refl r

theorem State.duckPass_each (s : State) (d : Domain) (rs : List Route) :
    Each s.sup.state s.mixer.alertFloor rs (s.duckPass d rs) := by
  refine Each.map _ rs (fun r _ => ?_)
  split
  · exact s.withDuck_evolves _ r
  · exact .refl r

theorem State.rerunRoutes_each (s : State) (d : Domain) (rs : List Route) :
    Each s.sup.state s.mixer.alertFloor rs (s.rerunRoutes d rs) :=
  (((((s.judgeClass_each d .alert rs).trans (s.judgeClass_each d .call _)).trans (s.judgeClass_each d .prompt _)).trans
    (s.judgeClass_each d .announcement _)).trans (s.judgeClass_each d .media _)).trans (s.duckPass_each d _)

/-- A precedence re-run (R25) changes routes in place, and nothing else but what that brings. -/
theorem State.rerun_frame (s : State) (d : Domain) : RouteFrame s (s.rerun d) :=
  s.commitRoutes_frame _ (s.rerunRoutes_each d _)

theorem State.rerunAll_frame (s : State) (ds : List Domain) : RouteFrame s (s.rerunAll ds) := by
  unfold State.rerunAll
  have : ∀ (l : List Domain) (t : State),
      RouteFrame t (l.foldl (fun t d => if d ∈ ds then t.rerun d else t) t) := by
    intro l
    induction l with
    | nil => exact fun t => .refl t
    | cons d l ih =>
      intro t
      refine RouteFrame.trans ?_ (ih _)
      dsimp only
      split
      · exact t.rerun_frame d
      · exact .refl t
  exact this _ s

theorem State.notice_frame (s : State) (p : Route → Bool) (f : Route → Route)
    (h : ∀ r, Evolves s.sup.state s.mixer.alertFloor r (f r)) : RouteFrame s (s.notice p f) := by
  refine (s.commitRoutes_frame _ (Each.map _ _ (fun r _ => ?_))).trans (State.rerunAll_frame _ _)
  split
  · exact h r
  · exact .refl r

theorem State.notifyTuner_frame (s : State) (x : TunerId) (c : Condition) : RouteFrame s (s.notifyTuner x c) :=
  s.notice_frame _ _ (s.notified_evolves c)

theorem State.retargetWhere_frame (s : State) (p : Route → Bool) (k : RampClass) :
    RouteFrame s (s.retargetWhere p k) := by
  refine s.putRoutes_frame _ (Each.map _ _ (fun r _ => ?_))
  split
  · exact s.retarget_evolves k r
  · exact .refl r

/-- A change of a route in one slot. -/
theorem onSlot_each (slot : Nat) (f : Route → Route) (rs : List Route) (h : ∀ r ∈ rs, r.slot = slot → Evolves st floor r (f r)) :
    Each st floor rs (onSlot slot f rs) := by
  refine Each.map _ _ (fun r m => ?_)
  split
  · rename_i e; exact h r m e
  · exact .refl r

end Sys2Proof.Machine
end

