-- ==== Sys2Proof/Laws/TunerFrames.lean ====
section
/-! SUPPORT. What the shared operations on stations and tuners leave alone. -/

namespace Sys2Proof.Machine

/-- What tuner and station work does: routes evolve in place, tuners and stations change but for their settings, the
cancellers follow reference changes, and pending events only join. -/
structure TunerFrame (s t : State) : Prop where
  rest : t = { s with
    routes := t.routes
    calls := { s.calls with mics := t.calls.mics }
    events := { s.events with flags := t.events.flags, mask := t.events.mask, station := t.events.station }
    tuners := { t.tuners with plan := s.tuners.plan, policy := s.tuners.policy, report := s.tuners.report }
    stations :=
      { t.stations with
        retire := s.stations.retire, bLow := s.stations.bLow, bHigh := s.stations.bHigh, follow := s.stations.follow } }
  flags : s.events.flags ||| t.events.flags = t.events.flags
  each : Each s.sup.state s.mixer.alertFloor s.routes t.routes

namespace TunerFrame

variable {s t u : State}

theorem sup (h : TunerFrame s t) : t.sup = s.sup := by rw [h.rest]
theorem mixer (h : TunerFrame s t) : t.mixer = s.mixer := by rw [h.rest]
theorem pending (h : TunerFrame s t) : t.pending = s.pending := by rw [h.rest]
theorem port (h : TunerFrame s t) : t.port = s.port := by rw [h.rest]
theorem thermal (h : TunerFrame s t) : t.thermal = s.thermal := by rw [h.rest]
theorem phone (h : TunerFrame s t) : t.phone = s.phone := by rw [h.rest]
theorem store (h : TunerFrame s t) : t.store = s.store := by rw [h.rest]
theorem reuse (h : TunerFrame s t) : t.reuse = s.reuse := by rw [h.rest]
theorem lines (h : TunerFrame s t) : t.lines = s.lines := by rw [h.rest]
theorem legs (h : TunerFrame s t) : t.calls.legs = s.calls.legs := by rw [h.rest]

theorem refl (s : State) : TunerFrame s s := ⟨rfl, by simp, .refl _⟩

theorem trans (h : TunerFrame s t) (k : TunerFrame t u) : TunerFrame s u where
  rest := by
    refine k.rest.trans ?_
    conv_lhs => rw [h.rest]
  flags := by rw [← k.flags, ← h.flags]; simp only [BitVec.or_assoc]; simp [← BitVec.or_assoc]
  each := by
    have e := k.each
    rw [h.sup, h.mixer] at e
    exact h.each.trans e

theorem ofRoute (h : RouteFrame s t) : TunerFrame s t where
  rest := by
    refine h.rest.trans ?_
    conv_rhs => rw [h.rest]
  flags := h.flags
  each := h.each

end TunerFrame

/-! ## Stations -/

theorem State.stationChanged_frame (s : State) : TunerFrame s s.stationChanged :=
  ⟨rfl, by simp [State.stationChanged, ← BitVec.or_assoc], .refl _⟩

theorem State.insertSilently_frame (s : State) (r : Station) : TunerFrame s (s.insertSilently r) := by
  unfold State.insertSilently
  split
  · refine TunerFrame.trans ?_ (State.stationChanged_frame _)
    exact ⟨rfl, by simp, .refl _⟩
  · exact .refl s

theorem State.reportFull_frame (s : State) (f : Nat) : TunerFrame s (s.reportFull f) := by
  unfold State.reportFull
  split
  · split
    · exact .refl s
    · exact TunerFrame.trans (t := { s with stations.fullRaised := f :: s.stations.fullRaised })
        ⟨rfl, by simp, .refl _⟩ (.ofRoute (State.raise_frame _ _))
  · exact .ofRoute (State.raise_frame _ _)

theorem State.insertStation_frame (s : State) (r : Station) : TunerFrame s (s.insertStation r) := by
  unfold State.insertStation
  split
  · refine TunerFrame.trans ?_ (State.stationChanged_frame _)
    exact ⟨rfl, by simp, .refl _⟩
  · exact s.reportFull_frame _

theorem State.ensureStation_frame (s : State) (f : Nat) : TunerFrame s (s.ensureStation f) := by
  unfold State.ensureStation
  split
  · exact .refl s
  · exact s.insertStation_frame _

theorem State.removeStation_frame (s : State) (f : Nat) : TunerFrame s (s.removeStation f) := by
  refine TunerFrame.trans ?_ (State.stationChanged_frame _)
  exact ⟨rfl, by simp, .refl _⟩

/-- A record of the table changed. -/
theorem State.update_frame (s : State) (f : Nat) (g : Station → Station) :
    TunerFrame s { s with stations := s.stations.update f g } := ⟨rfl, by simp, .refl _⟩

theorem State.refreshStation_frame (s : State) (f : Nat) (m : Measurement) : TunerFrame s (s.refreshStation f m) :=
  (s.ensureStation_frame f).trans (State.update_frame _ _ _)

theorem State.joinInUse_frame (s : State) (f : Nat) : TunerFrame s (s.joinInUse f) :=
  TunerFrame.trans (t := { s with stations.inUse := f :: s.stations.inUse.filter (· ≠ f) }) ⟨rfl, by simp, .refl _⟩
    (State.ensureStation_frame _ _)

theorem State.leaveInUse_frame (s : State) (f : Nat) : TunerFrame s (s.leaveInUse f) := ⟨rfl, by simp [State.leaveInUse], .refl _⟩

theorem State.roundEnd_frame (s : State) : TunerFrame s s.roundEnd := by
  unfold State.roundEnd
  dsimp only
  split
  · exact ⟨rfl, by simp, .refl _⟩
  · refine TunerFrame.trans ?_ (State.stationChanged_frame _)
    exact ⟨rfl, by simp, .refl _⟩

theorem State.moveCursor_frame (s : State) : TunerFrame s s.moveCursor := by
  unfold State.moveCursor
  dsimp only
  split
  · exact ⟨rfl, by simp, .refl _⟩
  · exact TunerFrame.trans (t := { s with stations.cursor := bandLow s.tuners.plan }) ⟨rfl, by simp, .refl _⟩
      (State.roundEnd_frame _)

theorem State.skipInUse_frame (n : Nat) (s : State) : TunerFrame s (s.skipInUse n) := by
  induction n generalizing s with
  | zero => exact .refl s
  | succ n ih =>
    unfold State.skipInUse
    split
    · exact s.moveCursor_frame.trans (ih _)
    · exact .refl s

theorem State.reserve_frame (s : State) (x : TunerId) (f : Option Nat) :
    TunerFrame s { s with stations := s.stations.reserve x f } := by cases x <;> exact ⟨rfl, by simp, .refl _⟩

theorem State.handOut_frame (s : State) (x : TunerId) : TunerFrame s (s.handOut x) := by
  unfold State.handOut
  split
  · rename_i f rest _
    exact TunerFrame.trans (t := { s with stations.returned := rest }) ⟨rfl, by simp, .refl _⟩ (State.reserve_frame _ _ _)
  · dsimp only
    refine TunerFrame.trans (t := { s with stations.returned := [] }) ⟨rfl, by simp, .refl _⟩ ?_
    exact ((State.skipInUse_frame _ _).trans (State.moveCursor_frame _)).trans (State.reserve_frame _ _ _)

theorem State.giveBack_frame (s : State) (x : TunerId) : TunerFrame s { s with stations := s.stations.giveBack x } := by
  unfold Stations.giveBack
  split
  · rename_i f _
    exact TunerFrame.trans (t := { s with stations.returned := insertOrdered f s.stations.returned })
      ⟨rfl, by simp, .refl _⟩ (State.reserve_frame _ _ _)
  · exact .refl s

/-! ## Tuners -/

theorem State.setTuner_frame (s : State) (x : TunerId) (t : Tuner) : TunerFrame s (s.setTuner x t) := by
  cases x <;> exact ⟨rfl, by simp [State.setTuner], .refl _⟩

theorem State.unpair_frame (s : State) : TunerFrame s s.unpair := ⟨rfl, by simp, .refl _⟩

theorem State.cancelScan_frame (s : State) (x : TunerId) : TunerFrame s (s.cancelScan x) := by
  unfold State.cancelScan
  split
  · exact (s.giveBack_frame x).trans (State.setTuner_frame _ _ _)
  · exact .refl s

theorem State.cancelCheck_frame (s : State) (x : TunerId) : TunerFrame s (s.cancelCheck x) := by
  unfold State.cancelCheck
  split
  · exact State.setTuner_frame _ _ _
  · exact .refl s

theorem State.abortSearchBy_frame (s : State) (x : TunerId) : TunerFrame s (s.abortSearchBy x) := by
  unfold State.abortSearchBy
  dsimp only
  split
  · split
    · exact State.setTuner_frame _ _ _
    · exact .refl s
  · exact .refl s

theorem State.abandonRetune_frame (s : State) (x : TunerId) : TunerFrame s (s.abandonRetune x) :=
  (State.setTuner_frame _ _ _).trans (.ofRoute (State.notifyTuner_frame _ _ _))

theorem State.endSearch_frame (s : State) (x : TunerId) : TunerFrame s (s.endSearch x) := by
  have one : TunerFrame s (if (s.tuner x).usesOther then s.cancelCheck (otherTuner x) else s) := by
    split
    · exact s.cancelCheck_frame _
    · exact .refl s
  unfold State.endSearch
  dsimp only
  split
  · exact (one.trans (State.setTuner_frame _ _ _)).trans (State.abandonRetune_frame _ _)
  · exact one.trans (State.setTuner_frame _ _ _)

theorem State.followCode_frame (s : State) (x : TunerId) (f c : Nat) : TunerFrame s (s.followCode x f c) := by
  unfold State.followCode
  dsimp only
  split
  · split
    · exact (State.setTuner_frame _ _ _).trans (State.endSearch_frame _ _)
    · exact State.setTuner_frame _ _ _
  · exact .refl s

theorem State.leaveOld_frame (s : State) (o : Option Nat) :
    TunerFrame s (match o with
      | some old => s.leaveInUse old
      | none => s) := by
  cases o
  · exact .refl s
  · exact s.leaveInUse_frame _

theorem State.unpairIfPaired_frame (s : State) : TunerFrame s (if s.tuners.link = .none then s else s.unpair) := by
  split
  · exact .refl s
  · exact s.unpair_frame

theorem State.takeTuner_frame (s : State) (x : TunerId) (f users : Nat) (watch : Bool) :
    TunerFrame s (s.takeTuner x f users watch) := by
  unfold State.takeTuner
  extract_lets s1 s2 s3 s4 code
  have h1 : TunerFrame s s1 :=
    ((s.cancelScan_frame x).trans (State.cancelCheck_frame _ x)).trans (State.abortSearchBy_frame _ x)
  have h2 : TunerFrame s s2 := h1.trans (State.unpairIfPaired_frame _)
  have h3 : TunerFrame s s3 := h2.trans (State.leaveOld_frame _ _)
  exact (h3.trans (State.joinInUse_frame _ _)).trans (State.setTuner_frame _ _ _)

theorem State.tellWatch_frame (s : State) (f : Nat) (x : TunerId) : TunerFrame s (s.tellWatch f x) :=
  ⟨rfl, by simp [State.tellWatch], .refl _⟩

theorem State.dropWatch_frame (s : State) (x : TunerId) : TunerFrame s (s.dropWatch x) := by
  unfold State.dropWatch
  extract_lets _ s1
  have h1 : TunerFrame s s1 := s.setTuner_frame x _
  refine TunerFrame.trans (h1.trans ?_) (.ofRoute (State.raise_frame _ _))
  exact ⟨rfl, by simp, .refl _⟩

theorem State.share_frame (s : State) (x : TunerId) : TunerFrame s (s.share x).1 := State.setTuner_frame _ _ _

theorem State.claim_frame (s : State) (f : Nat) : TunerFrame s (s.claim f).1 := by
  unfold State.claim
  split
  · exact s.share_frame _
  · split
    · dsimp only; exact s.takeTuner_frame _ _ _ _
    · split
      · dsimp only; exact s.takeTuner_frame _ _ _ _
      · split
        · dsimp only; exact (s.dropWatch_frame _).trans (State.takeTuner_frame _ _ _ _ _)
        · split
          · dsimp only; exact (s.dropWatch_frame _).trans (State.takeTuner_frame _ _ _ _ _)
          · exact .refl s

theorem State.claimCode_frame (s : State) (c : Nat) : TunerFrame s (s.claimCode c).1 := by
  unfold State.claimCode
  split
  · exact s.share_frame _
  · exact s.claim_frame _
  · exact .refl s

theorem State.dropWaiting_frame (s : State) (h : Handle) : TunerFrame s (s.dropWaiting h) := ⟨rfl, by simp, .refl _⟩

theorem State.tryWaiting_frame (s : State) (w : Waiting) : TunerFrame s (s.tryWaiting w) := by
  unfold State.tryWaiting
  split
  · have c := s.claimCode_frame w.code
    split
    · rename_i t x k e
      rw [e] at c
      refine (c.trans (State.dropWaiting_frame t w.handle)).trans (.ofRoute (State.notice_frame _ _ _ (fun r => ?_)))
      refine Evolves.trans ?_ (State.notified_evolves _ _ _)
      exact ⟨.refl r, fun c => ⟨c.cause, c.silent, c.leaving, c.marked, c.alert⟩, fun _ _ q => q, fun _ g => g, by simp_all⟩
    · exact .refl s
  · exact s.dropWaiting_frame _

/-- Steps one after another over a list. -/
theorem TunerFrame.foldl {α : Type} (f : State → α → State) (h : ∀ t a, TunerFrame t (f t a)) (l : List α) (s : State) :
    TunerFrame s (l.foldl f s) := by
  induction l generalizing s with
  | nil => exact .refl s
  | cons a l ih => exact (h s a).trans (ih _)

theorem State.notifyCode_frame (s : State) (c : Nat) : TunerFrame s (s.notifyCode c) :=
  TunerFrame.foldl _ State.tryWaiting_frame _ s

theorem State.takeForWatch_frame (s : State) (x : TunerId) (f : Nat) : TunerFrame s (s.takeForWatch x f) :=
  (s.takeTuner_frame _ _ _ _).trans (State.tellWatch_frame _ _ _)

theorem State.attachWatch_frame (s : State) (x : TunerId) (f : Nat) : TunerFrame s (s.attachWatch x f) :=
  (s.setTuner_frame _ _).trans (State.tellWatch_frame _ _ _)

theorem State.reattachWatch_frame (s : State) : TunerFrame s s.reattachWatch := by
  unfold State.reattachWatch
  split
  · exact .refl s
  · split
    · exact .refl s
    · split
      · exact s.attachWatch_frame _ _
      · split
        · exact s.takeForWatch_frame _ _
        · split
          · exact s.takeForWatch_frame _ _
          · exact .refl s

theorem State.freeTuner_frame (s : State) (x : TunerId) : TunerFrame s (s.freeTuner x) := by
  unfold State.freeTuner
  extract_lets t s1 s2 s3
  have h1 : TunerFrame s s1 := s.leaveOld_frame _
  have h2 : TunerFrame s s2 := by
    refine h1.trans ?_
    show TunerFrame s1 (if _ then _ else _)
    split
    · exact s1.cancelCheck_frame _
    · exact .refl s1
  exact (h2.trans (State.unpairIfPaired_frame _)).trans (State.setTuner_frame _ _ _)

theorem State.freeIfUnheld_frame (s : State) (x : TunerId) : TunerFrame s (s.freeIfUnheld x) := by
  unfold State.freeIfUnheld
  dsimp only
  split
  · exact s.freeTuner_frame x
  · exact .refl s

theorem State.leaveTuner_frame (s : State) (x : TunerId) : TunerFrame s (s.leaveTuner x) := by
  unfold State.leaveTuner
  extract_lets _ s1 s2
  have h1 : TunerFrame s s1 := s.setTuner_frame _ _
  have h2 : TunerFrame s s2 := h1.trans (s1.freeIfUnheld_frame x)
  split
  · exact h2.trans (State.reattachWatch_frame _)
  · exact h2

theorem State.releaseRoute_frame (s : State) (r : Route) : TunerFrame s (s.releaseRoute r) := by
  unfold State.releaseRoute
  split
  · exact s.leaveTuner_frame _
  · exact s.leaveTuner_frame _
  · exact s.dropWaiting_frame _
  · exact .refl s

/-! ## Retunes and searches -/

theorem State.holdStreak_frame (s : State) (x : TunerId) : TunerFrame s (s.holdStreak x) := by
  unfold State.holdStreak
  extract_lets
  split
  · exact State.setTuner_frame _ _ _
  · exact .refl s

theorem State.beginRetune_frame (s : State) (x : TunerId) (k : RetuneKind) : TunerFrame s (s.beginRetune x k) := by
  unfold State.beginRetune
  refine (s.setTuner_frame x _).trans (.ofRoute (State.putRoutes_frame _ _ (Each.map _ _ (fun r _ => ?_))))
  split
  · exact r.fade_evolves
  · exact .refl r

theorem State.moveProgram_frame (s : State) (x : TunerId) (k : RetuneKind) (dest : Nat) (confirm : Bool) :
    TunerFrame s (s.moveProgram x k dest confirm) := by
  unfold State.moveProgram
  extract_lets t s1 s2 _ s3 _ s4
  have h3 : TunerFrame s s3 :=
    ((s.leaveOld_frame _).trans (State.joinInUse_frame _ _)).trans (State.setTuner_frame _ _ _)
  have h4 : TunerFrame s s4 := by
    refine h3.trans ?_
    show TunerFrame s3 (if _ then _ else _)
    split
    · exact TunerFrame.trans (t := { s3 with tuners.watch := some dest }) ⟨rfl, by simp, .refl _⟩
        (State.tellWatch_frame _ _ _)
    · exact .refl s3
  exact (h4.trans (State.holdStreak_frame _ _)).trans (.ofRoute (State.raise_frame _ _))

theorem State.beginTuning_frame (s : State) (x : TunerId) (k : RetuneKind) : TunerFrame s (s.beginTuning x k) := by
  unfold State.beginTuning
  split
  · exact (TunerFrame.ofRoute (s.notifyTuner_frame x _)).trans (State.setTuner_frame _ _ _)
  · split
    · exact (s.setTuner_frame x _).trans (State.abandonRetune_frame _ _)
    · exact (TunerFrame.ofRoute (s.notifyTuner_frame x _)).trans (State.moveProgram_frame _ _ _ _ _)
  · split
    · exact (s.setTuner_frame x _).trans (State.abandonRetune_frame _ _)
    · exact (TunerFrame.ofRoute (s.notifyTuner_frame x _)).trans (State.moveProgram_frame _ _ _ _ _)

theorem State.endFade_frame (s : State) (x : TunerId) : TunerFrame s (s.endFade x) := by
  unfold State.endFade
  split
  · split
    · exact s.beginTuning_frame _ _
    · exact .refl s
  · exact .refl s

theorem State.endFades_frame (s : State) : TunerFrame s s.endFades :=
  ((s.endFade_frame _).trans (State.endFade_frame _ _)).trans (State.endFade_frame _ _)

theorem State.concludeSearch_frame (s : State) (x : TunerId) (b : Option (Nat × Nat)) (confirm : Bool) :
    TunerFrame s (s.concludeSearch x b confirm) := by
  unfold State.concludeSearch
  split
  · split
    · exact s.setTuner_frame _ _
    · exact (s.setTuner_frame _ _).trans (State.beginRetune_frame _ _ _)
  · exact s.setTuner_frame _ _

theorem State.applyCode_frame (s : State) (f c : Nat) : TunerFrame s (s.applyCode f c) := by
  unfold State.applyCode
  split
  · exact .refl s
  · split
    · exact .refl s
    · exact ((((((s.update_frame f _).trans (State.notifyCode_frame _ _)).trans (State.followCode_frame _ _ _ _)).trans
        (State.followCode_frame _ _ _ _)).trans (State.holdStreak_frame _ _)).trans (State.holdStreak_frame _ _))

theorem State.applyItem_frame (s : State) (f : Nat) (i : DataItem) : TunerFrame s (s.applyItem f i) := by
  unfold State.applyItem
  split
  · split
    · exact .refl s
    · exact s.applyCode_frame _ _
  · exact s.update_frame _ _
  · exact s.update_frame _ _
  · exact ((s.update_frame _ _).trans (State.holdStreak_frame _ _)).trans (State.holdStreak_frame _ _)

/-! ## The arbiter -/

theorem State.beginCheck_frame (s : State) (x : TunerId) : TunerFrame s (s.beginCheck x) := by
  unfold State.beginCheck
  extract_lets o
  split
  · split
    · extract_lets s1 _ s2
      have h2 : TunerFrame s s2 := (s.setTuner_frame x _).trans (State.setTuner_frame _ _ _)
      refine h2.trans ?_
      exact ⟨rfl, by simp, .refl _⟩
    · exact .refl s
  · exact .refl s

theorem State.startPairing_frame (s : State) (m p : TunerId) : TunerFrame s (s.startPairing m p) := by
  unfold State.startPairing
  extract_lets _ s1
  have h1 : TunerFrame s s1 := s.setTuner_frame p _
  refine h1.trans ?_
  exact ⟨rfl, by simp, .refl _⟩

theorem State.meetPartner_frame (s : State) (m p : TunerId) : TunerFrame s (s.meetPartner m p) := by
  unfold State.meetPartner
  split
  · exact s.startPairing_frame _ _
  · split
    · exact (s.cancelScan_frame _).trans (State.startPairing_frame _ _ _)
    · exact ⟨rfl, by simp, .refl _⟩
  · exact ⟨rfl, by simp, .refl _⟩

theorem State.settlePairing_frame (s : State) : TunerFrame s s.settlePairing := by
  unfold State.settlePairing
  split
  · split
    · exact s.meetPartner_frame _ _
    · exact .refl s
  · split
    · exact s.meetPartner_frame _ _
    · exact ⟨rfl, by simp, .refl _⟩
  · exact .refl s

/-- What follows in the Allocator (R70, R72, R74, R77) opens and removes no route. -/
theorem State.arbitrate_frame (s : State) : TunerFrame s s.arbitrate :=
  ((((s.endFades_frame).trans (State.reattachWatch_frame _)).trans (State.beginCheck_frame _ _)).trans
    (State.beginCheck_frame _ _)).trans (State.settlePairing_frame _)

end Sys2Proof.Machine
end

