-- ==== Sys2Proof/Laws/Table.lean ====
section
/-! SUPPORT. What opening and removing routes leaves alone. -/

namespace Sys2Proof.Machine

/-! ## The order of the table -/

/-- Slots rising, each 1..24. -/
abbrev Rising (rs : List Route) : Prop := rs.Pairwise (fun a b => a.slot < b.slot) ∧ ∀ r ∈ rs, 1 ≤ r.slot ∧ r.slot ≤ 24

theorem mem_insertRoute (r x : Route) (rs : List Route) : x ∈ insertRoute r rs ↔ x = r ∨ x ∈ rs := by
  induction rs with
  | nil => simp [insertRoute]
  | cons y ys ih =>
    unfold insertRoute
    split
    · simp
    · simp [ih]; tauto

theorem insertRoute_rising (r : Route) (rs : List Route) (h : Rising rs) (a : 1 ≤ r.slot ∧ r.slot ≤ 24)
    (b : ∀ x ∈ rs, x.slot ≠ r.slot) : Rising (insertRoute r rs) := by
  refine ⟨?_, fun x m => ?_⟩
  · have p := h.1
    clear h
    induction rs with
    | nil => simp [insertRoute]
    | cons y ys ih =>
      have q := List.pairwise_cons.1 p
      unfold insertRoute
      split
      · rename_i l
        refine List.pairwise_cons.2 ⟨fun z m => ?_, p⟩
        rcases List.mem_cons.1 m with e | e
        · rw [e]; exact l
        · exact l.trans (q.1 z e)
      · rename_i l
        refine List.pairwise_cons.2 ⟨fun z m => ?_, ih (fun x m => b x (by simp [m])) q.2⟩
        rcases (mem_insertRoute r z ys).1 m with e | e
        · have := b y (by simp); rw [e]; omega
        · exact q.1 z e
  · rcases (mem_insertRoute r x rs).1 m with e | e
    · rw [e]; exact a
    · exact h.2 x e

/-- Changes of routes that keep their slots keep the order. -/
theorem rising_of_map {rs ns : List Route} (e : ns.map (fun r => r.slot) = rs.map (fun r => r.slot)) (h : Rising rs) :
    Rising ns := by
  have p : (rs.map (fun r => r.slot)).Pairwise (· < ·) := List.pairwise_map.2 h.1
  rw [← e] at p
  refine ⟨List.pairwise_map.1 p, fun n m => ?_⟩
  have : n.slot ∈ rs.map (fun r => r.slot) := by rw [← e]; exact List.mem_map_of_mem m
  obtain ⟨r, i, j⟩ := List.mem_map.1 this
  rw [← j]; exact h.2 r i

theorem Each.rising {st : SupState} {floor : Int} {rs ns : List Route} (h : Each st floor rs ns) (k : Rising rs) : Rising ns :=
  rising_of_map (h.map_eq _ (fun _ _ s => s.1)) k

/-- The lowest free slot is a slot and free (R19). -/
theorem State.freeSlot_spec (s : State) {k : Nat} (h : s.freeSlot = some k) :
    (1 ≤ k ∧ k ≤ 24) ∧ ∀ r ∈ s.routes, r.slot ≠ k := by
  unfold State.freeSlot at h
  obtain ⟨i, a, b⟩ := Option.map_eq_some_iff.1 h
  have m := List.mem_of_find?_eq_some a
  have p := List.find?_some a
  simp at m p
  subst b
  exact ⟨⟨by omega, by omega⟩, p⟩

/-! ## The frame of openings and removals -/

/-- A route the part or a client has just opened, as the laws of routes want it; its gains are in range if its level is,
which `inRange` says. -/
structure Fresh (inRange : Prop) (st : SupState) (floor : Int) (n : Route) : Prop where
  consistent : n.Consistent
  limp : st = .limp → n.cls.limpSilenced → n.state.Quiet
  gains : floor ≤ 0 → inRange → n.GainsInRange

theorem Fresh.evolves {l : Prop} {st : SupState} {floor : Int} {r n : Route} (h : Fresh l st floor r)
    (k : Evolves st floor r n) : Fresh l st floor n where
  consistent := k.consistent h.consistent
  limp := fun a b => k.limp a (by rw [← k.same.2.2.2.2.1]; exact b) (h.limp a (by rw [← k.same.2.2.2.2.1]; exact b))
  gains := fun a b => k.gains a (h.gains a b)

/-- What openings (of routes that satisfy `p`, a property of what stays of a route, with a level in range if `l`) and
removals do to the part. -/
structure TableFrame (p : Route → Prop) (l : Prop) (s t : State) : Prop where
  rest : t = { s with
    routes := t.routes
    reuse := t.reuse
    calls := { s.calls with mics := t.calls.mics }
    events := { s.events with flags := t.events.flags, mask := t.events.mask, station := t.events.station }
    tuners := { t.tuners with plan := s.tuners.plan, policy := s.tuners.policy, report := s.tuners.report }
    stations :=
      { t.stations with
        retire := s.stations.retire, bLow := s.stations.bLow, bHigh := s.stations.bHigh, follow := s.stations.follow } }
  flags : s.events.flags ||| t.events.flags = t.events.flags
  routes : ∀ n ∈ t.routes,
    (∃ r ∈ s.routes, Evolves s.sup.state s.mixer.alertFloor r n) ∨ (p n ∧ Fresh l s.sup.state s.mixer.alertFloor n)
  rising : Rising s.routes → Rising t.routes

/-- A property of what stays of a route. -/
def Stays (p : Route → Prop) : Prop := ∀ r n, r.Same n → p r → p n

namespace TableFrame

variable {p : Route → Prop} {l : Prop} {s t u : State}

theorem sup (h : TableFrame p l s t) : t.sup = s.sup := by rw [h.rest]
theorem mixer (h : TableFrame p l s t) : t.mixer = s.mixer := by rw [h.rest]
theorem pending (h : TableFrame p l s t) : t.pending = s.pending := by rw [h.rest]
theorem port (h : TableFrame p l s t) : t.port = s.port := by rw [h.rest]
theorem thermal (h : TableFrame p l s t) : t.thermal = s.thermal := by rw [h.rest]
theorem phone (h : TableFrame p l s t) : t.phone = s.phone := by rw [h.rest]
theorem store (h : TableFrame p l s t) : t.store = s.store := by rw [h.rest]
theorem lines (h : TableFrame p l s t) : t.lines = s.lines := by rw [h.rest]
theorem legs (h : TableFrame p l s t) : t.calls.legs = s.calls.legs := by rw [h.rest]

theorem refl (s : State) : TableFrame p l s s := ⟨rfl, by simp, fun n m => .inl ⟨n, m, .refl n⟩, id⟩

theorem trans (k : Stays p) (h : TableFrame p l s t) (g : TableFrame p l t u) : TableFrame p l s u where
  rest := by
    refine g.rest.trans ?_
    conv_lhs => rw [h.rest]
  flags := by rw [← g.flags, ← h.flags]; simp only [BitVec.or_assoc]; simp [← BitVec.or_assoc]
  routes := by
    intro n m
    have e := g.routes n m
    rw [h.sup, h.mixer] at e
    rcases e with ⟨r, i, e⟩ | ⟨a, b⟩
    · rcases h.routes r i with ⟨q, j, f⟩ | ⟨a, b⟩
      · exact .inl ⟨q, j, f.trans e⟩
      · exact .inr ⟨k _ _ e.same a, b.evolves e⟩
    · exact .inr ⟨a, b⟩
  rising := fun x => g.rising (h.rising x)

theorem ofTuner (h : TunerFrame s t) : TableFrame p l s t where
  rest := by
    refine h.rest.trans ?_
    conv_rhs => rw [h.rest]
  flags := h.flags
  routes := by
    intro n m
    have e : ∀ n ∈ t.routes, ∃ r ∈ s.routes, Evolves s.sup.state s.mixer.alertFloor r n := by
      have := h.each
      generalize s.routes = rs at this
      generalize t.routes = ns at this
      induction this with
      | nil => simp
      | cons x _ ih =>
        intro n m
        rcases List.mem_cons.1 m with e | e
        · subst e; exact ⟨_, by simp, x⟩
        · obtain ⟨r, i, j⟩ := ih n e; exact ⟨r, by simp [i], j⟩
    exact .inl (e n m)
  rising := h.each.rising

theorem ofRoute (h : RouteFrame s t) : TableFrame p l s t := ofTuner (.ofRoute h)

theorem mono {q : Route → Prop} {j : Prop} (h : TableFrame p l s t) (k : ∀ r, p r → q r) (i : j → l) : TableFrame q j s t :=
  ⟨h.rest, h.flags, fun n m => (h.routes n m).imp id
    (fun x => ⟨k n x.1, x.2.consistent, x.2.limp, fun a b => x.2.gains a (i b)⟩), h.rising⟩

theorem foldl {α : Type} (k : Stays p) (f : State → α → State) (h : ∀ t a, TableFrame p l t (f t a)) (xs : List α) (s : State) :
    TableFrame p l s (xs.foldl f s) := by
  induction xs generalizing s with
  | nil => exact .refl s
  | cons a xs ih => exact (h s a).trans k (ih _)

end TableFrame

/-! ## Openings -/

theorem State.firstEntry_fresh (s : State) (r : Route) (h : r.state = .pending ∧ r.applied = .mute ∧ r.running = false ∧
    r.target = none ∧ r.fadeMark = false) :
    r.Same (s.firstEntry r) ∧ Fresh (Between (-240) 0 r.level) s.sup.state s.mixer.alertFloor (s.firstEntry r) := by
  obtain ⟨h1, h2, h3, h4, h5⟩ := h
  have c0 : ({ r with cause := some .noListener } : Route).Consistent :=
    ⟨by simp [h1], by simp [h2, h3, h4], by simp [h1], by simp [h5], by simp [h1]⟩
  have g0 : Between (-240) 0 r.level → ({ r with cause := some .noListener } : Route).GainsInRange :=
    fun l => ⟨l, by simp [h2, Gain.InRange], by simp [h4]⟩
  have not : s.outranked (insertRoute r s.routes) r = false → s.sup.state = .limp → ¬r.cls.limpSilenced := by
    intro a b c; simp [s.outranked_limp _ r b c] at a
  have done : ∀ n, Evolves s.sup.state s.mixer.alertFloor { r with cause := some .noListener } n →
      (s.sup.state = .limp → r.cls.limpSilenced → n.state.Quiet) →
      r.Same n ∧ Fresh (Between (-240) 0 r.level) s.sup.state s.mixer.alertFloor n := by
    intro n e q
    refine ⟨⟨e.same.1, e.same.2.1, e.same.2.2.1, e.same.2.2.2.1, e.same.2.2.2.2.1, e.same.2.2.2.2.2.1, e.same.2.2.2.2.2.2⟩,
      e.consistent c0, fun a b => q a ?_, fun a b => e.gains a (g0 b)⟩
    rw [e.same.2.2.2.2.1] at b; exact b
  unfold State.firstEntry State.firstState
  by_cases o : s.outranked (insertRoute r s.routes) r = true
  · simp only [o, if_true]
    have na : r.cls ≠ .alert := by intro a; simp [s.outranked_alert _ r a] at o
    have := done _ (Route.suspend_evolves { r with cause := some .noListener } (by simp [h1]) (fun _ => na)) (fun _ _ => .inr (.inl rfl))
    have e : ({ r with cause := some .noListener } : Route).suspend = r.suspend := by
      unfold Route.suspend Route.ringOff; dsimp only; split <;> rfl
    rw [← e]; exact this
  · have o' : s.outranked (insertRoute r s.routes) r = false := by simpa using o
    simp only [o', Bool.false_eq_true, if_false]
    have ok : s.sup.state = .limp → ({ r with cause := some .noListener } : Route).cls.limpSilenced →
        ¬({ r with cause := some .noListener } : Route).state.Quiet := fun a b => absurd b (not o' a)
    by_cases v : s.available r = true
    · simp only [v, if_true]
      exact done _ (s.enterRising_evolves { r with cause := some .noListener } (by simp [h1]) ok) (fun a b => absurd b (not o' a))
    · simp only [v]
      have e : s.enterPending { r with cause := some .noListener } = s.enterPending r := by
        have c : s.causeOf { r with cause := some .noListener } = s.causeOf r := rfl
        unfold State.enterPending Route.ringOff; dsimp only; rw [c]; split <;> rfl
      have := done _ (s.enterPending_evolves { r with cause := some .noListener } (by simp [h1]) ok) (fun a b => absurd b (not o' a))
      rw [e] at this; exact this

/-- A route opened in a free slot (R7, R19): it stands in the table, the others evolve. -/
theorem State.openRoute_frame (s : State) (r : Route) (p : Route → Prop) (l : Prop) (k : Stays p) (a : p r) (i : l → Between (-240) 0 r.level)
    (h : r.state = .pending ∧ r.applied = .mute ∧ r.running = false ∧ r.target = none ∧ r.fadeMark = false)
    (b : 1 ≤ r.slot ∧ r.slot ≤ 24) (c : ∀ x ∈ s.routes, x.slot ≠ r.slot) : TableFrame p l s (s.openRoute r) := by
  obtain ⟨sm, fr⟩ := s.firstEntry_fresh r h
  have one : TableFrame p l s { s with routes := insertRoute (s.firstEntry r) s.routes } := by
    refine ⟨rfl, by simp, fun n m => ?_, fun q => ?_⟩
    · rcases (mem_insertRoute _ _ _).1 m with e | e
      · rw [e]; exact .inr ⟨k _ _ sm a, fr.consistent, fr.limp, fun x y => fr.gains x (i y)⟩
      · exact .inl ⟨n, e, .refl n⟩
    · refine insertRoute_rising _ _ q ?_ ?_
      · rw [sm.1]; exact b
      · intro x m; rw [sm.1]; exact c x m
  unfold State.openRoute
  extract_lets n s1 s2
  have two : TableFrame p l s s2 := by
    refine one.trans k ?_
    show TableFrame p l s1 (if _ then _ else _)
    split
    · exact .ofRoute (State.referenceChange_frame _)
    · exact .refl _
  exact two.trans k (.ofRoute (State.rerun_frame _ _))

/-! ## Removals -/

theorem stays_true : Stays (fun _ => True) := fun _ _ _ _ => trivial

theorem State.removeRoute_frame (p : Route → Prop) (l : Prop) (k : Stays p) (s : State) (slot : Nat) (mark : Bool) :
    TableFrame p l s (s.removeRoute slot mark) := by
  unfold State.removeRoute
  split
  · exact .refl s
  · rename_i r _
    extract_lets left ranked s1 s2
    have h1 : TableFrame p l s s1 := by
      refine ⟨rfl, by simp [s1], fun n m => ?_, fun q => ?_⟩
      · obtain ⟨x, i, e⟩ := List.mem_map.1 (show n ∈ left.map _ from m)
        have ix : x ∈ s.routes := (List.mem_filter.1 i).1
        refine .inl ⟨x, ix, ?_⟩
        rw [← e]
        split
        · exact ⟨.refl x, fun c => ⟨c.cause, c.silent, c.leaving, c.marked, c.alert⟩, fun _ _ q => q, fun _ g => g, by simp_all⟩
        · exact .refl x
      · have l : Rising left := ⟨q.1.sublist List.filter_sublist, fun r m => q.2 r (List.mem_filter.1 m).1⟩
        refine rising_of_map (rs := left) ?_ l
        show (left.map _).map _ = _
        rw [List.map_map]
        refine List.map_congr_left (fun x _ => ?_)
        dsimp only [Function.comp]
        split <;> rfl
    have h2 : TableFrame p l s s2 := h1.trans k (.ofTuner (State.releaseRoute_frame _ _))
    split
    · exact h2.trans k (.ofRoute (State.markSlots_frame _ _))
    · exact h2

theorem State.routeIn_mem (s : State) {slot : Nat} {r : Route} (h : s.routeIn slot = some r) : r ∈ s.routes ∧ r.slot = slot := by
  unfold State.routeIn at h
  have := List.find?_some h
  simp at this
  exact ⟨List.mem_of_find?_eq_some h, this⟩

/-- The retirement of the routes in one slot closes every route standing there; the table has one. -/
theorem State.retireSlot_frame (p : Route → Prop) (l : Prop) (k : Stays p) (s : State) (auto own : Bool) (slot : Nat)
    (u : ∀ x ∈ s.routes, ∀ y ∈ s.routes, x.slot = y.slot → x = y) : TableFrame p l s (s.retireSlot auto own slot) := by
  unfold State.retireSlot
  split
  · exact .refl s
  · rename_i r f
    obtain ⟨m, e⟩ := s.routeIn_mem f
    split
    · exact .refl s
    · exact s.removeRoute_frame p l k _ _
    · exact s.removeRoute_frame p l k _ _
    · rename_i n1 n2 n3
      extract_lets s1 s2
      have h1 : TableFrame p l s s1 := by
        refine .ofRoute (s.putRoutes_frame _ (onSlot_each _ _ _ (fun x i j => x.close_evolves ?_)))
        rw [u x i r m (j.trans e.symm)]; exact n2
      have h2 : TableFrame p l s s2 := by
        refine h1.trans k ?_
        show TableFrame p l s1 (if _ then _ else _)
        split
        · exact .ofRoute (State.markSlots_frame _ _)
        · exact .refl _
      split
      · exact h2.trans k (State.removeRoute_frame p l k _ _ _)
      · exact h2

theorem Rising.unique {rs : List Route} (h : Rising rs) : ∀ x ∈ rs, ∀ y ∈ rs, x.slot = y.slot → x = y := by
  intro x i y j e
  have p := h.1
  clear h
  induction rs with
  | nil => simp at i
  | cons z zs ih =>
    obtain ⟨a, b⟩ := List.pairwise_cons.1 p
    rcases List.mem_cons.1 i with i | i <;> rcases List.mem_cons.1 j with j | j
    · rw [i, j]
    · have := a y j; rw [← i, e] at this; omega
    · have := a x i; rw [← j, e] at this; omega
    · exact ih i j b

/-- Retirements one after another, with their re-runs (R21, R22, R30), remove and close routes of an ordered table. -/
theorem State.retireSlots_frame (p : Route → Prop) (l : Prop) (k : Stays p) (s : State) (auto own : Bool) (slots : List Nat)
    (h : Rising s.routes) : TableFrame p l s (s.retireSlots auto own slots) := by
  have fold : ∀ (ks : List Nat) (t : State), Rising t.routes →
      TableFrame p l t (ks.foldl (State.retireSlot · auto own) t) := by
    intro ks
    induction ks with
    | nil => exact fun t _ => .refl t
    | cons a ks ih =>
      intro t q
      have one := t.retireSlot_frame p l k auto own a q.unique
      exact one.trans k (ih _ (one.rising q))
  exact (fold slots s h).trans k (.ofRoute (State.rerunAll_frame _ _))

theorem State.autoRetire_frame (p : Route → Prop) (l : Prop) (k : Stays p) (s : State) (hs : List Handle) (h : Rising s.routes) :
    TableFrame p l s (s.autoRetire hs) := s.retireSlots_frame p l k _ _ _ h

theorem State.rampStepSlot_frame (p : Route → Prop) (l : Prop) (k : Stays p) (s : State) (slot : Nat) :
    TableFrame p l s (s.rampStepSlot slot) := by
  unfold State.rampStepSlot
  split
  · exact .refl s
  · split
    · extract_lets s1
      have h1 : TableFrame p l s s1 := .ofRoute (s.putRoutes_frame _ (onSlot_each _ _ _ (fun x _ _ => x.rampStep_evolves)))
      split
      · exact (h1.trans k (State.removeRoute_frame p l k _ _ _)).trans k (.ofRoute (State.rerun_frame _ _))
      · exact h1
    · exact .refl s

/-! ## Automatic openings (R29) -/

/-- The part's own owner of direct line routes. -/
theorem stays_owner (o : Nat) : Stays (fun r => r.owner = o) := fun _ _ h e => h.2.2.1.trans e

theorem State.openAlert_frame (s : State) (l : Fin 4) (z : Zone) (pattern : Nat) (level : Int) :
    TableFrame (fun r => r.owner = 7) (Between (-240) 0 level) s (s.openAlert l z pattern level).1 := by
  unfold State.openAlert
  split
  · exact .ofRoute (State.raise_frame _ _)
  · rename_i k e
    obtain ⟨a, b⟩ := s.freeSlot_spec e
    dsimp only
    exact ((s.openRoute_frame _ _ (Between (-240) 0 level) (stays_owner 7) rfl (fun i => i) ⟨rfl, rfl, rfl, rfl, rfl⟩ a b).trans (stays_owner 7)
      (.ofRoute (State.markSlots_frame _ _))).trans (stays_owner 7) (.ofRoute (State.raise_frame _ _))

theorem State.openAnnouncement_frame (s : State) (x : TunerId) (f : Nat) (z : Zone) :
    TableFrame (fun r => r.owner = 6) True s (s.openAnnouncement x f z).1 := by
  unfold State.openAnnouncement
  split
  · exact .ofRoute (State.raise_frame _ _)
  · rename_i k e
    obtain ⟨a, b⟩ := s.freeSlot_spec e
    extract_lets cond src s1 r
    have h1 : TableFrame (fun r => r.owner = 6) True s s1 := .ofTuner (State.setTuner_frame _ _ _)
    have b1 : ∀ y ∈ s1.routes, y.slot ≠ r.slot := by
      have e : s1.routes = s.routes := by simp [s1]
      rw [e]; exact b
    exact ((h1.trans (stays_owner 6) (s1.openRoute_frame r _ _ (stays_owner 6) rfl
      (fun _ => show Between (-240) 0 0 from ⟨by decide, by decide⟩) ⟨rfl, rfl, rfl, rfl, rfl⟩ a b1)).trans
      (stays_owner 6) (.ofRoute (State.markSlots_frame _ _))).trans (stays_owner 6) (.ofRoute (State.raise_frame _ _))

theorem State.announced_frame {p : Route → Prop} {l : Prop} (s : State) (a : Bool) (hs : List Handle) :
    TableFrame p l s { s with stations := { s.stations with announcing := a, announced := hs } } :=
  .ofTuner ⟨rfl, by simp, .refl _⟩

theorem State.startAnnouncement_frame (s : State) (x : TunerId) (f : Nat) :
    TableFrame (fun r => r.owner = 6) True s (s.startAnnouncement x f) := by
  unfold State.startAnnouncement
  refine (s.announced_frame true []).trans (stays_owner 6) (TableFrame.foldl (stays_owner 6) _ (fun t z => ?_) _ _)
  refine (t.openAnnouncement_frame x f z).trans (stays_owner 6) ?_
  exact .ofTuner ⟨rfl, by simp, .refl _⟩

theorem State.endAnnouncement_frame (p : Route → Prop) (l : Prop) (k : Stays p) (s : State) (h : Rising s.routes) :
    TableFrame p l s s.endAnnouncement := by
  unfold State.endAnnouncement
  split
  · exact (s.autoRetire_frame p l k _ h).trans k (State.announced_frame _ _ _)
  · exact .refl s

theorem State.watchEnded_frame (p : Route → Prop) (l : Prop) (k : Stays p) (s : State) (h : Rising s.routes) :
    TableFrame p l s s.watchEnded :=
  TableFrame.trans (t := { s with stations.watch := none }) k (.ofTuner ⟨rfl, by simp, .refl _⟩)
    (State.endAnnouncement_frame p l k _ h)

/-! ## Volumes -/

/-- What a change of volumes does: the volume steps change, routes are re-aimed in place. -/
structure VolumeFrame (s t : State) : Prop where
  frame : RouteFrame { s with mixer := t.mixer } t
  floor : t.mixer.alertFloor = s.mixer.alertFloor

theorem VolumeFrame.refl (s : State) : VolumeFrame s s := ⟨.refl s, rfl⟩

theorem VolumeFrame.trans {s t u : State} (h : VolumeFrame s t) (k : VolumeFrame t u) : VolumeFrame s u := by
  refine ⟨⟨?_, ?_, ?_⟩, k.floor.trans h.floor⟩
  · refine k.frame.rest.trans ?_
    conv_lhs => rw [h.frame.rest]
  · have a := h.frame.flags
    have b := k.frame.flags
    dsimp only at a b ⊢
    rw [← b, ← a]; simp only [BitVec.or_assoc]; simp [← BitVec.or_assoc]
  · have a := h.frame.each
    have b := k.frame.each
    have e : t.sup = s.sup := by rw [h.frame.rest]
    dsimp only at a b ⊢
    rw [e, k.floor, h.floor] at b
    rw [h.floor] at a
    rw [k.floor, h.floor]
    exact a.trans b

theorem Mixer.setZone_floor (m : Mixer) (z : Zone) (x : ZoneRecord) : (m.setZone z x).alertFloor = m.alertFloor := by
  cases z <;> rfl

theorem State.setVolume_frame (s : State) (z : Zone) (v : Nat) : VolumeFrame s (s.setVolume z v) := by
  unfold State.setVolume
  split
  · exact .refl s
  · extract_lets _ s1
    have h := s1.retargetWhere_frame (fun r => r.zone = z) .normal
    have e := h.mixer
    refine ⟨?_, ?_⟩
    · rw [e]; exact h
    · rw [e]; exact Mixer.setZone_floor _ _ _

theorem State.followOne_frame (s : State) (z : Zone) (c : Int) : VolumeFrame s (s.followOne z c) := by
  unfold State.followOne
  dsimp only
  split
  · exact s.setVolume_frame _ _
  · exact .refl s

theorem State.follow_frame (s : State) (c : Int) : VolumeFrame s (s.follow c) := by
  unfold State.follow
  split
  · exact .refl s
  · exact (s.followOne_frame _ _).trans (State.followOne_frame _ _ _)

theorem State.setVolumeAndFollow_frame (s : State) (z : Zone) (v : Nat) : VolumeFrame s (s.setVolumeAndFollow z v) := by
  unfold State.setVolumeAndFollow
  dsimp only
  split
  · exact (s.setVolume_frame _ _).trans (State.follow_frame _ _)
  · exact s.setVolume_frame _ _

theorem State.lowerZone_frame (s : State) (z : Zone) : VolumeFrame s (s.lowerZone z) := by
  unfold State.lowerZone
  split
  · exact s.setVolumeAndFollow_frame _ _
  · exact .refl s

end Sys2Proof.Machine
end

