-- ==== Sys2Proof/Laws/Commands.lean ====
section
/-! SUPPORT. What the owning blocks make of the state for the commands that do more than set a record's fields. -/

namespace Sys2Proof.Machine

/-! ## Routes -/

theorem fit_between {low high : Int} (h : low ≤ high) (x : Int) : Between low high (fit low high x) := by
  unfold fit Between; split
  · exact ⟨le_refl _, h⟩
  · split <;> constructor <;> omega

theorem State.relevel_evolves (s : State) (level : Int) (k : RampClass) (r : Route) (h : Between (-240) 0 level) :
    Evolves s.sup.state s.mixer.alertFloor r (s.relevel level k r) := by
  have one : Evolves s.sup.state s.mixer.alertFloor r { r with level := level, ramp := k } :=
    ⟨.refl r, fun c => ⟨c.cause, c.silent, c.leaving, c.marked, c.alert⟩, fun _ _ q => q, fun _ g => ⟨h, g.2⟩, by simp_all⟩
  unfold State.relevel
  dsimp only
  split
  · rename_i c
    simp only [Bool.and_eq_true, RouteState.sounding_iff] at c
    refine one.trans (Route.aim_evolves _ _ _ (fun a b => s.computedTarget_inRange _ a b) ?_ ?_)
    · rcases c.1 with e | e <;> simp [e]
    · rcases c.1 with e | e <;> simp [e]
  · exact one

theorem routeLevel_frame (client : Byte) (p : List Byte) (s : State) : RouteFrame s (routeLevel client p s).state := by
  unfold routeLevel
  split
  · exact .refl s
  · split
    · exact .refl s
    · split
      · exact .refl s
      · exact s.putRoutes_frame _ (onSlot_each _ _ _ (fun r _ _ => s.relevel_evolves _ _ r (fit_between (by decide) _)))

/-- A served source leaves the slots alone. -/
theorem State.serve_frame (s : State) (src : Source) (h : Handle) {t : State} {x : Option TunerId} {c : Condition}
    (e : s.serve src h = some (t, x, c)) : TunerFrame s t := by
  unfold State.serve at e
  split at e
  · rename_i f
    have k := s.claim_frame f
    split at e
    · rename_i t' y d q
      simp only [Option.some.injEq, Prod.mk.injEq] at e
      obtain ⟨a, _, _⟩ := e
      rw [q] at k; rw [← a]; exact k
    · simp at e
  · rename_i d
    split at e
    · simp only [Option.some.injEq, Prod.mk.injEq] at e
      obtain ⟨a, _, _⟩ := e
      rw [← a]; exact ⟨rfl, by simp, .refl _⟩
    · have k := s.claimCode_frame d
      split at e
      · rename_i t' y b q
        simp only [Option.some.injEq, Prod.mk.injEq] at e
        obtain ⟨a, _, _⟩ := e
        rw [q] at k; rw [← a]; exact k
      · simp at e
  · simp only [Option.some.injEq, Prod.mk.injEq] at e
    obtain ⟨a, _, _⟩ := e
    rw [← a]; exact .refl s

theorem openFields_level (plan : BandPlan) (p : List Byte) {o : OpenFields} (h : openFields plan p = some o) :
    Between (-240) 0 o.level := by
  unfold openFields at h
  split at h
  · simp at h
  · split at h
    · split at h
      · simp at h
      · simp only [Option.some.injEq] at h
        rw [← h]; exact fit_between (by decide) _
    · simp at h

theorem routeOpen_frame (client : Byte) (p : List Byte) (s : State) :
    TableFrame (fun r => r.owner = client.toNat) True s (routeOpen client p s).state := by
  have k := stays_owner client.toNat
  unfold routeOpen
  split
  · exact .refl s
  · rename_i o ho
    split
    · exact .refl s
    · split
      · exact .refl s
      · rename_i slot e
        split
        · exact .refl s
        · rename_i t x c q
          obtain ⟨a, b⟩ := s.freeSlot_spec e
          have f := s.serve_frame _ _ q
          extract_lets r
          have b1 : ∀ y ∈ t.routes, y.slot ≠ r.slot := by
            intro y m
            have : y.slot ∈ s.routes.map (fun r => r.slot) := by
              rw [← f.each.map_eq _ (fun _ _ h => h.1)]; exact List.mem_map_of_mem m
            obtain ⟨z, i, j⟩ := List.mem_map.1 this
            rw [← j]; exact b z i
          have lv : True → Between (-240) 0 r.level := fun _ => openFields_level _ _ ho
          exact ((TableFrame.ofTuner f).trans k (t.openRoute_frame r _ _ k rfl lv ⟨rfl, rfl, rfl, rfl, rfl⟩ a b1)).trans k
            (.ofTuner (State.arbitrate_frame _))

theorem routeRetire_frame (q : Route → Prop) (l : Prop) (k : Stays q) (client : Byte) (p : List Byte) (s : State)
    (h : Rising s.routes) : TableFrame q l s (routeRetire client p s).state := by
  unfold routeRetire
  split
  · exact .refl s
  · split
    · exact .refl s
    · exact (s.retireSlots_frame q l k _ _ _ h).trans k (.ofTuner (State.arbitrate_frame _))

theorem retireOwner_frame (q : Route → Prop) (l : Prop) (k : Stays q) (client : Byte) (p : List Byte) (s : State)
    (h : Rising s.routes) : TableFrame q l s (retireOwner client p s).state := by
  unfold retireOwner
  split
  · exact .refl s
  · split
    · exact .refl s
    · exact (s.retireSlots_frame q l k _ _ _ h).trans k (.ofTuner (State.arbitrate_frame _))

/-! ## Tuners and stations -/

theorem State.setPolicy_frame (s : State) (q : TunerPolicy) :
    TunerFrame { s with tuners.policy := q } (s.setPolicy q) := by
  unfold State.setPolicy
  extract_lets _ t
  split
  · split
    · exact t.unpair_frame
    · split
      · exact ⟨rfl, by simp [t], .refl _⟩
      · split
        · exact ⟨rfl, by simp [t], .refl _⟩
        · exact .refl t
  · exact .refl t

theorem tunerPolicy_frame (client : Byte) (p : List Byte) (s : State) :
    ∃ q, TunerFrame { s with tuners.policy := q } (tunerPolicy client p s).state := by
  have none : TunerFrame { s with tuners.policy := s.tuners.policy } s := ⟨rfl, by simp, .refl _⟩
  unfold tunerPolicy
  split
  · exact ⟨_, none⟩
  · split
    · exact ⟨_, none⟩
    · split
      · exact ⟨_, none⟩
      · exact ⟨_, (s.setPolicy_frame _).trans (State.arbitrate_frame _)⟩

theorem State.endWatch_frame (q : Route → Prop) (l : Prop) (k : Stays q) (s : State) (h : Rising s.routes) :
    TableFrame q l s s.endWatch := by
  unfold State.endWatch
  extract_lets _ t
  have h1 : TableFrame q l s t := .ofTuner ⟨rfl, by simp [t], .refl _⟩
  split
  · exact h1
  · rename_i x _
    have h2 : TableFrame q l s (t.setTuner x { t.tuner x with watch := false }) :=
      h1.trans k (.ofTuner (State.setTuner_frame _ _ _))
    exact (h2.trans k (State.watchEnded_frame q l k _ (h2.rising h))).trans k (.ofTuner (State.freeIfUnheld_frame _ _))

theorem State.takeWatch_frame (s : State) (f : Nat) : TunerFrame s (s.takeWatch f) := by
  unfold State.takeWatch
  extract_lets _ t
  have h1 : TunerFrame s t := ⟨rfl, by simp [t], .refl _⟩
  split
  · exact h1
  · split
    · exact h1.trans (State.attachWatch_frame _ _ _)
    · split
      · exact h1.trans (State.takeForWatch_frame _ _ _)
      · split
        · exact h1.trans (State.takeForWatch_frame _ _ _)
        · exact h1

theorem State.setWatch_frame (q : Route → Prop) (l : Prop) (k : Stays q) (s : State) (w : Option Nat)
    (h : Rising s.routes) : TableFrame q l s (s.setWatch w) := by
  unfold State.setWatch
  split
  · exact .refl s
  · split
    · exact (s.endWatch_frame q l k h).trans k (.ofTuner (State.arbitrate_frame _))
    · exact ((s.endWatch_frame q l k h).trans k (.ofTuner (State.takeWatch_frame _ _))).trans k
        (.ofTuner (State.arbitrate_frame _))

theorem trafficWatch_frame (q : Route → Prop) (l : Prop) (k : Stays q) (client : Byte) (p : List Byte) (s : State)
    (h : Rising s.routes) : TableFrame q l s (trafficWatch client p s).state := by
  unfold trafficWatch
  split
  · exact .refl s
  · split
    · exact .refl s
    · exact s.setWatch_frame q l k _ h

theorem State.giveCode_frame (s : State) (f c : Nat) : TunerFrame s (s.giveCode f c) := by
  unfold State.giveCode
  split
  · exact .refl s
  · exact s.applyCode_frame _ _

theorem stationPin_frame (p : List Byte) (s : State) : TunerFrame s (stationPin p s).state := by
  unfold stationPin
  split
  · exact .refl s
  · split
    · exact .refl s
    · exact s.update_frame _ _

theorem stationForget_frame (p : List Byte) (s : State) : TunerFrame s (stationForget p s).state := by
  unfold stationForget
  split
  · exact .refl s
  · split
    · exact .refl s
    · split
      · exact .refl s
      · exact s.removeStation_frame _

theorem stationAdd_frame (p : List Byte) (s : State) : TunerFrame s (stationAdd p s).state := by
  unfold stationAdd
  split
  · exact .refl s
  · dsimp only
    split
    · refine TunerFrame.trans ?_ (State.arbitrate_frame _)
      unfold State.addToExisting
      refine TunerFrame.trans ?_ (State.giveCode_frame _ _ _)
      split
      · exact s.update_frame _ _
      · exact .refl s
    · split
      · exact .refl s
      · refine (TunerFrame.trans ?_ (State.giveCode_frame _ _ _)).trans (State.arbitrate_frame _)
        refine TunerFrame.trans ?_ (State.stationChanged_frame _)
        exact ⟨rfl, by simp, .refl _⟩

/-! ## Calls and the link -/

/-- Microphones changed: nothing else. -/
theorem State.mics_frame (s : State) (q : Quad Mic) : RouteFrame s { s with calls.mics := q } := ⟨rfl, by simp, .refl _⟩

theorem Calls.onSeats_eq (c : Calls) (p : Seat → Bool) (f : Mic → Mic) :
    c.onSeats p f = { c with mics := (c.onSeats p f).mics } := rfl

theorem State.dropSeats_frame (s : State) (p : Seat → Bool) : RouteFrame s (s.dropSeats p) :=
  RouteFrame.trans (s.mics_frame _) (State.raiseIf_frame _ _ _)

theorem State.startChecks_frame (s : State) (p : Seat → Bool) : RouteFrame s (s.startChecks p) := s.mics_frame _

theorem State.legNotice_frame (s : State) (id : Nat) (reuse : Byte) : RouteFrame s (s.legNotice id reuse) := by
  refine s.notice_frame _ _ (fun r => ?_)
  split
  · exact s.refresh_evolves r
  · refine Evolves.trans (b := { r with play := none }) ?_ (s.refresh_evolves _)
    exact ⟨.refl r, fun c => ⟨c.cause, c.silent, c.leaving, c.marked, c.alert⟩, fun _ _ q => q, fun _ g => g, by simp_all⟩

/-- What changes of legs do: the legs and their reuse counts are as told, the rest as with tuner work. -/
structure LegFrame (s t : State) : Prop where
  frame : TunerFrame { s with calls := { s.calls with legs := t.calls.legs, reuse := t.calls.reuse } } t

theorem LegFrame.refl (s : State) : LegFrame s s := ⟨.refl s⟩

theorem LegFrame.ofTuner {s t : State} (h : TunerFrame s t) : LegFrame s t := by
  have a : t.calls.legs = s.calls.legs := h.legs
  have b : t.calls.reuse = s.calls.reuse := by rw [h.rest]
  constructor
  rw [a, b]
  exact h

theorem LegFrame.trans {s t u : State} (h : LegFrame s t) (k : LegFrame t u) : LegFrame s u := by
  obtain ⟨a1, a2, a3⟩ := h.frame
  obtain ⟨b1, b2, b3⟩ := k.frame
  have e : t.sup = s.sup := by rw [a1]
  have m : t.mixer = s.mixer := by rw [a1]
  refine ⟨⟨?_, ?_, ?_⟩⟩
  · refine b1.trans ?_
    conv_lhs => rw [a1]
  · dsimp only at a2 b2 ⊢
    rw [← b2, ← a2]; simp only [BitVec.or_assoc]; simp [← BitVec.or_assoc]
  · dsimp only at a3 b3 ⊢
    rw [e, m] at b3
    exact a3.trans b3

theorem State.legs_frame (s : State) (ls : List Leg) : LegFrame s { s with calls := { s.calls with legs := ls } } :=
  ⟨⟨rfl, by simp, .refl _⟩⟩

theorem State.holdLeg_frame (s : State) (l : Leg) : LegFrame s (s.holdLeg l) := by
  unfold State.holdLeg
  extract_lets s1 s2
  have h1 : LegFrame s s1 := by
    show LegFrame s (if _ then _ else _)
    split
    · exact .ofTuner (.ofRoute (s.dropSeats_frame _))
    · exact .refl s
  exact (h1.trans (s1.legs_frame _)).trans (.ofTuner (.ofRoute (State.legNotice_frame _ _ _)))

theorem State.holdActive_frame (s : State) : LegFrame s s.holdActive := by
  unfold State.holdActive
  split
  · exact (s.holdLeg_frame _).trans (.ofTuner (.ofRoute (State.raise_frame _ _)))
  · exact .refl s

theorem State.activateLeg_frame (s : State) (l : Leg) : LegFrame s (s.activateLeg l) := by
  unfold State.activateLeg
  exact ((s.holdActive_frame.trans (State.legs_frame _ _)).trans
    (.ofTuner (.ofRoute (State.startChecks_frame _ _)))).trans (.ofTuner (.ofRoute (State.legNotice_frame _ _ _)))

theorem legOpen_frame (client : Byte) (p : List Byte) (s : State) : LegFrame s (legOpen client p s).state := by
  unfold legOpen
  split
  · exact .refl s
  · split
    · exact .refl s
    · extract_lets st l held t _ u v
      have h1 : LegFrame s t := by
        show LegFrame s (if _ then _ else _)
        split
        · exact s.holdActive_frame
        · exact .refl s
      have h2 : LegFrame s u := h1.trans (t.legs_frame _)
      have h3 : LegFrame s v := by
        refine h2.trans ?_
        show LegFrame u (if _ then _ else _)
        split
        · exact .ofTuner (.ofRoute (u.startChecks_frame _))
        · exact .refl u
      exact h3.trans (.ofTuner (State.arbitrate_frame _))

theorem legState_frame (client : Byte) (p : List Byte) (s : State) : LegFrame s (legState client p s).state := by
  unfold legState
  split
  · exact .refl s
  · split
    · exact .refl s
    · dsimp only
      split
      · split
        · exact .refl s
        · exact (s.holdLeg_frame _).trans (.ofTuner (State.arbitrate_frame _))
      · split
        · exact .refl s
        · exact (s.activateLeg_frame _).trans (.ofTuner (State.arbitrate_frame _))

theorem legSeats_frame (client : Byte) (p : List Byte) (s : State) : LegFrame s (legSeats client p s).state := by
  unfold legSeats
  split
  · exact .refl s
  · split
    · exact .refl s
    · unfold State.setSeats
      dsimp only
      split
      · exact ((s.legs_frame _).trans (.ofTuner (.ofRoute (State.dropSeats_frame _ _)))).trans
          (.ofTuner (.ofRoute (State.startChecks_frame _ _)))
      · exact s.legs_frame _

theorem legUplink_frame (client : Byte) (p : List Byte) (s : State) : LegFrame s (legUplink client p s).state := by
  unfold legUplink
  split
  · exact .refl s
  · split
    · exact .refl s
    · exact s.legs_frame _

/-- What the phone port's notices do: its record is as told, a free value may be taken, the rest as with tuner work. -/
structure PhoneFrame (s t : State) : Prop where
  frame : TunerFrame { s with phone := t.phone, freeCount := t.freeCount } t

theorem State.callsLinkUp_frame (s : State) : RouteFrame s s.callsLinkUp := by
  unfold State.callsLinkUp
  extract_lets c
  have e : c = { s.calls with mics := c.mics } := rfl
  rw [e]
  exact RouteFrame.trans (s.mics_frame _) (State.raiseIf_frame _ _ _)

theorem State.callsLinkDown_frame (s : State) : RouteFrame s s.callsLinkDown :=
  RouteFrame.trans (s.mics_frame _) (State.raiseIf_frame _ _ _)

theorem State.routesLink_frame (s : State) : RouteFrame s s.routesLink := s.notice_frame _ _ s.refresh_evolves

theorem TunerFrame.freeCount {s t : State} (h : TunerFrame s t) : t.freeCount = s.freeCount := by rw [h.rest]

theorem State.eitherOrder_frame (s : State) (f g : State → State) (hf : ∀ t, TunerFrame t (f t))
    (hg : ∀ t, TunerFrame t (g t)) :
    TunerFrame { s with freeCount := (s.eitherOrder f g).freeCount } (s.eitherOrder f g) := by
  unfold State.eitherOrder
  extract_lets t
  split
  · have e := (hf t).freeCount
    rw [e]; exact hf t
  · have e := (hg t).freeCount
    rw [e]; exact hg t

theorem State.setPhone_phone (s : State) (p : Phone) : (s.setPhone p).phone = p := by
  unfold State.setPhone
  extract_lets o rose s1
  have e : s1.phone = p := by simp [s1]
  have up := s1.eitherOrder_frame (fun t => t.callsLinkUp.routesLink.arbitrate) (fun t => t.routesLink.callsLinkUp.arbitrate)
    (fun t => ((TunerFrame.ofRoute t.callsLinkUp_frame).trans (.ofRoute (State.routesLink_frame _))).trans
      (State.arbitrate_frame _))
    (fun t => ((TunerFrame.ofRoute t.routesLink_frame).trans (.ofRoute (State.callsLinkUp_frame _))).trans
      (State.arbitrate_frame _))
  have dn := s1.eitherOrder_frame (fun t => t.callsLinkDown.routesLink.arbitrate)
    (fun t => t.routesLink.callsLinkDown.arbitrate)
    (fun t => ((TunerFrame.ofRoute t.callsLinkDown_frame).trans (.ofRoute (State.routesLink_frame _))).trans
      (State.arbitrate_frame _))
    (fun t => ((TunerFrame.ofRoute t.routesLink_frame).trans (.ofRoute (State.callsLinkDown_frame _))).trans
      (State.arbitrate_frame _))
  split
  · exact up.phone.trans e
  · split
    · exact dn.phone.trans e
    · exact e

/-- Everything a change of the phone port's record brings (R132). -/
theorem State.setPhone_frame (s : State) (p : Phone) : PhoneFrame s (s.setPhone p) := by
  constructor
  rw [s.setPhone_phone p]
  unfold State.setPhone
  extract_lets o rose s1
  have h1 : TunerFrame { s with phone := p } s1 := .ofRoute (State.raiseIf_frame _ _ _)
  have carry : ∀ n, TunerFrame { s with phone := p, freeCount := n } { s1 with freeCount := n } := by
    intro n
    obtain ⟨a, b, c⟩ := h1
    refine ⟨?_, b, c⟩
    conv_lhs => rw [a]
  have up := s1.eitherOrder_frame (fun t => t.callsLinkUp.routesLink.arbitrate) (fun t => t.routesLink.callsLinkUp.arbitrate)
    (fun t => ((TunerFrame.ofRoute t.callsLinkUp_frame).trans (.ofRoute (State.routesLink_frame _))).trans
      (State.arbitrate_frame _))
    (fun t => ((TunerFrame.ofRoute t.routesLink_frame).trans (.ofRoute (State.callsLinkUp_frame _))).trans
      (State.arbitrate_frame _))
  have dn := s1.eitherOrder_frame (fun t => t.callsLinkDown.routesLink.arbitrate)
    (fun t => t.routesLink.callsLinkDown.arbitrate)
    (fun t => ((TunerFrame.ofRoute t.callsLinkDown_frame).trans (.ofRoute (State.routesLink_frame _))).trans
      (State.arbitrate_frame _))
    (fun t => ((TunerFrame.ofRoute t.routesLink_frame).trans (.ofRoute (State.callsLinkDown_frame _))).trans
      (State.arbitrate_frame _))
  split
  · exact (carry _).trans up
  · split
    · exact (carry _).trans dn
    · have e : s1.freeCount = s.freeCount := by simp [s1]
      rw [e]; exact h1

/-! ## LIMP -/

/-- LIMP entered (R163): the supervision record as told, volumes lowered, routes re-judged. -/
theorem State.enterLimp_frame (s : State) :
    TunerFrame { s with sup := { s.sup with state := .limp, left := none }, mixer := s.enterLimp.mixer } s.enterLimp ∧
      s.enterLimp.mixer.alertFloor = s.mixer.alertFloor := by
  unfold State.enterLimp
  extract_lets _ s1 s2 s3
  have h2 : VolumeFrame s1 s2 := by
    have h := s1.rerunAll_frame [.cabinGroup, .hp1, .hp2]
    have m : s2.mixer = s1.mixer := h.mixer
    refine ⟨?_, by rw [m]⟩
    rw [m]; exact h
  have h3 : VolumeFrame s1 s3 :=
    ((h2.trans (s2.lowerZone_frame .cabin)).trans (State.lowerZone_frame _ .front)).trans (State.lowerZone_frame _ .driver)
  have h4 : TunerFrame s3 ((s3.raise .limp).arbitrate) :=
    (TunerFrame.ofRoute (State.raise_frame _ _)).trans (State.arbitrate_frame _)
  have m : ((s3.raise .limp).arbitrate).mixer = s3.mixer := h4.mixer
  rw [m]
  exact ⟨(TunerFrame.ofRoute h3.frame).trans h4, h3.floor⟩

theorem State.leaveLimp_frame (s : State) : TunerFrame { s with sup.state := .run } s.leaveLimp :=
  (TunerFrame.ofRoute (State.rerunAll_frame _ _)).trans (State.arbitrate_frame _)

end Sys2Proof.Machine
end

