-- ==== Sys2Proof/Laws/Events.lean ====
section
/-! SUPPORT. What the part's own events and QUIET make of the state. -/

namespace Sys2Proof.Machine

/-! ## Tuner events -/

theorem State.acquisitionSettle_frame (s : State) (x : TunerId) : TunerFrame s (s.acquisitionSettle x) := by
  unfold State.acquisitionSettle
  dsimp only
  split
  · exact ((s.setTuner_frame _ _).trans (.ofRoute (State.notifyTuner_frame _ _ _))).trans (State.arbitrate_frame _)
  · exact .refl s

theorem State.startSearch_frame (s : State) (x : TunerId) : TunerFrame s (s.startSearch x) := by
  unfold State.startSearch
  split
  · exact s.setTuner_frame _ _
  · dsimp only
    split
    · exact (s.setTuner_frame _ _).trans (State.unpair_frame _)
    · exact s.setTuner_frame _ _

theorem State.beginJump_frame (s : State) (x : TunerId) : TunerFrame s (s.beginJump x) := by
  unfold State.beginJump
  split
  · exact (s.setTuner_frame _ _).trans (State.beginRetune_frame _ _ _)
  · exact .refl s

theorem State.afMeasured_frame (s : State) (x : TunerId) (a : Area) : TunerFrame s (s.afMeasured x a) := by
  unfold State.afMeasured
  dsimp only
  split
  · split
    · split
      · exact (s.setTuner_frame _ _).trans (State.startSearch_frame _ _)
      · exact s.setTuner_frame _ _
    · exact s.setTuner_frame _ _
  · split
    · exact s.beginJump_frame x
    · exact s.endSearch_frame x
  · exact .refl s

theorem State.programMeasurement_frame (s : State) (x : TunerId) (f m : Nat) : TunerFrame s (s.programMeasurement x f m) := by
  unfold State.programMeasurement
  dsimp only
  split
  · exact .refl s
  · split
    · exact ((((s.refreshStation_frame _ _).trans (State.setTuner_frame _ _ _)).trans
        (.ofRoute (State.raiseIf_frame _ _ _))).trans (State.afMeasured_frame _ _ _)).trans (State.arbitrate_frame _)
    · exact .refl s

theorem State.announce_frame (s : State) (x : TunerId) (f : Nat) (h : Rising s.routes) :
    TableFrame (fun r => r.owner = 6) True s (s.announce x f) := by
  unfold State.announce
  split
  · split
    · exact .refl s
    · split
      · split
        · exact .refl s
        · exact s.startAnnouncement_frame _ _
      · exact s.endAnnouncement_frame _ _ (stays_owner 6) h
  · exact .refl s

theorem State.confirm_frame (s : State) (x : TunerId) (c : Option Nat) : TunerFrame s (s.confirm x c) := by
  unfold State.confirm
  dsimp only
  split
  · exact s.setTuner_frame _ _
  · split
    · exact s.setTuner_frame _ _
    · split
      · exact s.setTuner_frame _ _
      · exact s.beginRetune_frame _ _

theorem State.programItem_frame (s : State) (x : TunerId) (f : Nat) (i : DataItem) (h : Rising s.routes) :
    TableFrame (fun r => r.owner = 6) True s (s.programItem x f i) := by
  have one : TableFrame (fun r => r.owner = 6) True s (s.applyItem f i) := .ofTuner (s.applyItem_frame f i)
  unfold State.programItem
  extract_lets awaits t
  split
  · split
    · exact one.trans (stays_owner 6) (.ofTuner (State.confirm_frame _ _ _))
    · exact one
  · exact one.trans (stays_owner 6) (State.announce_frame _ _ _ (one.rising h))
  · exact one

theorem State.dataItem_frame (s : State) (x : TunerId) (i : DataItem) (h : Rising s.routes) :
    TableFrame (fun r => r.owner = 6) True s (s.dataItem x i) := by
  unfold State.dataItem
  dsimp only
  split
  · split
    · exact (s.programItem_frame _ _ _ h).trans (stays_owner 6) (.ofTuner (State.arbitrate_frame _))
    · exact .refl s
  · split
    · exact .ofTuner (s.setTuner_frame _ _)
    · exact .refl s
  · exact .refl s

theorem State.scanStepBegin_frame (s : State) (x : TunerId) : TunerFrame s (s.scanStepBegin x) := by
  unfold State.scanStepBegin
  split
  · exact (s.handOut_frame x).trans (State.setTuner_frame _ _ _)
  · exact .refl s

theorem State.scanMeasurement_frame (s : State) (x : TunerId) (f m : Nat) : TunerFrame s (s.scanMeasurement x f m) := by
  unfold State.scanMeasurement
  dsimp only
  split
  · exact s.setTuner_frame _ _
  · exact .refl s

theorem State.scanResults_frame (s : State) (f : Nat) (m : Measurement) (items : List DataItem) :
    TunerFrame s (s.scanResults f m items) := by
  unfold State.scanResults
  split
  · exact .refl s
  · extract_lets t
    have h1 : TunerFrame s t := (s.refreshStation_frame _ _).trans (TunerFrame.foldl _ (fun t i => t.applyItem_frame f i) _ _)
    split
    · split
      · exact h1.trans (State.notifyCode_frame _ _)
      · exact h1
    · exact h1

/-- A break of the pairing ends (R75). -/
theorem State.breakEnd_frame (s : State) :
    TunerFrame s (if s.tuners.link = .broken then { s with tuners.link := .none } else s) := by
  split
  · exact ⟨rfl, by simp, .refl _⟩
  · exact .refl s

theorem State.scanStepComplete_frame (s : State) (x : TunerId) : TunerFrame s (s.scanStepComplete x) := by
  unfold State.scanStepComplete
  dsimp only
  split
  · refine TunerFrame.trans ?_ (State.arbitrate_frame _)
    refine TunerFrame.trans ?_ (State.scanResults_frame _ _ _ _)
    refine TunerFrame.trans ?_ (State.breakEnd_frame _)
    exact (s.reserve_frame x none).trans (State.setTuner_frame _ _ _)
  · exact .refl s

theorem State.scanIntervalExpiry_frame (s : State) : TunerFrame s s.scanIntervalExpiry := by
  unfold State.scanIntervalExpiry
  split
  · refine s.unpair_frame.trans ?_
    exact ⟨rfl, by simp, .refl _⟩
  · exact .refl s

theorem State.afCheckMeasurement_frame (s : State) (x : TunerId) (f m : Nat) :
    TunerFrame s (s.afCheckMeasurement x f m) := by
  unfold State.afCheckMeasurement
  dsimp only
  split
  · exact s.setTuner_frame _ _
  · exact .refl s

theorem State.handOver_frame (s : State) (c : Nat) (m : Measurement) (k : Option Nat) : TunerFrame s (s.handOver c m k) := by
  unfold State.handOver
  dsimp only
  split
  · exact (s.refreshStation_frame _ _).trans (State.applyCode_frame _ _ _)
  · exact s.refreshStation_frame _ _

theorem State.afCheckEnd_frame (s : State) (x : TunerId) (code : Option (BitVec 16)) : TunerFrame s (s.afCheckEnd x code) := by
  unfold State.afCheckEnd
  dsimp only
  split
  · split
    · refine TunerFrame.trans ?_ (State.arbitrate_frame _)
      split
      · refine TunerFrame.trans ?_ (State.concludeSearch_frame _ _ _ _)
        refine TunerFrame.trans ?_ (State.handOver_frame _ _ _ _)
        exact (s.setTuner_frame x _).trans (State.setTuner_frame _ _ _)
      · refine TunerFrame.trans ?_ (State.handOver_frame _ _ _ _)
        exact (s.setTuner_frame x _).trans (State.setTuner_frame _ _ _)
    · refine TunerFrame.trans ?_ (State.arbitrate_frame _)
      refine TunerFrame.trans ?_ (State.handOver_frame _ _ _ _)
      exact (s.setTuner_frame x _).trans (State.setTuner_frame _ _ _)
  · exact .refl s

theorem State.retuneSettle_frame (s : State) (x : TunerId) : TunerFrame s (s.retuneSettle x) := by
  unfold State.retuneSettle
  dsimp only
  split
  · exact ((s.setTuner_frame _ _).trans (.ofRoute (State.notifyTuner_frame _ _ _))).trans (State.arbitrate_frame _)
  · exact ((s.setTuner_frame _ _).trans (.ofRoute (State.notifyTuner_frame _ _ _))).trans (State.arbitrate_frame _)
  · exact .refl s

theorem State.selfAfJumpEnd_frame (s : State) (x : TunerId) (f m : Nat) : TunerFrame s (s.selfAfJumpEnd x f m) := by
  unfold State.selfAfJumpEnd
  dsimp only
  split
  · split
    · refine TunerFrame.trans ?_ (State.arbitrate_frame _)
      split
      · refine TunerFrame.trans ?_ (State.concludeSearch_frame _ _ _ _)
        refine TunerFrame.trans ?_ (.ofRoute (State.notifyTuner_frame _ _ _))
        exact TunerFrame.trans (s.setTuner_frame _ _) (State.handOver_frame _ _ _ _)
      · refine TunerFrame.trans ?_ (.ofRoute (State.notifyTuner_frame _ _ _))
        exact TunerFrame.trans (s.setTuner_frame _ _) (State.handOver_frame _ _ _ _)
    · exact (((s.setTuner_frame _ _).trans (State.handOver_frame _ _ _ _)).trans
        (.ofRoute (State.notifyTuner_frame _ _ _))).trans (State.arbitrate_frame _)
  · exact .refl s

theorem State.afConfirmTimeout_frame (s : State) (x : TunerId) : TunerFrame s (s.afConfirmTimeout x) := by
  unfold State.afConfirmTimeout
  split
  · exact (s.confirm_frame _ _).trans (State.arbitrate_frame _)
  · exact .refl s

/-! ## Gain path, alerts, jacks, lines -/

theorem State.thermalReading_frame (s : State) (sensor : Int) :
    RouteFrame { s with thermal := s.thermal.taken sensor } (s.thermalReading sensor) := by
  unfold State.thermalReading
  extract_lets t u
  have h1 : RouteFrame t u := by
    show RouteFrame t (if _ then _ else _)
    split
    · exact .refl t
    · exact t.retargetWhere_frame _ _
  exact h1.trans (State.raiseIf_frame _ _ _)

theorem State.jackChange_frame (s : State) (o : HpOut) :
    TunerFrame { s with jacks := (s.jackChange o).jacks, mixer := (s.jackChange o).mixer } (s.jackChange o) ∧
      (s.jackChange o).mixer.alertFloor = s.mixer.alertFloor := by
  unfold State.jackChange
  extract_lets present t u
  have h1 : VolumeFrame t u := by
    show VolumeFrame t (if _ then _ else _)
    split
    · unfold State.safeStart
      split
      · exact t.setVolume_frame _ _
      · exact .refl t
    · exact .refl t
  have h2 : TunerFrame u (((u.listenerNotice (hpZone o)).raise .headphone).arbitrate) :=
    ((TunerFrame.ofRoute (u.notice_frame _ _ u.refresh_evolves)).trans (.ofRoute (State.raise_frame _ _))).trans
      (State.arbitrate_frame _)
  have m : (((u.listenerNotice (hpZone o)).raise .headphone).arbitrate).mixer = u.mixer := h2.mixer
  have j : (((u.listenerNotice (hpZone o)).raise .headphone).arbitrate).jacks = t.jacks := by
    rw [h2.rest]; show u.jacks = t.jacks; rw [h1.frame.rest]
  have e : ({ s with jacks := t.jacks, mixer := u.mixer } : State) = { t with mixer := u.mixer } := by
    cases o <;> rfl
  have f : t.mixer.alertFloor = s.mixer.alertFloor := by simp [t]
  rw [m, j, e]
  exact ⟨(TunerFrame.ofRoute h1.frame).trans h2, h1.floor.trans f⟩

/-- An update of the direct lines' records does not meet the table. -/
structure LineFrame (l : Prop) (s t : State) : Prop where
  frame : TableFrame (fun r => r.owner = 7) l { s with lines := t.lines } t

theorem LineFrame.refl {l : Prop} (s : State) : LineFrame l s s := ⟨.refl s⟩

theorem LineFrame.trans {l : Prop} {s t u : State} (h : LineFrame l s t) (k : LineFrame l t u) : LineFrame l s u := by
  obtain ⟨a1, a2, a3, a4⟩ := h.frame
  obtain ⟨b1, b2, b3, b4⟩ := k.frame
  have e : t.sup = s.sup := by rw [a1]
  have m : t.mixer = s.mixer := by rw [a1]
  refine ⟨⟨?_, ?_, ?_, fun x => b4 (a4 x)⟩⟩
  · refine b1.trans ?_
    conv_lhs => rw [a1]
  · dsimp only at a2 b2 ⊢
    rw [← b2, ← a2]; simp only [BitVec.or_assoc]; simp [← BitVec.or_assoc]
  · intro n i
    dsimp only at a3 b3 ⊢
    rw [e, m] at b3
    rcases b3 n i with ⟨r, j, f⟩ | ⟨x, y⟩
    · rcases a3 r j with ⟨q, w, g⟩ | ⟨x, y⟩
      · exact .inl ⟨q, w, g.trans f⟩
      · exact .inr ⟨stays_owner 7 _ _ f.same x, y.evolves f⟩
    · exact .inr ⟨x, y⟩

theorem LineFrame.ofTable {l : Prop} {s t : State} (h : TableFrame (fun r => r.owner = 7) l s t) : LineFrame l s t := by
  have e := h.lines
  constructor
  rw [e]; exact h

theorem State.lines_frame (l : Prop) (s : State) (q : Quad Line) : LineFrame l s { s with lines := q } := ⟨.refl _⟩

theorem LineFrame.foldl {α : Type} {l : Prop} (f : State → α → State) (h : ∀ t a, LineFrame l t (f t a)) (xs : List α)
    (s : State) : LineFrame l s (xs.foldl f s) := by
  induction xs generalizing s with
  | nil => exact .refl s
  | cons a xs ih => exact (h s a).trans (ih _)

theorem State.assertLine_frame (s : State) (i : Fin 4) :
    LineFrame (Between (-240) 0 (s.lines.get i).level) s (s.assertLine i) := by
  unfold State.assertLine
  extract_lets l s0
  have h0 : LineFrame (Between (-240) 0 l.level) s s0 := s.lines_frame _ _
  split
  · refine h0.trans (LineFrame.foldl _ (fun t z => ?_) _ _)
    exact (LineFrame.ofTable (t.openAlert_frame i z l.pattern l.level)).trans (State.lines_frame _ _ _)
  · exact h0

theorem State.releaseLine_frame (l : Prop) (s : State) (i : Fin 4) (h : Rising s.routes) : LineFrame l s (s.releaseLine i) := by
  unfold State.releaseLine
  exact (LineFrame.ofTable (s.autoRetire_frame _ l (stays_owner 7) _ h)).trans (State.lines_frame _ _ _)

theorem State.lineDebounceExpiry_frame (s : State) (i : Fin 4) (h : Rising s.routes) :
    LineFrame (Between (-240) 0 (s.lines.get i).level) s (s.lineDebounceExpiry i) := by
  unfold State.lineDebounceExpiry
  split
  · split
    · exact s.releaseLine_frame _ _ h
    · exact s.assertLine_frame i
  · exact .refl s

/-- A change of a route that no law of routes reads. -/
theorem State.onSlot_frame (s : State) (slot : Nat) (f : Route → Route)
    (h : ∀ r, Evolves s.sup.state s.mixer.alertFloor r (f r)) : RouteFrame s { s with routes := onSlot slot f s.routes } :=
  ⟨rfl, by simp, onSlot_each _ _ _ (fun r _ _ => h r)⟩

theorem State.alertCut_frame (l : Prop) (s : State) (slot : Nat) (h : Rising s.routes) : LineFrame l s (s.alertCut slot) := by
  unfold State.alertCut
  split
  · exact .refl s
  · split
    · extract_lets s1 s2
      have h1 : TableFrame (fun r => r.owner = 7) l s s1 := by
        refine .ofRoute (s.onSlot_frame slot _ (fun r => ?_))
        exact ⟨.refl r, fun c => ⟨c.cause, c.silent, c.leaving, c.marked, c.alert⟩, fun _ _ q => q, fun _ g => g, by simp_all⟩
      have h2 : LineFrame l s s2 := .ofTable ((h1.trans (stays_owner 7)
        (s1.retireSlots_frame _ l (stays_owner 7) _ _ _ (h1.rising h))).trans (stays_owner 7) (.ofRoute (State.raise_frame _ _)))
      split
      · exact h2.trans (State.lines_frame _ _ _)
      · exact h2
    · exact .refl s

theorem State.tonePatternEnd_frame (p : Route → Prop) (l : Prop) (k : Stays p) (s : State) (slot : Nat) (h : Rising s.routes) :
    TableFrame p l s (s.tonePatternEnd slot) := by
  unfold State.tonePatternEnd
  split
  · exact .refl s
  · split
    · split
      · exact .refl s
      · have h1 : RouteFrame s { s with routes := onSlot slot (fun r => { r with play := none }) s.routes } := by
          refine s.onSlot_frame slot _ (fun r => ?_)
          exact ⟨.refl r, fun c => ⟨c.cause, c.silent, c.leaving, c.marked, c.alert⟩, fun _ _ q => q, fun _ g => g, by simp_all⟩
        exact (TableFrame.ofRoute h1).trans k (State.retireSlots_frame p l k _ _ _ _ (h1.each.rising h))
    · exact .refl s

/-! ## QUIET -/

/-- The forced removals of QUIET entry (R31) leave of the routes only those that are kept. -/
theorem State.forceRemovals_frame (p : Route → Prop) (l : Prop) (k : Stays p) (s : State) : TableFrame p l s s.forceRemovals := by
  unfold State.forceRemovals
  extract_lets gone t u
  have h1 : TableFrame p l s t := TableFrame.foldl k _ (fun t i => State.removeRoute_frame p l k t i true) _ _
  have h2 : TableFrame p l s u := by
    refine h1.trans k ?_
    show TableFrame p l t (if _ then _ else _)
    split
    · exact .ofRoute (State.referenceChange_frame _)
    · exact .refl _
  exact h2.trans k (.ofRoute (State.rerunAll_frame _ _))

theorem State.quietTuners_frame (s : State) : TunerFrame s s.quietTuners := by
  unfold State.quietTuners
  extract_lets t
  have h1 : TunerFrame s t := (s.cancelScan_frame _).trans (State.cancelScan_frame _ _)
  refine h1.trans ?_
  exact ⟨rfl, by simp, .refl _⟩

theorem State.quietStations_frame (s : State) : TunerFrame s s.quietStations := ⟨rfl, by simp, .refl _⟩

theorem State.leaveQuiet_frame (s : State) : PhoneFrame { s with sup.state := .run } s.leaveQuiet := by
  unfold State.leaveQuiet
  extract_lets _ t
  split
  · have h := (t.setPhone_frame t.phone.toNegotiating).frame
    have a := State.arbitrate_frame (t.setPhone t.phone.toNegotiating)
    constructor
    have e : (t.setPhone t.phone.toNegotiating).arbitrate.phone = (t.setPhone t.phone.toNegotiating).phone := a.phone
    have f := a.freeCount
    rw [e, f]
    exact h.trans a
  · have a := t.arbitrate_frame
    constructor
    have e : t.arbitrate.phone = t.phone := a.phone
    have f : t.arbitrate.freeCount = t.freeCount := a.freeCount
    rw [e, f]
    exact a

end Sys2Proof.Machine
end

