-- ==== Sys2Proof/Laws/Following.lean ====
section
/-! SUPPORT. What the choice among candidates found gives (R81, R82), and what frames do to the phone port (R122). -/

namespace Sys2Proof.Machine

/-- A candidate stays the better one over every later candidate of no higher quality. -/
theorem betterCandidate_keeps (y : Nat × Nat) (later : List (Nat × Nat)) (h : ∀ z ∈ later, z.2 ≤ y.2) :
    later.foldl (fun b c => betterCandidate b c.1 c.2) (some y) = some y := by
  induction later with
  | nil => rfl
  | cons z zs ih =>
    have hz : ¬y.2 < z.2 := Nat.not_lt.mpr (h z (List.mem_cons_self ..))
    simp only [List.foldl_cons, betterCandidate, hz, if_false]
    exact ih fun w hw => h w (List.mem_cons_of_mem _ hw)

/-- What stands as the better one is none or a candidate passed, or what stood before. -/
theorem betterCandidate_mem (b : Option (Nat × Nat)) (cs : List (Nat × Nat)) :
    ∀ y, cs.foldl (fun b c => betterCandidate b c.1 c.2) b = some y → b = some y ∨ y ∈ cs := by
  induction cs generalizing b with
  | nil => exact fun y h => .inl h
  | cons c cs ih =>
    intro y h
    rcases ih _ y h with h1 | h1
    · cases b with
      | none =>
        simp only [betterCandidate, Option.some.injEq] at h1
        exact .inr (h1 ▸ List.mem_cons_self ..)
      | some q =>
        simp only [betterCandidate] at h1
        split at h1
        · simp only [Option.some.injEq] at h1
          exact .inr (h1 ▸ List.mem_cons_self ..)
        · exact .inl h1
    · exact .inr (List.mem_cons_of_mem _ h1)

/-- The best candidate is one of those found (R81). -/
theorem bestCandidate_mem {found : List (Nat × Nat)} {y : Nat × Nat} (h : bestCandidate found = some y) : y ∈ found := by
  rcases betterCandidate_mem none found y h with h1 | h1
  · cases h1
  · exact h1

/-- The candidate of highest quality, the earlier on a tie, is the best (R81, R82). -/
theorem bestCandidate_split (before later : List (Nat × Nat)) (y : Nat × Nat) (hb : ∀ z ∈ before, z.2 < y.2)
    (hl : ∀ z ∈ later, z.2 ≤ y.2) : bestCandidate (before ++ y :: later) = some y := by
  have e : betterCandidate (bestCandidate before) y.1 y.2 = some y := by
    cases h : bestCandidate before with
    | none => rfl
    | some z => simp [betterCandidate, hb z (bestCandidate_mem h)]
  unfold bestCandidate at e ⊢
  rw [List.foldl_append, List.foldl_cons, e]
  exact betterCandidate_keeps y later hl

/-- Frames change nothing of the phone port but its word count, and that only in a link state that sends words (R122). -/
theorem Phone.framesOn_rest (p : Phone) (n : Nat) :
    p.framesOn n = { p with wordCount := if p.wordSent.isSome then (p.wordCount + n) % 32 else p.wordCount } := by
  unfold Phone.framesOn
  split <;> rfl

end Sys2Proof.Machine
end

