-- ==== Sys2Proof/Machine/Audio.lean ====
section
/-! DEFINITION. The samples (R54 to R57, R121, R140, R141, R149, R154, R155): what each source gives and what the outputs
and the frames to the module carry at a sample time, given what the inputs deliver. No command is a sample time, so no
step calls these; they read the same records. -/

namespace Sys2Proof.Machine

/-! ## Linear factors (R54) -/

/-- Whether 2n - 1 ≤ 2^24·10^(g/80), that is n ≤ round-half-up(2^23·10^(g/80)), in whole numbers (R54). -/
def withinFactor (g : Int) (n : Nat) : Bool :=
  (2 * n - 1) ^ 80 * 10 ^ (-g).toNat ≤ (2 ^ 24) ^ 80 * 10 ^ g.toNat

/-- The largest number within the factor, found bit by bit from bit `bits - 1`. -/
def factorSearch (g : Int) (bits acc : Nat) : Nat :=
  match bits with
  | 0 => acc
  | b + 1 => factorSearch g b (if withinFactor g (acc + 2 ^ b) then acc + 2 ^ b else acc)

/-- The linear factor of a gain: round-half-up(2^23·10^(g/80)), for gains up to 96 q (R54, R149). -/
def factor (g : Int) : Nat := factorSearch g 28 0

/-! ## Rounding and limits -/

/-- A quotient rounded half up, for a positive divisor. -/
def roundHalfUp (x d : Int) : Int := (2 * x + d) / (2 * d)

/-- The 24-bit range (R55). -/
def limit24 (x : Int) : Int := fit (-8388608) 8388607 x

/-! ## Tones (R154) -/

/-- Whether `y` is sample `n` of a segment of frequency `f` Hz and level `k` q: round-half-up of
8388607·10^(-k/80)·sin(2π·f·n/48000); a silent segment gives 0 (R154). -/
def IsToneSample (f k n : Nat) (y : Int) : Prop :=
  let x : ℝ := 8388607 * (10 : ℝ) ^ (-(k : ℝ) / 80) * Real.sin (2 * Real.pi * f * n / 48000)
  if f = 0 then y = 0 else (y : ℝ) ≤ x + 1 / 2 ∧ x + 1 / 2 < (y : ℝ) + 1

/-- The segment an element plays; the gap plays none (R154). -/
def Pattern.segment (p : Pattern) (e : Element) : Option Segment :=
  match e with
  | .segment1 => some p.s1
  | .segment2 => some p.s2
  | .segment3 => some p.s3
  | .gap => none

/-- The segment a route's tone or ring stands in, with the milliseconds spent in it; none in the gap, before a ring starts
and from the end of a finite pattern on (R154, R155). -/
def State.sounding (s : State) (r : Route) : Option (Segment × Nat) :=
  match r.play, s.playing r with
  | some x, some (p, _) =>
    match p.segment x.element with
    | some g => if x.time < g.duration then some (g, x.time) else none
    | none => none
  | _, _ => none

/-- Whether `y` is the mono sample of a route's tone or ring at 48 kHz sample `k`, 0..47, of the present millisecond: the
formula of the segment it stands in, else 0 (R154, R155). -/
def State.IsPatternSample (s : State) (r : Route) (k : Nat) (y : Int) : Prop :=
  match s.sounding r with
  | some (g, time) => IsToneSample g.frequency g.level (48 * time + k) y
  | none => y = 0

/-! ## Frames with the module (R121, R122) -/

/-- One frame in one direction: the audio slot and the control slot (R121). -/
structure Frame where
  audio : BitVec 16
  control : BitVec 16
  deriving DecidableEq, Repr

/-- The bits of a frame in the order of the bit clock, the first the most significant (R121). -/
def Frame.bits (f : Frame) : BitVec 32 := f.audio ++ f.control

/-- The frame of 32 bits received (R121). -/
def Frame.ofBits (b : BitVec 32) : Frame := { audio := b.extractLsb' 16 16, control := b.extractLsb' 0 16 }

/-- The downlink sample of a received frame as a 24-bit sample (R121). -/
def Frame.downlink (f : Frame) : Int := 256 * f.audio.toInt

/-- The mono sample a LEG source on an ACTIVE leg gives: while UP, the downlink converted to 48 kHz, from the frames
received, latest first, and the number of 48 kHz samples formed before; silence in every other state (R121). -/
def Phone.downlink (p : Phone) (received : List Frame) (formed : Nat) : Int :=
  match p.link, p.mode with
  | .up, some m => Config.toOutputRate m.kHz (received.map Frame.downlink) formed
  | _, _ => 0

/-- The audio slot of data out: while UP and where the Call Processor gives an uplink, its samples, latest first, converted
to the mode's rate, divided by 256, rounded half up and limited; else 0 (R121). -/
def Phone.audioSlot (p : Phone) (uplink : Option (List Int)) (formed : Nat) : Int :=
  match p.link, p.mode, uplink with
  | .up, some m, some ys => fit (-32768) 32767 (roundHalfUp (Config.toModeRate m.kHz ys formed) 256)
  | _, _, _ => 0

/-- The next frame of data out (R121, R122). It is formed from the port's records alone, so a part held in reset goes on
giving the word and audio of the records it keeps (DESIGN CHOICE, log entry 47: R174 does not name data out). -/
def Phone.frameSent (p : Phone) (uplink : Option (List Int)) (formed : Nat) : Frame :=
  { audio := BitVec.ofInt 16 (p.audioSlot uplink formed), control := p.controlSlot }

/-! ## Sources (R55) -/

/-- What the inputs deliver at one 48 kHz sample time: the left and right samples of each input stream and of the program
each tuner decodes (with its partner's signal combined in, R75), the frames received from the module, latest first, the
number of 48 kHz samples formed from them before, and which of the millisecond's 48 samples this is. -/
structure Inputs where
  stream : Nat → Int × Int
  program : TunerId → Int × Int
  frames : List Frame
  formed : Nat
  k : Nat

/-- Whether `y` is the mono sample of a LEG source: the ring while its leg is RINGING, the downlink while it is ACTIVE,
silence while it is HELD and once it is closed (R55, R140, R141, R155). -/
def State.IsLegSample (s : State) (x : Inputs) (r : Route) (id : Nat) (reuse : Byte) (y : Int) : Prop :=
  match s.leg id reuse with
  | none => y = 0
  | some l =>
    match l.state with
    | .ringing => s.IsPatternSample r x.k y
    | .active => y = s.phone.downlink x.frames x.formed
    | .held => y = 0

/-- Whether `y` is the pair of left and right samples a route's source gives (R55): mono sources give one sample on both
sides, and a TUNER source without a tuner gives none. -/
def State.IsSourceSample (s : State) (x : Inputs) (r : Route) (y : Int × Int) : Prop :=
  match r.source with
  | .stream n => y = x.stream n
  | .tone _ => y.1 = y.2 ∧ s.IsPatternSample r x.k y.1
  | .leg id reuse => y.1 = y.2 ∧ s.IsLegSample x r id reuse y.1
  | .tunerFrequency _ | .tunerCode _ => y = (r.tuner.map x.program).getD (0, 0)

/-! ## Cabin channels, headphones, echo reference (R55 to R57) -/

/-- Membership of a zone in a channel's set; HP zones have no entries (R36). -/
def CabinSet.has (c : CabinSet) (z : Zone) : Bool :=
  match z with
  | .cabin => c.cabin
  | .front => c.front
  | .driver => c.driver
  | _ => false

/-- The factor of a gain on a channel; none where it contributes nothing: MUTE, or below -384 q (R54). -/
def factorOf (g : Gain) (weight : Int) : Option Nat :=
  match g with
  | .mute => none
  | .q a => if a + weight < -384 then none else some (factor (a + weight))

/-- The sample a channel takes of a source's left and right samples: side C takes their sum (R55). -/
def Side.take (x : Side) (sample : Int × Int) : Int :=
  match x with
  | .left => sample.1
  | .right => sample.2
  | .centre => sample.1 + sample.2

/-- The accumulation of some routes' samples (R55). -/
def accumulate (rs : List Route) (taken : Route → Int) (f : Route → Option Nat) : Int :=
  rs.foldl
    (fun acc r =>
      match f r with
      | some k => acc + taken r * (k : Int)
      | none => acc) 0

/-- One sample of cabin channel index `i` (R55). -/
def State.channelSample (s : State) (i : Nat) (sample : Route → Int × Int) : Int :=
  let c := s.mixer.speaker i
  let acc :=
    accumulate (s.routes.filter (fun r => c.member.has r.zone)) (fun r => c.side.take (sample r))
      (fun r => factorOf r.applied (s.mixer.weight r.zone i))
  limit24 (roundHalfUp acc (if c.side = .centre then 2 ^ 24 else 2 ^ 23))

/-- One sample of a cabin output slot 1..24: slots 21 to 24 carry zero (R36). -/
def State.cabinSlot (s : State) (slot : Nat) (sample : Route → Int × Int) : Int :=
  if 1 ≤ slot && slot ≤ 20 then s.channelSample (slot - 1) sample else 0

/-- One sample of a headphone output, left or right (R56). -/
def State.headphoneSample (s : State) (z : Zone) (side : Side) (sample : Route → Int × Int) : Int :=
  limit24
    (roundHalfUp
      (accumulate (s.routes.filter (fun r => r.zone = z)) (fun r => side.take (sample r)) (fun r => factorOf r.applied 0))
      (2 ^ 23))

/-- One sample of the echo reference (R57). -/
def State.referenceSample (s : State) (sample : Route → Int × Int) : Int :=
  limit24
    (roundHalfUp
      (accumulate (s.routes.filter (fun r => r.zone.domain = .cabinGroup && r.state.sounding))
        (fun r => (sample r).1 + (sample r).2) (fun r => factorOf r.applied 0))
      (2 ^ 24))

/-! ## Uplink (R149) -/

/-- The contribution gain of a microphone by its canceller (R149). -/
def contributionGain (gain : Nat) (c : Canceller) : Int := if c = .converged then gain else (gain : Int) - 36

/-- One uplink sample from the residuals of the included microphones; none while the uplink does not run (R149). -/
def State.uplinkSample (s : State) (residual : Seat → Int) : Option Int :=
  match s.calls.active with
  | none => none
  | some l =>
    if s.phone.link ≠ .up then none
    else
      let xs := allSeats.filter s.calls.included
      if l.mute || xs.isEmpty then some 0
      else
        let acc :=
          xs.foldl
            (fun a x =>
              a + residual x * (factor (contributionGain l.gain (s.calls.mics.get (seatIndex x)).canceller) : Int)) 0
        some (limit24 (roundHalfUp acc (2 ^ 23 * xs.length)))

/-! ## What the outputs carry -/

/-- Whether `sample` gives every route the samples its source gives (R55). -/
def State.AreSamples (s : State) (x : Inputs) (sample : Route → Int × Int) : Prop :=
  ∀ r ∈ s.routes, s.IsSourceSample x r (sample r)

/-- Whether a cabin output slot, 1..24, carries `y` (R36, R55). -/
def State.CabinSlotCarries (s : State) (x : Inputs) (slot : Nat) (y : Int) : Prop :=
  ∃ sample, s.AreSamples x sample ∧ y = s.cabinSlot slot sample

/-- Whether the left and right outputs of a headphone zone carry `y` (R56). -/
def State.HeadphoneCarries (s : State) (x : Inputs) (z : Zone) (y : Int × Int) : Prop :=
  ∃ sample, s.AreSamples x sample ∧ y = (s.headphoneSample z .left sample, s.headphoneSample z .right sample)

/-- Whether the echo reference is `y` (R57). -/
def State.ReferenceIs (s : State) (x : Inputs) (y : Int) : Prop :=
  ∃ sample, s.AreSamples x sample ∧ y = s.referenceSample sample

end Sys2Proof.Machine
end

