-- ==== Sys2Proof/Tests/Slice0.lean ====
section
/-! SUPPORT. Tests of the model: the checks of WellFormed refuse what is ill formed, transfers written out decode, each
statement of the obligations has states that meet its hypotheses, and commands on small states do what the manual says. -/

set_option maxRecDepth 100000

namespace Sys2Proof.Tests

open Sys2Proof Sys2Proof.Machine

/-! ## Well-formed commands -/

theorem test_wf_refuses_long_payload : (Instr.keepalive 0 (List.replicate 61 0)).wf = false := by decide
theorem test_wf_takes_longest_payload : (Instr.keepalive 0 (List.replicate 60 0)).wf = true := by decide
theorem test_wf_refuses_unknown_code_zero : (Instr.unknownRequest 0 0 []).wf = false := by decide
theorem test_wf_refuses_known_code : (Instr.unknownRequest 0x83 0 []).wf = false := by decide
theorem test_wf_refuses_empty_frame : (Instr.badFrame []).wf = false := by decide
theorem test_wf_refuses_read_as_frame : (Instr.badFrame [0, 1]).wf = false := by decide
theorem test_wf_refuses_good_frame : (Instr.badFrame [0x83, 0x01, 0x00, 0x88]).wf = false := by decide
theorem test_wf_refuses_read_of_nothing : (Instr.readTransfer 0).wf = false := by decide
theorem test_wf_refuses_slot_zero : (Instr.rampStep 0).wf = false := by decide
theorem test_wf_refuses_slot_25 : (Instr.alertCut 25).wf = false := by decide
theorem test_wf_takes_slot_24 : (Instr.tonePatternEnd 24).wf = true := by decide
theorem test_wf_refuses_code_zero : (Instr.dataItemDecoded .t1 (.programCode 0)).wf = false := by decide
theorem test_wf_refuses_even_position : (Instr.dataItemDecoded .t1 (.nameSegment 2 65 65)).wf = false := by decide
theorem test_wf_refuses_control_character : (Instr.dataItemDecoded .t1 (.nameSegment 1 31 65)).wf = false := by decide
theorem test_wf_refuses_decoded_code_zero : (Instr.afCheckEnd .t1 (some 0)).wf = false := by decide

/-! ## Transfers written out (9.3, 9.6); the frame of KEEPALIVE is the one R169 works out -/

theorem test_decode_keepalive : decodeTransfer [0x83, 0x01, 0x00, 0x88] = some (.keepalive 1 []) := by decide
theorem test_decode_wrong_check :
    decodeTransfer [0x83, 0x01, 0x00, 0x89] = some (.badFrame [0x83, 0x01, 0x00, 0x89]) := by decide
theorem test_decode_short_frame : decodeTransfer [0x83, 0x01] = some (.badFrame [0x83, 0x01]) := by decide
theorem test_decode_read : decodeTransfer [0x00, 0x00, 0x00] = some (.readTransfer 3) := by decide
theorem test_decode_nothing : decodeTransfer [] = none := by decide
theorem test_decode_unknown : decodeTransfer (requestFrame 0x01 0 []) = some (.unknownRequest 1 0 []) := by decide
theorem test_decode_zone_volume :
    decodeTransfer (requestFrame 0x20 2 [3, 0, 12]) = some (.zoneVolume 2 [3, 0, 12]) := by decide

/-! ## States to test on -/

/-- The state a command answers with; itself where it answers none. -/
def after (i : Instr) (s : State) : State :=
  match exec i s with
  | .next t => t
  | .fault _ => s
  | .refused _ => s

/-- The response a command leaves UNREAD, without its check byte. -/
def answer (i : Instr) (s : State) : List Byte :=
  match (after i s).port.buffer with
  | .unread r => r.dropLast
  | .empty => []
  | .read _ => []

/-- The part running with nothing to report: a state for requests. -/
def idle : State := State.reset

/-- The part in LIMP. -/
def limp : State := { State.reset with sup.state := .limp }

/-- The part in QUIET. -/
def quiet : State := { State.reset with sup.state := .quiet }

/-- The part held in reset by RESET_N. -/
def held : State := { State.reset with pins.resetN := false, port.phase := .held }

/-- A MEDIA route of owner 1 on CABIN, PLAYING at its target. -/
def media : Route :=
  { slot := 1, reuse := 0, owner := 1, zone := .cabin, cls := .media, source := .stream 0, level := 0, ramp := .slow,
    maxDuration := none, state := .playing, cause := none, applied := .q (-170), duck := 0, rank := 1, tuner := none,
    cut := false, condition := .available, fadeMark := false, target := some (.q (-170)), step := .slow, running := false,
    play := none, age := 0, line := none }

/-- An ALERT route of direct line 0 in slot 2 on CABIN, PLAYING tone pattern 0. -/
def alert : Route :=
  { media with
    slot := 2, owner := 7, cls := .alert, source := .tone 0, maxDuration := some 30, rank := 2, line := some 0
    play := some { cycle := 0, element := .segment1, time := 5 } }

/-- A PENDING route in slot 3: MEDIA of owner 1 on HP1 without a listener. -/
def waits : Route :=
  { media with
    slot := 3, zone := .hp1, state := .pending, cause := some .noListener, applied := .mute, target := none }

/-- The part with the routes given. -/
def withRoutes (rs : List Route) : State := { State.reset with routes := rs }

theorem test_reset_ends_start_up :
    { State.reset.startUp .powerOn .a with port := State.reset.port } = State.reset := by decide
theorem test_start_up_response : answer .startUpEnd { State.reset with port.phase := .startUp } = [0, 0, 3, 0, 0, 0] := by
  decide

/-! ## Witnesses: the queue, transfers and what requests have in common -/

theorem phone_consistent : idle.phone.Consistent :=
  ⟨by decide, (by intro m h; cases h), by decide, by decide, by decide, by decide⟩

theorem witness_StepRunsFrontCommand :
    ({ idle with pending := [.weightRampStep, .readTransfer 1] } : State).pending = [.weightRampStep, .readTransfer 1] ∧
    (idle.pending = [] ∧ idle.Works ∧ idle.phone.Consistent) ∧ (held.pending = [] ∧ ¬held.Works) ∧
    (alert.play = some ⟨0, .segment1, 5⟩ ∧ ∃ q n, idle.playing alert = some (q, n)) ∧ media.play = none :=
  ⟨rfl, ⟨rfl, by unfold State.Works; decide, phone_consistent⟩, ⟨rfl, by unfold State.Works; decide⟩,
    ⟨rfl, _, _, rfl⟩, rfl⟩

theorem witness_CommandsCompleteAndKeepTheQueue :
    (Instr.alertCut 24).wf = true ∧ ∃ t, exec (.alertCut 24) idle = .next t := ⟨by decide, _, rfl⟩

theorem witness_DecodeOfEncode :
    (Instr.keepalive 1 []).wf = true ∧ encodeTransfer (.keepalive 1 []) = some [0x83, 0x01, 0x00, 0x88] := by decide

theorem witness_EncodeOfDecode :
    ([0x83, 0x01, 0x00, 0x88] : List Byte) ≠ [] ∧ ([0x83, 0x01, 0x00, 0x88] : List Byte).head? ≠ some 0#8 := by decide

theorem witness_ChecksRefuseRequests :
    requestOf (.zoneVolume 6 [0, 0, 40]) = some (.zoneVolume, 6, [0, 0, 40]) ∧
      5 < (6#8).toNat ∧ idle.takesRequests = true ∧
    (requestOf (.partReset 0 []) = some (.partReset, 0, []) ∧ Request.partReset.code = 0xF1) ∧
    (limp.takesRequests = true ∧ limp.sup.state = .limp ∧ Request.zoneVolume.limp = false) ∧
    (quiet.takesRequests = true ∧ quiet.sup.state = .quiet ∧ Request.resume.quiet = false) ∧
    Request.zoneBalance.rear = .never ∧
    (Request.zoneVolume.rear = .hpZone ∧ (0#8 ≠ 3 ∧ 0#8 ≠ 4)) ∧
    (let s := { idle with port.rearLock := true }
    s.takesRequests = true ∧ s.port.rearLock = true ∧ Request.keepalive.query = false ∧ s.sup.state = .run) := by
  decide

theorem witness_OtherTransfers :
    ((Instr.keepalive 1 []).wf = true ∧ encodeTransfer (.keepalive 1 []) = some [0x83, 0x01, 0x00, 0x88] ∧
      held.port.phase ≠ .running ∧ ({ idle with port.resetPending := some 1 } : State).port.resetPending.isSome = true) ∧
    (1#8 ≠ 0 ∧ inCatalogue 1 = false ∧ idle.takesRequests = true) ∧
    (frameGood [0x83, 0x01, 0x00, 0x89] = false ∧ frameGood [0x83, 0x01, 0x00, 0x88] = true ∧ inCatalogue 0x83 = true) := by
  decide

theorem witness_TakenRequestsAreAnswered :
    requestOf (.zoneVolume 0 [5, 0, 40]) = some (.zoneVolume, 0, [5, 0, 40]) ∧ idle.takesRequests = true ∧
      (after (.zoneVolume 0 [5, 0, 40]) idle).ready = true := by
  decide

theorem witness_ValidRequestsArmTheWatchdog :
    requestOf (.keepalive 1 []) = some (.keepalive, 1, []) ∧ idle.takesRequests = true ∧ idle.sup.state = .run ∧
      (after (.keepalive 1 []) idle).sup.period.ms = some 1000 ∧ idle.sup.left = none := by
  decide

theorem test_bad_frame_leaves_watchdog :
    answer (.badFrame [0x83, 0x01, 0x00, 0x89]) idle = [0x83, 1, 0] ∧
      (after (.badFrame [0x83, 0x01, 0x00, 0x89]) idle).sup.left = none := by
  decide

theorem test_unknown_request : answer (.unknownRequest 1 0 []) idle = [1, 2, 0] := by decide

/-! ## Witnesses: the invariants -/

/-- A part at work: three routes, an armed watchdog, an ACTIVE leg, a write in progress. -/
def busy : State :=
  { State.reset with
    routes := [media, alert, waits]
    sup.left := some 400
    store.writer := some { row := 30, data := Vector.replicate 15 0, left := 8 }
    calls.legs :=
      [{ id := 1, reuse := 0, owner := 1, state := .active, ring := 15, seats := ⟨true, false, false, false⟩, gain := 96,
         mute := false, order := 1 }] }

/-- A part in LIMP with a MEDIA route outranked. -/
def outranked : State :=
  { limp with routes := [{ media with state := .suspended, applied := .mute, target := none }, alert] }

theorem witness_GainPathStaysInRange :
    busy.mixer.InRange ∧ busy.thermal.InRange ∧ (∀ i, Between (-240) 0 (busy.lines.get i).level) ∧
      (∀ r ∈ busy.routes, r.GainsInRange) ∧ ∃ t, step busy = .next t := by
  refine ⟨⟨by decide, by decide, by decide, by decide, by decide, ?_, by decide, ?_, ?_⟩,
    ⟨?_, ?_, ?_, by decide, by decide, by decide⟩, ?_, ?_, _, rfl⟩
  · unfold Between; decide
  · unfold Between; decide
  · intro z i
    by_cases h : i < 20
    · unfold Between; revert i; cases z <;> decide
    · cases z <;> simp [Mixer.weight, tabGet, h, Between]
  · unfold Between; decide
  · unfold Between; decide
  · unfold Between; decide
  · unfold Between; decide
  · intro r hr
    simp only [busy, List.mem_cons, List.not_mem_nil, or_false] at hr
    rcases hr with rfl | rfl | rfl <;>
      refine ⟨by unfold Between; decide, ?_, ?_⟩ <;> simp [Gain.InRange, Between, media, alert, waits]

theorem witness_RouteTableStaysConsistent :
    busy.SlotsOrdered ∧ (∀ r ∈ busy.routes, r.Consistent) ∧ ∃ t, step busy = .next t := by
  refine ⟨by unfold State.SlotsOrdered; decide, ?_, _, rfl⟩
  intro r hr
  simp only [busy, List.mem_cons, List.not_mem_nil, or_false] at hr
  rcases hr with rfl | rfl | rfl <;> exact ⟨by decide, by decide, by decide, by decide, by decide⟩

theorem witness_RanksAndWinnersStayUnique :
    busy.SlotsOrdered ∧ busy.Ranked ∧ busy.OneWinner ∧ ∃ t, step busy = .next t := by
  refine ⟨by unfold State.SlotsOrdered; decide, ?_, by unfold State.OneWinner; decide, _, rfl⟩
  intro d
  cases d <;> decide

theorem witness_LimpStaysSilent : outranked.LimpSilent ∧ outranked.sup.state = .limp ∧ ∃ t, step outranked = .next t := by
  refine ⟨?_, rfl, _, rfl⟩
  unfold State.LimpSilent RouteClass.limpSilenced; decide

theorem witness_QuietStaysBare :
    let s := { quiet with routes := [alert] }
    s.QuietBare ∧ s.sup.state = .quiet ∧ ∃ t, step s = .next t ∧ t.sup.state = .quiet :=
  ⟨⟨by decide, by decide, by decide, by decide, by decide, by decide⟩, rfl, _, rfl, rfl⟩

theorem witness_TunersStayApartAndStationsOrdered :
    (({ idle with tuners.t1 := { Tuner.free with role := .program, frequency := some 8750 } } : State).TunersApart) ∧
      ({ State.reset.stations with records := [Station.new 8750, Station.new 8760] } : Stations).Ordered := by
  refine ⟨?_, by unfold Stations.Ordered; decide⟩
  intro f ⟨_, h⟩
  simp [Tuner.holds, idle, State.reset, Tuner.free] at h

theorem witness_PhonePortAndCallsStayConsistent :
    busy.phone.Consistent ∧ busy.calls.Consistent ∧ busy.calls.legs ≠ [] := by
  refine ⟨⟨by decide, ?_, by decide, by decide, by decide, by decide⟩,
    ⟨by decide, by decide, by decide, by decide, by decide⟩, by decide⟩
  intro m h; cases h

theorem witness_SupervisionStoreAndConditionsHold :
    busy.sup.Consistent ∧ busy.store.InRange ∧ busy.ConditionsPending ∧
      ({ limp with events.flags := 0x04000 } : State).ConditionsPending := by
  refine ⟨⟨?_, by decide⟩, ⟨by decide, ?_⟩, by unfold State.ConditionsPending; decide, by
    unfold State.ConditionsPending; decide⟩
  · intro n h
    simp only [busy, Option.some.injEq] at h
    subst h
    exact ⟨rfl, 1000, rfl, by decide⟩
  · intro w h
    simp only [busy, Option.some.injEq] at h
    subst h
    decide

/-! ## Zones, gain, derating; the numbers are those of 2.6, 2.11 and the rules -/

theorem witness_BalanceAndThermalRequests :
    idle.Accepts .zoneBalance 0 [0, 127, 128] ∧ idle.Accepts .zoneBalance 1 [1, 10, 0] ∧
    idle.Accepts .zoneBalance 5 [2, 0, 0] ∧ idle.Accepts .temperature 5 [0, 150] ∧ idle.Accepts .temperature 5 [] ∧
    idle.Accepts .derateSet 0 [1, 120, 15] ∧ idle.Accepts .derateSet 0 [0, 59, 1] ∧ idle.Accepts .derateSet 1 [0, 60, 1] ∧
    (limp.takesRequests = true ∧ limp.sup.state = .limp) ∧ (idle.sup.state ≠ .limp ∧ idle.port.rearLock = false) := by
  unfold State.Accepts; decide

theorem test_zone_balance : answer (.zoneBalance 0 [0, 127, 128]) idle = [0x21, 0, 3, 0, 10, 246] := by decide
theorem test_zone_balance_front : answer (.zoneBalance 0 [1, 247, 5]) idle = [0x21, 0, 3, 1, 247, 0] := by decide
theorem test_temperature : answer (.temperature 3 [0, 104]) idle = [0x24, 0, 5, 0, 104, 0, 0, 0] := by decide
theorem test_derate_set : answer (.derateSet 0 [1, 95, 5]) idle = [0x25, 0, 5, 1, 95, 5, 0, 0] := by decide
theorem test_derate_set_is_client_0s : answer (.derateSet 1 [1, 95, 5]) idle = [0x25, 8, 0] := by decide

/-- HP1 follows CABIN. -/
def follows : State := { withRoutes [media] with mixer.hp1.follow := true }

theorem witness_ZoneVolumeSetsSteps :
    idle.Accepts .zoneVolume 0 [0, 0, 255] ∧ zoneOf 0 = some .cabin ∧ idle.Accepts .zoneVolume 2 [4, 1, 128] ∧
    zoneOf 4 = some .hp2 ∧ idle.Accepts .zoneVolume 0 [5, 0, 0] ∧ idle.Accepts .zoneVolume 0 [0, 2, 0] := by
  unfold State.Accepts; decide

theorem test_zone_volume :
    answer (.zoneVolume 0 [0, 0, 255]) idle = [0x20, 0, 2, 0, 40] ∧
      answer (.zoneVolume 2 [3, 1, 127]) idle = [0x20, 0, 2, 3, 32] := by decide
theorem test_zone_volume_hands_on :
    (after (.zoneVolume 0 [0, 1, 251]) follows).mixer.hp1.volume = 10 ∧
      (after (.zoneVolume 0 [0, 1, 251]) follows).routes.map (fun r => r.target) = [some (.q (-220))] := by decide

theorem witness_DuckDepthsAndAlertLimits :
    idle.Accepts .duckDepths 0 [241, 240, 0] ∧ idle.Accepts .duckDepths 0 [] ∧ idle.Accepts .duckDepths 1 [1, 2, 3] ∧
    idle.Accepts .alertLimits 0 [0xFF, 0x0F, 0] ∧ idle.Accepts .alertLimits 0 [0] ∧ idle.Accepts .alertLimits 1 [0, 0, 121] ∧
    (idle.duckOf [media, alert] media ≠ 0 ∧ alert.zone.domain = media.zone.domain ∧ alert.state = .playing) := by
  unfold State.Accepts; decide

theorem test_duck_depths : answer (.duckDepths 0 [241, 240, 0]) idle = [0x23, 0, 3, 240, 240, 0] := by decide
theorem test_alert_limits : answer (.alertLimits 0 [0xFF, 0x0F, 0]) idle = [0x80, 0, 3, 0xFF, 0x10, 1] := by decide

theorem witness_RecomputedTargetsReAim :
    let s := { idle with mixer.cabin.volume := 30 }
    (waits.state ≠ .rising ∧ waits.state ≠ .playing) ∧
    (media.state = .playing ∧ media.fadeMark = false ∧ media.target ≠ some (s.computedTarget media)) ∧
    (media.cls ≠ .alert ∧ media.target = some (idle.computedTarget media)) ∧
    (let r := { media with state := .rising, applied := .mute }
    r.applied = .mute ∧ s.computedTarget r ≠ .mute ∧ r.target ≠ some (s.computedTarget r)) ∧
    (let r := { media with state := .rising, applied := s.computedTarget media, running := true }
    r.applied = s.computedTarget r ∧ r.target ≠ some (s.computedTarget r)) ∧
    (alert.cls = .alert ∧ ({ idle with mixer.cabin.volume := 0 } : State).computedTarget alert = .q (-120)) := by
  decide

/-- The route of the worked example 2.11 on its part: CABIN at 30, PROMPT ducking by 48, derate 14. -/
theorem test_computed_target :
    State.computedTarget { idle with mixer.cabin.volume := 30, thermal.derate := 14 }
      { media with level := -24, duck := 48 } = .q (-146) := by
  decide

/-- Weights above, below and at their targets: CABIN's channel 1 must rise, FRONT's fall. -/
def weights : State :=
  { idle with
    mixer.front.balance := 10
    mixer.wCabin := Vector.replicate 20 (-3)
    mixer.wFront := Vector.replicate 20 (-3) }

theorem witness_WeightStepsAndThermalReadings :
    weights.Works ∧
    weights.mixer.weight .cabin 0 < weightFor weights.mixer.cabin.balance weights.mixer.cabin.fade (weights.mixer.map.get 0) ∧
    weightFor weights.mixer.front.balance 0 (weights.mixer.map.get 0) < weights.mixer.weight .front 0 ∧
    weights.mixer.weight .driver 19 = 0 := by
  unfold State.Works; decide

theorem test_weight_step :
    (after .weightRampStep weights).mixer.weight .cabin 0 = -2 ∧
      (after .weightRampStep weights).mixer.weight .front 0 = -4 := by decide

/-- The derating of the worked example 2.11: knee 90, slope 5, source EXTERNAL. -/
def hot (t : Int) (derate recovery : Nat) : State :=
  { idle with thermal := { idle.thermal with
      source := .external, external := t, knee := 90, slope := 5, derate := derate, recovery := recovery } }

theorem test_thermal_rise :
    (after (.thermalReading 0) (hot 97 0 0)).thermal.derate = 14 ∧
      (after (.thermalReading 0) (hot 97 0 0)).events.flags = 0x02000 := by decide
theorem test_thermal_recovery :
    (after (.thermalReading 0) (hot 92 18 0)).thermal.recovery = 1 ∧
      (after (.thermalReading 0) (hot 92 18 9)).thermal.derate = 17 := by decide

/-- The route of slot 1 in a ramp. -/
def ramping (state : RouteState) (applied target : Gain) : State :=
  withRoutes [{ media with state := state, applied := applied, target := some target, running := true }]

theorem witness_RampStepMovesTheGain :
    let s := ramping .rising (.q (-184)) (.q (-120))
    let r := { media with state := .rising, applied := .q (-184), target := some (.q (-120)), running := true }
    s.Works ∧ s.SlotsOrdered ∧ s.NoRetune ∧ r ∈ s.routes ∧ r.Consistent ∧ r.running = true ∧ r.applied = .q (-184) ∧
      r.target = some (.q (-120)) := by
  refine ⟨by unfold State.Works; decide, by unfold State.SlotsOrdered; decide, by unfold State.NoRetune; decide, by decide,
    ⟨by decide, by decide, by decide, by decide, by decide⟩, rfl, rfl, rfl⟩

/-- T1 in the fade phase of a retune of `k`: its one marked route is a step above MUTE. The watch waits for 87.60 MHz. -/
def fading (k : RetuneKind) (other : Tuner) : State :=
  { withRoutes [{ media with source := .tunerFrequency 8750, tuner := some .t1, applied := .q (-384), fadeMark := true,
                             target := some .mute, step := .fast, running := true }] with
    tuners.t1 := { Tuner.free with
      role := .program, frequency := some 8750, users := 1, activity := .dwell, retune := some ⟨k, false⟩ }
    tuners.t2 := other
    tuners.watch := some 8760
    stations.inUse := [8750] }

theorem witness_RampStepMovesTheGain_fade :
    ∀ k ∈ [RetuneKind.jump 8760, .switch 8760 true, .revert 8760 none],
      ∀ other ∈ [Tuner.free, { Tuner.free with role := .program, frequency := some 8760, watch := true }],
      let s := fading k other
      s.Works ∧ s.SlotsOrdered ∧ (∀ r ∈ s.routes, r.tuner = some .t1 ∧ r.fadeMark = true ∧ r.running = true ∧
        r.applied = .q (-384) ∧ r.target = some .mute ∧ r.cause = none ∧ r.state = .playing ∧ r.cls = .media) ∧
      s.tuners.t1.retune = some ⟨k, false⟩ ∧ s.tuners.t2.retune = none ∧ s.tuners.watch = some 8760 ∧
      s.tuners.t1.watch = false ∧ s.sup.state ≠ .quiet ∧ s.tuners.t1.role = .program := by
  unfold State.Works State.SlotsOrdered; decide

/-- A fade phase goes on over the step of its own route, and over the end of another route's ramp. -/
theorem witness_RampStepMovesTheGain_fade_goes_on :
    (∀ a ∈ [-383, -384], ∀ y ∈ (fading (.jump 8760) .free).routes,
      let r := { y with applied := .q a }
      let o := { media with slot := 2, rank := 2, applied := .q (-121), target := some (.q (-120)), running := true }
      let s := { fading (.jump 8760) .free with routes := [r, o] }
      s.Works ∧ s.SlotsOrdered ∧ r ∈ s.routes ∧ o ∈ s.routes ∧ o.running = true ∧ r.tuner = some .t1 ∧ r.fadeMark = true ∧ r.applied ≠ .mute ∧
        s.tuners.t1.retune = some ⟨.jump 8760, false⟩ ∧ s.tuners.t2.retune = none ∧
        r.slot ≠ 2) ∧
    (-383 - 1 : Int) ≠ -385 ∧ idle.Works ∧ idle.routes = [] := by
  unfold State.Works State.SlotsOrdered; decide

theorem witness_RampStepMovesTheGain_fade_routes :
    (∀ r ∈ (fading (.jump 8760) .free).routes, r.Consistent) ∧
    (let s := fading (.jump 8760) { Tuner.free with role := .program, frequency := some 8760, watch := true }
    s.WatchSettled ∧ s.tuners.t2.holds 8760 = true) ∧
    (let s := { fading (.switch 8770 true) .free with tuners.watch := none }
    s.WatchSettled ∧ s.tuners.t2.holds 8770 = false) ∧
    (let s := fading (.switch 8770 true) .free
    let s := { s with tuners.t1 := { s.tuners.t1 with watch := true } }
    s.WatchSettled ∧ s.tuners.t1.watch = true ∧ s.tuners.t1.retune = some ⟨.switch 8770 true, false⟩) := by
  unfold State.WatchSettled
  refine ⟨fun r hr => ?_, by decide, by decide, by decide⟩
  simp only [fading, withRoutes, List.mem_cons, List.not_mem_nil, or_false] at hr
  subst hr
  exact ⟨by decide, by decide, by decide, by decide, by decide⟩

theorem test_ramp_step :
    (after (.rampStep 1) (ramping .rising (.q (-184)) (.q (-120)))).routes.map (fun r => r.applied) = [.q (-183)] ∧
    (after (.rampStep 1) (ramping .rising (.q (-121)) (.q (-120)))).routes.map (fun r => r.state) = [.playing] := by decide
theorem test_ramp_step_at_mute :
    (after (.rampStep 1) (ramping .closing (.q (-384)) .mute)).routes = [] ∧
      (after (.rampStep 1) (ramping .closing (.q (-384)) .mute)).reuse[0] = 1 ∧
      (let t := after (.rampStep 1) (fading (.switch 8760 true) .free)
      t.tuners.t1.frequency = some 8760 ∧ t.tuners.t1.watch = true ∧
        t.routes.map (fun r => (r.state, r.cause)) = [(.pending, some .retune)]) := by decide

theorem witness_RampStepMovesTheGain_ends :
    ∀ x ∈ [(RouteState.rising, Gain.q (-121), Gain.q (-120)), (.playing, .q (-119), .q (-120)),
        (.yielding, .q (-384), .mute), (.closing, .q (-384), .mute)],
      let r := { media with state := x.1, applied := x.2.1, target := some x.2.2, running := true }
      r ∈ (ramping x.1 x.2.1 x.2.2).routes ∧ r.Consistent := by
  intro x hx
  simp only [List.mem_cons, List.not_mem_nil, or_false] at hx
  rcases hx with rfl | rfl | rfl | rfl <;>
    exact ⟨by decide, ⟨by decide, by decide, by decide, by decide, by decide⟩⟩

/-! ## Stations, settings, events, the store -/

/-- A station record with a code, of age 2. -/
def coded : Station := { Station.new 8750 with code := some 0xABCD, age := 2, last := some (30, .ii, .scan) }

/-- A table of two records, the second in use. -/
def tabled : State :=
  { idle with
    stations.records := [coded, Station.new 8760]
    stations.inUse := [8760] }

/-- A full table: 48 records. -/
def full (pinned : Bool) : State :=
  { idle with
    stations.records := (List.range 48).map (fun k => { Station.new (8750 + 10 * k) with pinned := pinned, age := k % 16 }) }

theorem witness_StationSettingsAndRecords :
    idle.Accepts .qualityLimits 0 [121, 0, 7] ∧ reportOf 7 = some .anyChange ∧ idle.Accepts .qualityLimits 0 [0, 0, 8] ∧
    idle.Accepts .qualityLimits 1 [0, 0, 0] ∧ idle.Accepts .stationAging 0 [15] ∧ idle.Accepts .stationAging 0 [16] ∧
    idle.Accepts .stationAging 1 [1] ∧ idle.Accepts .announceFollow 0 [31] ∧ idle.Accepts .announceFollow 0 [32] ∧
    idle.Accepts .announceFollow 1 [0] ∧ tabled.Accepts .stationPin 1 [0x22, 0x2E, 1] ∧
    tabled.stations.find 8750 = some coded ∧ tabled.Accepts .stationPin 1 [0x22, 0x2F, 0] ∧
    tabled.stations.find 8751 = none ∧ tabled.Accepts .stationPin 1 [0x22, 0x2E, 2] ∧
    tabled.Accepts .stationForget 1 [0x22, 0x2E] ∧ 8750 ∉ tabled.stations.inUse ∧
    tabled.Accepts .stationForget 1 [0x22, 0x38] ∧ 8760 ∈ tabled.stations.inUse ∧
    tabled.stations.find 8760 = some (Station.new 8760) ∧ tabled.Accepts .stationForget 1 [] := by
  unfold State.Accepts; decide

theorem test_quality_limits : answer (.qualityLimits 0 [121, 0, 7]) idle = [0x32, 0, 3, 120, 120, 7] := by decide
theorem test_station_aging : answer (.stationAging 0 [15]) idle = [0x45, 0, 2, 15, 0] := by decide
theorem test_announce_follow :
    answer (.announceFollow 0 [9]) idle = [0x46, 0, 2, 9, 0] ∧
      (after (.announceFollow 0 [9]) idle).stations.follow = ⟨true, false, false, true, false⟩ := by decide
theorem test_station_pin : answer (.stationPin 1 [0x22, 0x2E, 1]) tabled = [0x42, 0, 4, 0x22, 0x2E, 1, 2] := by decide
theorem test_station_forget :
    (after (.stationForget 1 [0x22, 0x2E]) tabled).stations.records = [Station.new 8760] ∧
      answer (.stationForget 1 [0x22, 0x38]) tabled = [0x43, 8, 0] := by decide

theorem witness_StationAddInsertsOrApplies :
    idle.Accepts .stationAdd 1 [0x22, 0x2E, 0, 7, 1] ∧ idle.NoRetune ∧ idle.tuners.watch = none ∧
    onRaster .a 8750 = true ∧ idle.stations.find 8750 = none ∧ idle.stations.records.length < 48 ∧
    tabled.Accepts .stationAdd 1 [0x22, 0x2E, 0, 0, 0] ∧ tabled.stations.find 8750 = some coded ∧
    (full false).Accepts .stationAdd 1 [0x27, 0x10, 0, 0, 0] ∧ (full false).stations.find 10000 = none ∧
    (full false).stations.victim = some { Station.new 8900 with age := 15 } ∧
    (full true).Accepts .stationAdd 1 [0x27, 0x10, 0, 0, 0] ∧ 48 ≤ (full true).stations.records.length ∧
    (full true).stations.find 10000 = none ∧
    (∀ r ∈ (full true).stations.records, r.pinned = true ∨ r.frequency ∈ (full true).stations.inUse) ∧
    idle.Accepts .stationAdd 1 [0x22, 0x2F, 0, 0, 0] ∧ onRaster .a 8751 = false := by
  unfold State.Accepts State.NoRetune; decide

theorem witness_StationAddInsertsOrApplies_codes :
    (∀ p ∈ [[0x22, 0x2E, 0, 7, 1], [0x22, 0x2E, 0xAB, 0xCD, 0]],
      tabled.Accepts .stationAdd 1 p ∧ tabled.NoRetune ∧ tabled.tuners.watch = none ∧ p.length = 5 ∧ u16At p 0 = 8750 ∧
        u16At p 2 ≠ 0) ∧
    coded.code = some 0xABCD ∧ tabled.Accepts .stationAdd 1 [0x22, 0x38, 0, 7, 0] ∧
    (tabled.stations.find 8760).map (fun r => r.code) = some none ∧
    (full false).Accepts .stationAdd 1 [0x27, 0x10, 0, 7, 1] ∧ (full false).NoRetune ∧ (full false).tuners.watch = none := by
  unfold State.Accepts State.NoRetune; decide
theorem witness_StationAddInsertsOrApplies_orders :
    (let t := (full false).stations
    t.Ordered ∧ t.victim = some { Station.new 8900 with age := 15 } ∧ (full true).stations.victim = none) ∧
    (tabled.stations.Ordered ∧ tabled.stations.best 0xABCD = some coded ∧ tabled.stations.best 7 = none) ∧
    (let s := { Station.new 8760 with code := some 0xABCD, last := some (30, .ii, .scan) }
    ({ tabled.stations with records := [coded, s] } : Stations).best 0xABCD = some coded ∧
      ({ tabled.stations with records := [coded, { s with last := some (31, .ii, .scan) }] } : Stations).best 0xABCD =
        some { s with last := some (31, .ii, .scan) }) := by
  unfold Stations.Ordered; decide

theorem test_station_add :
    answer (.stationAdd 1 [0x22, 0x2E, 0, 7, 1]) idle = [0x44, 0, 2, 1, 1] ∧
      answer (.stationAdd 1 [0x27, 0x10, 0, 0, 0]) (full true) = [0x44, 5, 0] := by decide
theorem test_station_add_replaces :
    (after (.stationAdd 1 [0x27, 0x10, 0, 0, 0]) (full false)).stations.find 8900 = none := by decide

theorem witness_RearSeatRequests :
    idle.Accepts .hpFollow 2 [3, 1] ∧ idle.Accepts .hpFollow 2 [4, 0] ∧ idle.Accepts .hpFollow 2 [2, 0] ∧
    idle.Accepts .hpFollow 2 [3, 2] ∧ idle.Accepts .rearLock 0 [1] ∧ idle.Accepts .rearLock 0 [2] ∧
    idle.Accepts .rearLock 1 [0] ∧ idle.Accepts .hpCap 0 [3, 14] ∧ zoneOf 3 = some .hp1 ∧ idle.Accepts .hpCap 0 [4, 255] ∧
    zoneOf 4 = some .hp2 ∧ idle.Accepts .hpCap 0 [2, 0] ∧ idle.Accepts .hpCap 1 [3, 0] := by
  unfold State.Accepts; decide

theorem test_hp_cap :
    answer (.hpCap 0 [3, 14]) idle = [0x50, 0, 3, 3, 14, 14] ∧ answer (.hpCap 0 [4, 255]) idle = [0x50, 0, 3, 4, 40, 15] := by
  decide
theorem test_hp_follow : answer (.hpFollow 2 [4, 1]) idle = [0x51, 0, 3, 4, 1, 15] := by decide
theorem test_rear_lock :
    answer (.rearLock 0 [1]) idle = [0x52, 0, 1, 1] ∧
      answer (.keepalive 2 []) { idle with port.rearLock := true } = [0x83, 8, 0] := by decide

theorem witness_EventRequests :
    idle.Accepts .eventFetch 1 [] ∧ idle.Accepts .eventFetch 1 [0] ∧ idle.Accepts .eventRouting 0 [17, 1, 0] ∧
    idle.Accepts .eventRouting 0 [255, 0, 1] ∧ idle.Accepts .eventRouting 0 [18, 0, 0] ∧
    idle.Accepts .eventRouting 0 [0, 2, 0] ∧ idle.Accepts .eventRouting 1 [0, 0, 0] ∧ ¬held.Works ∧
    (let s := { limp with events.flags := 0x04000 }
    s.Works ∧ s.events.flags.getLsbD 14 = true ∧ s.events.enable.getLsbD 14 = true ∧ s.events.lineB.getLsbD 14 = false ∧
      s.atnA = true ∧ s.atnB = false) := by
  unfold State.Accepts State.Works; decide

/-- The fetch of a part in LIMP: WATCHDOG_ARMED and LIMP pending, slot 24 marked; LIMP stays and keeps ATN_A high. -/
theorem test_event_fetch :
    let s := { limp with events.flags := 0x24000, events.mask := 0x800000 }
    answer (.eventFetch 1 []) s = [0x90, 0, 11, 2, 0x40, 0, 0x80, 0, 0, 0, 0, 0x40, 0, 1] ∧
      (after (.eventFetch 1 []) s).events.flags = 0x4000 := by decide
theorem test_event_routing :
    answer (.eventRouting 0 [0, 1, 0]) idle = [0x91, 0, 7, 0, 0x0E, 0x01, 3, 0xFF, 0xFE, 0] := by decide

/-- A row's fifteen bytes after its number. -/
def row30 : List Byte := 30 :: List.replicate 15 1

theorem witness_RowWritesAndPartReset :
    idle.Accepts .storeWrite 0 row30 ∧ idle.store.writer = none ∧ idle.store.writeCount < 4000 ∧
    (let s := { idle with store.writer := some { row := 0, data := Vector.replicate 15 0, left := 1 } }
    s.Accepts .storeWrite 0 row30 ∧ s.store.writer ≠ none ∧ s.Works) ∧
    (let s := { idle with store.writeCount := 4000 }
    s.Accepts .storeWrite 0 row30 ∧ 4000 ≤ s.store.writeCount) ∧
    idle.Accepts .storeWrite 1 row30 ∧ idle.Accepts .storeWrite 0 (31 :: List.replicate 15 1) ∧
    idle.Accepts .partReset 0 [] ∧ idle.Accepts .partReset 0 [0] ∧ idle.Accepts .partReset 1 [] ∧ idle.Works := by
  unfold State.Accepts State.Works; decide

theorem test_store_write :
    answer (.storeWrite 0 row30) idle = [0xA1, 0, 3, 30, 0, 1] ∧
      answer (.storeWrite 0 row30) { idle with store.writeCount := 4000 } = [0xA1, 14, 0] := by decide
theorem test_store_write_end :
    let t := after .storeWriteEnd (after (.storeWrite 0 row30) idle)
    (t.store.row 30).good = true ∧ (t.store.row 30).data = Vector.replicate 15 1 ∧ t.events.flags.getLsbD 15 = true := by
  decide
theorem test_part_reset : (after (.partReset 0 []) idle).port.resetPending = some 50 := by decide

theorem witness_WatchdogRequests :
    idle.Accepts .watchdog 0 [4] ∧ periodOf 4 = some .ms2000 ∧ idle.Accepts .watchdog 0 [0] ∧ periodOf 0 = some .off ∧
    idle.sup.state = .run ∧ (quiet.Accepts .watchdog 0 [1] ∧ quiet.sup.state ≠ .run) ∧ idle.Accepts .watchdog 0 [5] ∧
    idle.Accepts .watchdog 1 [1] ∧ idle.Accepts .keepalive 5 [] ∧ idle.Accepts .keepalive 5 [0] := by
  unfold State.Accepts; decide

theorem test_watchdog :
    answer (.watchdog 0 [4]) idle = [0x82, 0, 4, 4, 1, 7, 0xD0] ∧ answer (.watchdog 0 [0]) busy = [0x82, 0, 4, 0, 0, 0, 0] := by
  decide
theorem test_keepalive : answer (.keepalive 5 []) idle = [0x83, 0, 4, 0, 1, 3, 0xE8] := by decide

theorem witness_WatchdogExpiryEntersLimp :
    busy.Works ∧ busy.sup.left ≠ none ∧ idle.Works ∧ idle.sup.left = none ∧ idle.mixer.hp1.follow = false ∧
    ∀ v ∈ [20, 21, 40],
      let s := { busy with mixer.cabin.volume := v, mixer.hp2.follow := true }
      s.Works ∧ s.sup.left ≠ none ∧ (s.mixer.zone .hp2).follow = true ∧ s.sup.limpVolume = 20 := by
  unfold State.Works; decide

theorem test_watchdog_expiry :
    let t := after .watchdogExpiry { busy with mixer.front.volume := 40, mixer.cabin.volume := 30, mixer.hp1.follow := true }
    t.sup.state = .limp ∧ t.mixer.front.volume = 20 ∧ t.mixer.cabin.volume = 20 ∧ t.mixer.hp1.volume = 5 ∧
      t.routes.map (fun r => r.state) = [.yielding, .playing, .suspended] := by decide

/-! ## Routes -/

/-- ROUTE_OPEN fields: MEDIA of STREAM 0 in CABIN; the same on a frequency; ALERT of tone 15 in DRIVER; a LEG. -/
def mediaFields : List Byte := [0, 4, 0, 0, 0, 0, 0, 0, 0]
def tunerFields : List Byte := [0, 4, 2, 0x22, 0x2E, 0, 0, 3, 0]
def alertFields : List Byte := [2, 0, 1, 0, 15, 0xFF, 0x0F, 0, 255]
def legFields : List Byte := [0, 1, 4, 1, 0, 0, 0, 0, 0]

/-- Every slot taken. -/
def crowded : State := withRoutes ((List.range 24).map (fun k => { media with slot := k + 1, rank := k + 1 }))

/-- A program of a tuner, on a frequency, with its users. -/
def programOf (f users : Nat) : Tuner :=
  { Tuner.free with role := .program, frequency := some f, users := users, activity := .dwell }

/-- A part with the two tuners given. -/
def tuners (x y : Tuner) : State := { idle with tuners.t1 := x, tuners.t2 := y }

/-- Both tuners serve programs on other frequencies. -/
def tuned : State := tuners (programOf 9000 1) (programOf 9100 1)

theorem witness_RouteOpenCreatesARoute :
    idle.Accepts .routeOpen 1 [] ∧ openFields .a [] = none ∧
    idle.Accepts .routeOpen 1 [0, 4, 4, 1, 0, 0, 0, 0, 0] ∧ openFields .a [0, 4, 4, 1, 0, 0, 0, 0, 0] = none ∧
    idle.Accepts .routeOpen 1 legFields ∧ idle.legCheck 1 (.leg 1 0) = some .notFound ∧
    busy.Accepts .routeOpen 2 [3, 1, 4, 1, 0, 0, 0, 0, 0] ∧ busy.legCheck 2 (.leg 1 0) = some .notPermitted ∧
    crowded.Accepts .routeOpen 1 mediaFields ∧ crowded.legCheck 1 (.stream 0) = none ∧ crowded.freeSlot = none ∧
    tuned.Accepts .routeOpen 1 tunerFields ∧ tuned.freeSlot = some 1 ∧
    tuned.serve (.tunerFrequency 8750) ⟨1, 0⟩ = none ∧
    idle.freeSlot = some 1 ∧ (idle.serve (.tunerFrequency 8750) ⟨1, 0⟩).isSome = true ∧
    idle.listener .cabin = true ∧ idle.listener .hp1 = false := by
  unfold State.Accepts; decide

/-- A program the watch alone holds. -/
def watchOnly (f : Nat) : Tuner := { programOf f 0 with watch := true }

theorem witness_RouteOpenCreatesARoute_claims :
    (tuners (programOf 9000 1) (programOf 8750 1)).tuners.t1.holds 8750 = false ∧
    (tuners (programOf 9000 1) (programOf 8750 1)).tuners.t2.holds 8750 = true ∧
    idle.tuners.t1.role ≠ .program ∧
    (let s := tuners (programOf 9000 1) { Tuner.free with activity := .scanStep, scan := some ⟨none, false, []⟩ }
    s.tuners.t1.role = .program ∧ s.tuners.t2.role ≠ .program ∧ s.tuners.t2.activity = .scanStep ∧
      ({ s with stations.reserved2 := some 8760 } : State).stations.reserved .t2 = some 8760) ∧
    (let s := tuners (programOf 9000 1) (watchOnly 9100)
    s.tuners.t1.role = .program ∧ s.tuners.t1.watch = false ∧ s.tuners.t2.role = .program ∧ s.tuners.t2.users = 0 ∧
      s.tuners.t2.watch = true) ∧
    (let s := tuners { programOf 9000 1 with search := some ⟨true, [], []⟩ } .free
    s.tuners.t1.search.map (fun q => q.partner) = some true ∧ s.tuners.t2.role ≠ .program) ∧
    (let s := tuners .free { programOf 9000 1 with code := some 7 }
    s.tuners.t2.role = .program ∧ s.tuners.t2.code = some 7 ∧ s.tuners.t1.role ≠ .program) ∧
    (tabled.stations.best 0xABCD = some coded ∧ idle.stations.best 0xABCD = none) ∧
    openFields .a alertFields = some ⟨.driver, .alert, .tone 15, -240, 0, 120⟩ := by decide

theorem test_route_open :
    answer (.routeOpen 1 alertFields) idle = [0x10, 0, 8, 1, 0, 1, 0, 0xFF, 0x10, 1, 120] ∧
      answer (.routeOpen 1 mediaFields) crowded = [0x10, 5, 0] := by decide
theorem test_route_open_claims_a_tuner :
    answer (.routeOpen 1 tunerFields) idle = [0x10, 0, 7, 1, 0, 0, 1, 0, 0, 3] ∧
      (after (.routeOpen 1 tunerFields) idle).tuners.t1.users = 1 ∧ answer (.routeOpen 1 tunerFields) tuned = [0x10, 7, 0] := by
  decide

theorem witness_RouteLevelReAimsARoute :
    busy.Accepts .routeLevel 1 [1, 0, 0xFF, 0x10, 3] ∧ busy.SlotsOrdered ∧ busy.routeOf ⟨1, 0⟩ = some media ∧
    media.state = .playing ∧ media.fadeMark = false ∧ (1#8).toNat = media.owner ∧
    busy.Accepts .routeLevel 0 [3, 0, 0, 1, 0] ∧ busy.routeOf ⟨3, 0⟩ = some waits ∧
    (∀ a ∈ [Gain.mute, .q (-384), .q (-170)],
      let s := ramping .rising a (.q (-170))
      s.Accepts .routeLevel 1 [1, 0, 0, 0, 0] ∧ s.SlotsOrdered ∧
        (s.routeOf ⟨1, 0⟩).map (fun r => (r.state, r.applied, r.fadeMark)) = some (.rising, a, false)) ∧
    busy.Accepts .routeLevel 1 [25, 0, 0, 0, 0] ∧ busy.Accepts .routeLevel 1 [1, 0, 0, 0, 4] ∧
    busy.Accepts .routeLevel 1 [24, 0, 0, 0, 0] ∧ busy.routeOf ⟨24, 0⟩ = none ∧
    busy.Accepts .routeLevel 3 [1, 0, 0, 0, 0] ∧ (3#8).toNat ≠ media.owner ∧
    (let s := ramping .closing (.q (-184)) .mute
    s.Accepts .routeLevel 1 [1, 0, 0, 0, 0] ∧ s.SlotsOrdered ∧ (s.routeOf ⟨1, 0⟩).map (fun r => r.state) = some .closing) := by
  unfold State.Accepts State.SlotsOrdered; decide

theorem test_route_level :
    answer (.routeLevel 1 [1, 0, 0xFF, 0x0F, 1]) busy = [0x11, 0, 3, 0xFF, 0x10, 1] ∧
      answer (.routeLevel 3 [1, 0, 0, 0, 0]) busy = [0x11, 8, 0] := by decide

/-- Owner 1 has a RISING route still at MUTE and a CLOSING one. -/
def retiring : State :=
  withRoutes [{ media with state := .rising, applied := .mute, running := true },
    { media with slot := 2, rank := 2, state := .closing, target := some .mute, running := true }]

theorem witness_RoutesAreRetired :
    busy.SlotsOrdered ∧ busy.Accepts .routeRetire 1 [1, 0] ∧ busy.routeOf ⟨1, 0⟩ = some media ∧ media.applied ≠ .mute ∧
    busy.Accepts .routeRetire 1 [3, 0] ∧ busy.routeOf ⟨3, 0⟩ = some waits ∧ waits.state = .pending ∧
    busy.Accepts .routeRetire 1 [0, 0] ∧ busy.Accepts .routeRetire 1 [25, 0] ∧ busy.Accepts .routeRetire 1 [24, 0] ∧
    busy.routeOf ⟨24, 0⟩ = none ∧ busy.Accepts .routeRetire 3 [1, 0] ∧ (3#8).toNat ≠ media.owner ∧
    busy.Accepts .retireOwner 1 [1] ∧ busy.Accepts .retireOwner 0 [7] ∧ busy.Accepts .retireOwner 0 [8] ∧
    busy.Accepts .retireOwner 1 [2] := by
  unfold State.Accepts State.SlotsOrdered; decide

theorem witness_RoutesAreRetired_states :
    (media ∈ busy.routes ∧ media.owner = 1 ∧ media.state = .playing) ∧
    (waits ∈ busy.routes ∧ waits.owner = 1) ∧
    (retiring.SlotsOrdered ∧ retiring.Accepts .retireOwner 0 [1] ∧
      (retiring.routeIn 1).map (fun r => (r.owner, r.state, r.applied)) = some (1, .rising, .mute) ∧
      (retiring.routeIn 2).map (fun r => (r.owner, r.state)) = some (1, .closing)) := by
  unfold State.Accepts State.SlotsOrdered; decide

theorem test_route_retire :
    answer (.routeRetire 1 [3, 0]) busy = [0x12, 0, 1, 0] ∧ (after (.routeRetire 1 [3, 0]) busy).reuse[2] = 1 ∧
      answer (.routeRetire 1 [1, 0]) busy = [0x12, 0, 1, 1] := by decide
theorem test_retire_owner :
    answer (.retireOwner 1 [1]) busy = [0x13, 0, 2, 1, 1] ∧
      (after (.retireOwner 0 [1]) retiring).routes.map (fun r => (r.slot, r.state)) = [(2, .closing)] := by decide

/-- R70: the tuner that becomes FREE first, T2 with the route of the lower slot, takes the WAITING watch. -/
theorem test_retire_owner_lets_the_watch_in :
    let r := { waits with cls := .prompt, cause := some .noListener }
    let t := after (.retireOwner 1 [1]) { withRoutes [
        { r with slot := 1, rank := 1, source := .tunerFrequency 9000, tuner := some .t2 },
        { r with slot := 2, rank := 2, source := .tunerFrequency 8750, tuner := some .t1 }] with
      tuners.t1 := programOf 8750 1, tuners.t2 := programOf 9000 1, tuners.watch := some 9520
      stations.inUse := [8750, 9000] }
    t.tuners.t1.frequency = none ∧ t.tuners.t2.watch = true ∧ t.tuners.t2.frequency = some 9520 := by decide

/-- Direct line 0 is ASSERTED and has opened the ALERT route of slot 2. -/
def sounding : State :=
  { busy with lines.a0.state := .asserted, lines.a0.routes := [⟨2, 0⟩] }

/-- The tone of slot 2 plays a pattern of one cycle. -/
def finite : State := { sounding with tones := tabSet sounding.tones 0 { builtInPattern with repeats := 1 } }

theorem witness_AlertsAndTonesEnd :
    sounding.Works ∧ sounding.SlotsOrdered ∧ alert ∈ sounding.routes ∧ alert.cls = .alert ∧ alert.state ≠ .closing ∧
    alert.applied ≠ .mute ∧ media ∈ sounding.routes ∧ media.cls ≠ .alert ∧ alert.source = .tone 0 ∧
    (tabGet sounding.tones 0 builtInPattern).repeats = 0 ∧ (tabGet finite.tones 0 builtInPattern).repeats ≠ 0 ∧
    finite.Works ∧ finite.SlotsOrdered ∧ alert ∈ finite.routes ∧ media.source = .stream 0 := by
  unfold State.Works State.SlotsOrdered; decide

theorem test_alert_cut :
    let t := after (.alertCut 2) sounding
    (t.lines.get 0).state = .latchedOut ∧ t.events.flags.getLsbD 3 = true ∧
      (t.routeIn 2).map (fun r => (r.state, r.cut)) = some (.closing, true) := by decide
/-- The tone stands 5 ms into segment 1, 880 Hz at 0 q; a gap and a pattern played out sound nothing (R154). -/
theorem test_sounding :
    sounding.sounding alert = some (⟨880, 120, 0⟩, 5) ∧
      sounding.sounding { alert with play := some ⟨0, .gap, 5⟩ } = none ∧
      sounding.sounding { alert with play := none } = none := by decide
/-- The most negative downlink code is the most negative 24-bit sample (R121). -/
theorem test_downlink : (Frame.ofBits 0x80007801).downlink = -8388608 ∧ (Frame.ofBits 0x80007801).control = 0x7801 := by
  decide
theorem test_tone_pattern_end :
    ((after (.tonePatternEnd 2) finite).routeIn 2).map (fun r => r.state) = some .closing ∧
      after (.tonePatternEnd 2) sounding = sounding := by decide

theorem test_route_get :
    answer (.routeGet 2 [1, 0]) busy =
      [0x14, 0, 21, 1, 0, 1, 0, 4, 0, 0, 0, 0, 0, 3, 0, 2, 0, 0xFF, 0x56, 0, 0, 1, 0, 0] := by decide
theorem test_route_list :
    answer (.routeList 2 []) busy = [0x15, 0, 7, 3, 1, 0, 2, 0, 3, 0] ∧
      answer (.routeList 2 [7]) busy = [0x15, 0, 3, 1, 2, 0] := by decide
theorem test_zone_get :
    answer (.zoneGet 2 [3]) idle = [0x22, 0, 13, 3, 15, 0xFF, 0x56, 0, 0, 32, 0, 0, 0, 0, 0, 25] := by decide

/-! ## Tuners and stations -/

/-- T1 in DWELL on 87.50 MHz with its record and code, T2 FREE: the part hears one program. -/
def hearing : State :=
  { idle with
    tuners.t1 :=
      { Tuner.free with
        role := .program, frequency := some 8750, code := some 0xABCD, users := 1, activity := .dwell
        measurement := some ⟨30, 0, 30, .ii, .program⟩, prevArea := some .ii }
    stations.inUse := [8750]
    stations.records := [coded, { Station.new 8760 with code := some 0xABCD, age := 2 }] }

/-- That part with T1 changed. -/
def hearing1 (f : Tuner → Tuner) : State := { hearing with tuners.t1 := f hearing.tuners.t1 }

theorem witness_TunerPolicyAndTrafficWatch :
    idle.Accepts .tunerPolicy 0 [1, 1, 2, 60, 30] ∧ idle.Accepts .tunerPolicy 0 [0, 0, 0, 1, 0] ∧
    idle.Accepts .tunerPolicy 0 [1, 1, 3, 1, 0] ∧ idle.Accepts .tunerPolicy 0 [1, 1, 2, 61, 0] ∧
    idle.Accepts .tunerPolicy 1 [0, 0, 0, 1, 0] ∧ idle.Accepts .trafficWatch 0 [0x2A, 0x30] ∧ onRaster .a 10800 = true ∧
    idle.SlotsOrdered ∧ idle.NoRetune ∧ idle.Accepts .trafficWatch 0 [0x2A, 0x31] ∧ onRaster .a 10801 = false ∧
    idle.Accepts .trafficWatch 1 [0, 0] ∧
    (let s := hearing1 (fun t => { t with watch := true })
    let s := { s with tuners.watch := some 8750 }
    s.Accepts .trafficWatch 0 [0, 0] ∧ s.SlotsOrdered ∧ s.tuners.watch ≠ none ∧
      ¬(s.tuners.t1.watch = true ∧ s.tuners.t2.watch = true)) := by
  unfold State.Accepts State.SlotsOrdered State.NoRetune; decide

/-- The watch moves to 87.60 MHz from where it is: nowhere, or alone on T2. -/
theorem witness_TunerPolicyAndTrafficWatch_cases :
    idle.Accepts .trafficWatch 0 [0x22, 0x38] ∧ onRaster .a 8760 = true ∧
    (∀ s ∈ [tuners .free .free, tuners (programOf 8760 1) .free, tuners (programOf 8750 1) (programOf 8760 1),
        tuners (programOf 8750 1) .free, { tuners (programOf 8750 1) (watchOnly 8770) with tuners.watch := some 8770 },
        tuners (programOf 8750 1) (programOf 8770 1), { idle with sup.state := .quiet }],
      s.Accepts .trafficWatch 0 [0x22, 0x38] ∧ s.SlotsOrdered ∧ s.NoRetune ∧ s.stations.announcing = false ∧
        some 8760 ≠ s.tuners.watch ∧ ¬(s.tuners.t1.watch = true ∧ s.tuners.t2.watch = true)) ∧
    ((watchOnly 8770).users = 0 ∧ (watchOnly 8770).watch = true) := by
  unfold State.Accepts State.SlotsOrdered State.NoRetune; decide

theorem test_tuner_policy :
    answer (.tunerPolicy 0 [1, 1, 2, 60, 30]) idle = [0x30, 0, 5, 1, 1, 2, 60, 30] ∧
      answer (.tunerPolicy 0 [1, 1, 3, 1, 0]) idle = [0x30, 3, 0] := by decide
theorem test_traffic_watch :
    answer (.trafficWatch 0 [0x22, 0x2E]) hearing = [0x31, 0, 4, 0x22, 0x2E, 1, 1] ∧
      (after (.trafficWatch 0 [0x22, 0x2E]) hearing).tuners.t1.watch = true := by decide

/-- T1 serves the route of slot 1; the route of slot 3 waits for a tuner by its code. -/
def counted : State :=
  { hearing with
    tuners := { hearing.tuners with waiting := [⟨⟨3, 0⟩, 0x1234⟩] }
    routes := [{ media with source := .tunerFrequency 8750, tuner := some .t1 }, { waits with source := .tunerCode 0x1234 }] }

theorem witness_TunersStayCounted :
    counted.SlotsOrdered ∧ counted.TunersApart ∧ counted.TunersCounted ∧ ∃ t, step counted = .next t := by
  refine ⟨by unfold State.SlotsOrdered; decide, ?_, ⟨?_, ?_, ?_, ?_, ?_, by decide, ?_, ?_⟩, _, rfl⟩
  · intro f ⟨_, h⟩
    simp [Tuner.holds, counted, hearing, idle, State.reset, Tuner.free] at h
  · intro x; cases x <;> decide
  · intro x; cases x <;> decide
  · intro x; cases x <;> decide
  · intro f
    constructor
    · intro h
      simp only [counted, hearing, List.mem_singleton] at h
      exact ⟨.t1, by subst h; decide⟩
    · rintro ⟨x, h⟩
      cases x <;> simp [Tuner.holds, State.tuner, counted, hearing, idle, State.reset, Tuner.free] at h ⊢
      exact h.symm
  · intro r hr
    simp only [counted, List.mem_cons, List.not_mem_nil, or_false] at hr
    rcases hr with rfl | rfl <;> decide
  · intro w hw
    simp only [counted, List.mem_singleton] at hw
    subst hw
    exact ⟨{ waits with source := .tunerCode 0x1234 }, by decide, by decide, by decide, by decide⟩
  · intro r hr
    simp only [counted, List.mem_cons, List.not_mem_nil, or_false] at hr
    rcases hr with rfl | rfl
    · intro h; cases h
    · intro _ c _; exact ⟨⟨⟨3, 0⟩, 0x1234⟩, by decide, rfl⟩

/-- T1 acquires its program. -/
def acquiring : State := hearing1 (fun t => { t with activity := .retune })

/-- T1 in the tuning phase of a retune. -/
def retuning (k : RetuneKind) (af : AfState) : State :=
  hearing1 (fun t => { t with activity := .retune, retune := some ⟨k, true⟩, af := af, oldFrequency := some 8760 })

theorem witness_TunersSettle :
    hearing.Works ∧ hearing.tuners.t1.activity ≠ .retune ∧ acquiring.Works ∧ acquiring.tuners.t1.role = .program ∧
    acquiring.tuners.t1.activity = .retune ∧ acquiring.tuners.t1.retune = none ∧ acquiring.NoRetune ∧
    (∀ s ∈ [retuning (.switch 8750 true) .searching, retuning (.revert 8750 none) .idle],
      s.Works ∧ s.tuners.t1.activity = .retune ∧ s.tuners.t1.role = .program ∧ s.tuners.t2.retune = none ∧
        s.tuners.t1.search = none ∧ s.tuners.t1.retune.isSome = true) ∧
    (acquiring.WatchSettled ∧ acquiring.tuners.policy.diversity = true ∧ acquiring.tuners.policy.scan ≠ .full ∧
      acquiring.sup.state ≠ .quiet ∧ acquiring.tuners.link = .none ∧ acquiring.tuners.t1.search = none ∧
      acquiring.tuners.t2 = .free) := by
  unfold State.Works State.NoRetune State.WatchSettled; decide

theorem test_acquisition_settles : (after (.acquisitionSettle .t1) acquiring).tuners.t1.activity = .dwell := by decide
theorem test_pairing_is_made :
    (after (.acquisitionSettle .t1) acquiring).tuners.link = .paired ∧
      (after (.acquisitionSettle .t1) acquiring).tuners.t2.partnerOf = some .t1 := by decide
theorem test_retune_settles :
    (after (.retuneSettle .t1) (retuning (.switch 8750 true) .searching)).tuners.t1.af = .confirming ∧
      (after (.retuneSettle .t1) (retuning (.revert 8750 none) .idle)).tuners.t1.af = .idle := by decide

/-- T1's record lists other frequencies, and the other tuner is as given. -/
def listening (streak : Nat) (other : Tuner) : State :=
  { hearing1 (fun t => { t with streak := streak }) with
    tuners.t2 := other
    stations.records := [{ coded with afList := [8760, 8770] }] }

/-- A second program on a frequency. -/
def program (f : Nat) : Tuner := programOf f 1

theorem witness_ProgramMeasurementRefreshes :
    hearing.Works ∧ hearing.tuners.t1.role = .program ∧ hearing.tuners.t1.activity = .dwell ∧
    hearing.tuners.t1.frequency = some 8750 ∧ hearing.NoRetune ∧ hearing.WatchSettled ∧
    hearing.stations.find 8750 ≠ none ∧ hearing.tuners.t1.prevArea = some .ii ∧ hearing.tuners.t2.role ≠ .program ∧
    (hearing.tuners.t1.af = .idle ∧ (hearing.stations.find 8750).map (fun r => r.afList) = some []) ∧
    (∀ s ∈ [listening 1 .free, listening 2 .free, listening 2 (program 8770), listening 2 { Tuner.free with
        activity := .scanStep, scan := some ⟨none, false, []⟩ }],
      s.Works ∧ s.NoRetune ∧ s.WatchSettled ∧ s.tuners.t1.af = .idle ∧ s.tuners.t1.code ≠ none ∧
        (s.stations.find 8750).map (fun r => r.afList) = some [8760, 8770]) ∧
    [8760].filter (fun g => !(program 8760).holds g) = [] ∧ [8760, 8770].filter (fun g => !(program 8770).holds g) = [8760] :=
  by unfold State.Works State.NoRetune State.WatchSettled; decide

/-- T1 in SEARCHING for itself or through T2, perhaps in a fade phase, with a route in a state given. -/
def searching (q : Search) (k : Option Retune) (applied : Gain) : State :=
  { hearing1 (fun t => { t with af := .searching, streak := 3, search := some q, retune := k }) with
    tuners.t2 := { Tuner.free with activity := .afCheckForMaster, check := some ⟨8770, none⟩ }
    routes := [{ media with source := .tunerFrequency 8750, tuner := some .t1, applied := applied }] }

theorem witness_ProgramMeasurementRefreshes_searching :
    (∀ s ∈ [searching ⟨true, [], []⟩ none (.q (-170)), searching ⟨false, [], []⟩ (some ⟨.jump 8760, false⟩) (.q (-170)),
        searching ⟨false, [8770], []⟩ none (.q (-170)), searching ⟨false, [8770], []⟩ none .mute],
      s.Works ∧ s.WatchSettled ∧ s.tuners.t1.role = .program ∧ s.tuners.t1.activity = .dwell ∧
        s.tuners.t1.frequency = some 8750 ∧ s.tuners.t1.af = .searching ∧ s.tuners.t2.retune = none ∧
        s.tuners.t2.activity = .afCheckForMaster) ∧
    (areaOf 20 40 (qualityOf 45 30) ≠ .iii ∧ areaOf 20 40 (qualityOf 3 100) = .iii) ∧
    (let s := hearing1 (fun t => { t with af := .confirming, streak := 3, oldFrequency := some 8760 })
    s.Works ∧ s.NoRetune ∧ s.WatchSettled ∧ s.tuners.t1.af = .confirming ∧ s.tuners.t1.activity = .dwell) ∧
    (∀ inUse ∈ [[8750], []], ∀ raised ∈ [[8750], []],
      let s := hearing1 id
      let s := { s with stations := { s.stations with
        records := (full true).stations.records.map (fun (r : Station) => { r with frequency := r.frequency + 500 })
        inUse := inUse, fullRaised := raised } }
      s.Works ∧ s.NoRetune ∧ s.WatchSettled ∧ s.tuners.t1.activity = .dwell ∧ s.stations.find 8750 = none ∧
        48 ≤ s.stations.records.length ∧ ∀ r ∈ s.stations.records, r.pinned = true) := by
  unfold State.Works State.NoRetune State.WatchSettled; decide

/-- Without its record the measured frequency finds room, or takes a victim's place. -/
theorem witness_ProgramMeasurementRefreshes_missing :
    (let s := { hearing with stations.records := [Station.new 8760] }
    s.Works ∧ s.NoRetune ∧ s.WatchSettled ∧ s.stations.find 8750 = none ∧ s.stations.records.length < 48) ∧
    (let s := { hearing with
      stations.records := (full false).stations.records.map (fun (r : Station) => { r with frequency := r.frequency + 500 }) }
    s.Works ∧ s.NoRetune ∧ s.WatchSettled ∧ s.stations.find 8750 = none ∧ 48 ≤ s.stations.records.length ∧
      s.stations.victim.map (fun v => v.frequency) = some 9400) := by
  unfold State.Works State.NoRetune State.WatchSettled; decide
theorem witness_ProgramMeasurementRefreshes_routes :
    ∀ a ∈ [Gain.q (-170), .mute], ∀ r ∈ (searching ⟨false, [8770], []⟩ none a).routes, r.Consistent := by
  intro a ha r hr
  simp only [List.mem_cons, List.not_mem_nil, or_false] at ha
  simp only [searching, hearing1, List.mem_cons, List.not_mem_nil, or_false] at hr
  rcases ha with rfl | rfl <;> subst hr <;> exact ⟨by decide, by decide, by decide, by decide, by decide⟩

/-- The measurements R78 works out: 45 and 30 percent give 36, area II; 3 and 100 percent give 0. -/
theorem test_program_measurement :
    (after (.programMeasurement .t1 45 30) hearing).tuners.t1.measurement = some ⟨45, 30, 36, .ii, .program⟩ ∧
      (after (.programMeasurement .t1 3 100) hearing).tuners.t1.measurement = some ⟨3, 100, 0, .iii, .program⟩ := by decide
theorem test_search_starts :
    let t := after (.programMeasurement .t1 3 100) (listening 2 .free)
    t.tuners.t1.search = some ⟨true, [8770], []⟩ ∧ t.tuners.t2.check = some ⟨8760, none⟩ ∧
      (after (.programMeasurement .t1 3 100) (listening 1 .free)).tuners.t1.streak = 2 := by decide

/-- The watch stands on the program; announcements go to CABIN and HP2. -/
def watched : State :=
  { hearing1 (fun t => { t with watch := true }) with
    tuners.watch := some 8750
    stations := { hearing.stations with watch := some (8750, .t1), follow := ⟨true, false, false, false, true⟩ } }

theorem witness_DataItemsAndAnnouncements :
    hearing.Works ∧ hearing.SlotsOrdered ∧ hearing.NoRetune ∧ hearing.WatchSettled ∧ hearing.tuners.waiting = [] ∧
    hearing.tuners.t1.role = .program ∧ hearing.tuners.t1.activity = .dwell ∧ hearing.tuners.t1.af ≠ .confirming ∧
    hearing.tuners.t1.frequency = some 8750 ∧ hearing.stations.find 8750 = some coded ∧ coded.code = some 0xABCD ∧
    (0xABCE#16).toNat ≠ 0xABCD ∧ hearing.stations.watch ≠ some (8750, .t1) ∧ onRaster .a 10800 = true ∧
    watched.Works ∧ watched.SlotsOrdered ∧ watched.tuners.t1.role = .program ∧ watched.tuners.t1.activity = .dwell ∧
    watched.tuners.t1.frequency = some 8750 ∧ watched.stations.watch = some (8750, .t1) ∧
    watched.stations.find 8750 ≠ none ∧ watched.stations.announcing = false ∧ watched.routes = [] ∧
    ({ watched with stations.announcing := true } : State).stations.announcing = true ∧
    (let s := { watched with routes := [{ media with source := .tunerFrequency 8750, tuner := some .t1 }] }
    s.Works ∧ s.SlotsOrdered ∧ s.routes.length + s.stations.follow.zones.length ≤ 24) := by
  unfold State.Works State.SlotsOrdered State.NoRetune State.WatchSettled; decide

theorem test_data_item_decoded :
    ((after (.dataItemDecoded .t1 (.nameSegment 7 65 66)) hearing).stations.find 8750).map (fun r => r.name) =
      some [none, none, none, none, none, none, some 65, some 66] ∧
    let s := hearing1 (fun t => { t with af := .searching, search := some ⟨false, [8760], []⟩ })
    (after (.dataItemDecoded .t1 (.programCode 0xABCD)) s).tuners.t1.af = .searching ∧
      (after (.dataItemDecoded .t1 (.programCode 0xABCD))
        { s with stations.records := [{ coded with code := some 7 }] }).tuners.t1.af = .idle := by decide
theorem test_announcement_opens :
    (after (.dataItemDecoded .t1 (.traffic true true)) watched).routes.map (fun r => (r.slot, r.zone, r.owner)) =
      [(1, .cabin, 6), (2, .hp2, 6)] := by decide

/-- The cursor wraps from the last frequency, from one past ones in use, and over ones in use at the band's end. -/
theorem witness_ScanStepsBeginAndMeasure_wraps :
    (bandStep idle.tuners.plan = 10 ∧ bandHigh idle.tuners.plan = 10800 ∧ bandLow idle.tuners.plan = 8750) ∧
    (let s := { idle with stations.cursor := 10790, stations.inUse := [10790], stations.returned := [10790] }
    s.Works ∧ (∀ g ∈ s.stations.returned, g ∈ s.stations.inUse) ∧ 10800 = s.stations.cursor + 1 * 10 ∧
      10800 ∉ s.stations.inUse ∧ (∀ j, j < 1 → s.stations.cursor + j * 10 ∈ s.stations.inUse) ∧ 10800 < 10800 + 10) ∧
    (let s := { idle with stations.cursor := 10790, stations.inUse := [10800, 8750, 10790] }
    s.Works ∧ (∀ j ≤ 1, s.stations.cursor + j * 10 ∈ s.stations.inUse) ∧ 10800 < s.stations.cursor + (1 + 1) * 10 ∧
      (∀ j, j < 1 → 8750 + j * 10 ∈ s.stations.inUse) ∧ 8760 = 8750 + 1 * 10 ∧ 8760 ∉ s.stations.inUse) ∧
    (let s := { idle with stations.cursor := 10800, stations.inUse := [10800] }
    (∀ j ≤ 0, s.stations.cursor + j * 10 ∈ s.stations.inUse) ∧ 8750 ∉ s.stations.inUse) := by
  unfold State.Works; decide

/-- T1 in a scan step on 87.60 MHz, with a measurement or without. -/
def scanning (m : Option Measurement) : State :=
  { idle with
    tuners.t1 := { Tuner.free with activity := .scanStep, scan := some ⟨m, false, []⟩ }
    stations.reserved1 := some 8760 }

/-- T1 PROGRAM and T2 its partner. -/
def paired : State :=
  { hearing with
    tuners.link := .paired
    tuners.interval := some 4000
    tuners.t2 := { Tuner.free with role := .partner, activity := .partnerHold, partnerOf := some .t1 } }

theorem witness_ScanStepsBeginAndMeasure :
    (idle.Works ∧ idle.tuners.t1.role = .free ∧ idle.tuners.t1.activity = .none ∧ idle.sup.state ≠ .quiet ∧
      idle.tuners.policy.scan ≠ .off ∧ idle.tuners.link ≠ .requested ∧ idle.tuners.t2.search = none ∧
      idle.tuners.t2.retune = none ∧ idle.stations.returned = [] ∧ idle.stations.cursor ∉ idle.stations.inUse) ∧
    hearing.tuners.t1.role ≠ .free ∧
    (let s := { idle with stations.returned := [8750, 8760], stations.inUse := [8750, 9000], stations.cursor := 9000 }
    s.stations.returned = [8750] ++ 8760 :: [] ∧ 8750 ∈ s.stations.inUse ∧ 8760 ∉ s.stations.inUse ∧
      (∀ g ∈ [8750], g ∈ s.stations.inUse) ∧ (∀ j, j < 1 → 9000 + j * bandStep s.tuners.plan ∈ s.stations.inUse) ∧
      9000 + 1 * bandStep s.tuners.plan ∉ s.stations.inUse) ∧
    (let s := { idle with stations.returned := [9000] }
    s.stations.returned = [9000] ∧ 9000 ∉ s.stations.inUse) ∧
    (let s := { idle with stations.cursor := 10790 }
    s.stations.cursor + bandStep s.tuners.plan ≤ bandHigh s.tuners.plan ∧ s.stations.cursor ∉ s.stations.inUse) ∧
    (let s := { tabled with
      stations := { tabled.stations with
        cursor := 10800
        records := [{ Station.new 8750 with age := 2, refreshed := false }, Station.new 8760] } }
    s.stations.records.map (fun r => decide (r.refreshed = false ∧ min 15 (r.age + 1) ≤ s.stations.retire)) =
      [true, false]) ∧
    (let s := { tabled with stations.cursor := 10800 }
    bandHigh s.tuners.plan < s.stations.cursor + bandStep s.tuners.plan ∧ s.stations.cursor ∉ s.stations.inUse ∧
      s.tuners.t1.role = .free) ∧
    ((scanning none).Works ∧ (scanning none).tuners.t1.activity = .scanStep ∧
      (scanning none).tuners.t1.scan = some ⟨none, false, []⟩ ∧ (scanning none).stations.reserved .t1 = some 8760) ∧
    idle.tuners.interval = none ∧
    (paired.Works ∧ paired.tuners.link = .paired ∧ paired.tuners.interval ≠ none ∧ paired.tuners.t2.role = .partner ∧
      paired.tuners.t1.role = .program) := by
  unfold State.Works; decide

theorem test_scan_step_begins :
    (after (.scanStepBegin .t1) idle).stations.reserved1 = some 8750 ∧
      (after (.scanStepBegin .t1) { tabled with stations.cursor := 10800 }).stations.round = 1 := by decide
/-- R73 under FULL: a step begins while the switch of a partner search has still to settle; under INTERLEAVED it waits
(log entry 11). -/
theorem test_scan_step_under_full :
    let s := fun k => { hearing1 (fun t => { t with retune := some ⟨.switch 8760 false, true⟩ }) with
      tuners.policy.scan := k }
    (after (.scanStepBegin .t2) (s .full)).tuners.t2.activity = .scanStep ∧
      after (.scanStepBegin .t2) (s .interleaved) = s .interleaved := by decide
theorem test_scan_measurement :
    (after (.scanMeasurement .t1 30 60) (scanning none)).tuners.t1.scan = some ⟨some ⟨30, 60, 12, .iii, .scan⟩, false, []⟩ ∧
      (after (.scanMeasurement .t1 45 30) (scanning none)).tuners.t1.scan = some ⟨some ⟨45, 30, 36, .ii, .scan⟩, true, []⟩ := by
  decide
theorem test_scan_interval :
    (after .scanIntervalExpiry paired).tuners.link = .broken ∧ (after .scanIntervalExpiry paired).tuners.t2.role = .free := by
  decide

theorem witness_ScanStepCompletes :
    ∀ m ∈ [(⟨30, 60, 12, .iii, .scan⟩ : Measurement), ⟨45, 30, 36, .ii, .scan⟩],
      let s := scanning (some m)
      s.Works ∧ s.NoRetune ∧ s.WatchSettled ∧ s.tuners.waiting = [] ∧ s.tuners.t1.activity = .scanStep ∧
        s.tuners.t1.scan = some ⟨some m, false, []⟩ ∧ s.stations.reserved .t1 = some 8760 ∧
        s.stations.find 8760 = none ∧
        ({ s with stations.records := tabled.stations.records } : State).stations.find 8760 = some (Station.new 8760) := by
  unfold State.Works State.NoRetune State.WatchSettled; decide

theorem witness_ScanStepCompletes_full :
    ∀ pinned ∈ [true, false],
      let m : Measurement := ⟨45, 30, 36, .ii, .scan⟩
      let items := [DataItem.programCode 7, .programCode 8, .nameSegment 3 65 66, .traffic true false, .afList [8750, 9990]]
      let s := { scanning none with
        tuners.t1.scan := some ⟨some m, true, items⟩
        stations := { (full pinned).stations with reserved1 := some 10000 } }
      s.Works ∧ s.NoRetune ∧ s.WatchSettled ∧ s.tuners.waiting = [] ∧ s.tuners.t1.activity = .scanStep ∧
        s.stations.reserved .t1 = some 10000 ∧ s.stations.find 10000 = none ∧ 48 ≤ s.stations.records.length ∧
        s.stations.victim = (if pinned then none else some { Station.new 8900 with age := 15 }) := by
  unfold State.Works State.NoRetune State.WatchSettled; decide

theorem test_scan_step_complete :
    ((after (.scanStepComplete .t1) (scanning (some ⟨45, 30, 36, .ii, .scan⟩))).stations.find 8760).map (fun r => r.last) =
      some (some (36, .ii, .scan)) ∧
    (after (.scanStepComplete .t1) (scanning (some ⟨30, 60, 12, .iii, .scan⟩))).stations.records = [] := by decide

/-- T2 checks 87.60 MHz for the search of T1, which has candidates left and found some before. -/
def checkingOf (rest : List Nat) (found : List (Nat × Nat)) (m : Option Measurement) : State :=
  let s := hearing1 (fun t => { t with af := .searching, search := some ⟨true, rest, found⟩ })
  { s with tuners.t2 := { Tuner.free with activity := .afCheckForMaster, check := some ⟨8760, m⟩ } }

/-- T2 checks the last candidate, none found before. -/
def checking (m : Option Measurement) : State := checkingOf [] [] m

theorem witness_AfCheckIsJudged :
    ((checking none).Works ∧ (checking none).tuners.t2.activity = .afCheckForMaster ∧
      (checking none).tuners.t2.check = some ⟨8760, none⟩) ∧
    (let m : Measurement := ⟨60, 0, 60, .i, .afCheck⟩
    let s := checking (some m)
    s.Works ∧ s.tuners.t2.activity = .afCheckForMaster ∧ s.tuners.t2.check = some ⟨8760, some m⟩ ∧
      s.tuners.t1.search = some ⟨true, [], []⟩ ∧ s.tuners.t1.af = .searching ∧ s.NoRetune ∧ s.WatchSettled ∧
      some 0xABCD#16 ≠ some 0 ∧ s.tuners.t1.code = some 0xABCD ∧ m.area ≠ .iii ∧
      s.tuners.t1.measurement = some ⟨30, 0, 30, .ii, .program⟩ ∧ 30 + s.tuners.policy.hysteresis ≤ m.quality ∧
      s.tuners.t2.role = .free ∧ s.tuners.waiting = [] ∧
      (s.stations.find 8760).map (fun r => r.code) = some s.tuners.t1.code) ∧
    (let s := checkingOf [8770] [] (some ⟨60, 0, 60, .i, .afCheck⟩)
    s.tuners.t1.search = some ⟨true, [8770], []⟩ ∧ s.tuners.t1.role = .program ∧ s.tuners.t1.frequency ≠ some 8760) ∧
    (let s := checkingOf [] [(8770, 55), (8780, 34)] (some ⟨10, 0, 10, .iii, .afCheck⟩)
    s.Works ∧ s.NoRetune ∧ s.WatchSettled ∧ s.tuners.t1.search = some ⟨true, [], [(8770, 55), (8780, 34)]⟩ ∧
      s.tuners.policy.hysteresis = 6 ∧ s.tuners.t1.measurement.map (fun m => m.quality) = some 30 ∧
      (∀ z ∈ [(8780, 34)], z.2 ≤ 55) ∧ 30 + 6 ≤ 55 ∧ ¬30 + 6 ≤ 34) ∧
    (let s := { checking none with tuners.t2 := { Tuner.free with activity := .afCheckForMaster } }
    s.tuners.t2.activity = .afCheckForMaster ∧ s.tuners.t2.check = none) := by
  unfold State.Works State.NoRetune State.WatchSettled; decide

/-- T2 checks 87.60 MHz in area III, one candidate left, over the records given. -/
def checkingOver (rs : List Station) : State :=
  { checkingOf [8770] [] (some ⟨10, 0, 10, .iii, .afCheck⟩) with stations.records := rs }

/-- A full table without a record of 87.50 or 87.60 MHz. -/
def elsewhere (pinned : Bool) : List Station :=
  (full pinned).stations.records.map (fun r => { r with frequency := r.frequency + 500 })

/-- The candidate has its record with another code, or none; the table has room, or a victim, or no place. -/
theorem witness_AfCheckIsJudged_records :
    (∀ rs ∈ [hearing.stations.records, [coded], elsewhere false, elsewhere true],
      let s := checkingOver rs
      s.Works ∧ s.NoRetune ∧ s.WatchSettled ∧ s.tuners.waiting = [] ∧ s.tuners.t1.frequency ≠ some 8760 ∧
        s.tuners.t1.af = .searching ∧ s.tuners.t1.watch = false ∧ s.tuners.t2.activity = .afCheckForMaster ∧
        s.tuners.t1.search = some ⟨true, [8770], []⟩) ∧
    ((checkingOver hearing.stations.records).stations.find 8760).map (fun r => r.code) = some (some 0xABCD) ∧
    (checkingOver [coded]).stations.find 8760 = none ∧ (some 7#16 : Option (BitVec 16)) ≠ some 0 := by
  unfold State.Works State.NoRetune State.WatchSettled; decide
theorem witness_AfCheckIsJudged_full :
    ((elsewhere false).length = 48 ∧ (checkingOver (elsewhere false)).stations.find 8760 = none ∧
      (checkingOver (elsewhere false)).stations.victim.map (fun v => v.frequency) = some 9400) ∧
    ((elsewhere true).length = 48 ∧ (checkingOver (elsewhere true)).stations.find 8760 = none ∧
      (checkingOver (elsewhere true)).stations.victim = none) ∧
    (checkingOf [] [] (some ⟨10, 0, 10, .iii, .afCheck⟩)).tuners.t1.search = some ⟨true, [], []⟩ := by decide

theorem test_af_check_switches :
    (after (.afCheckEnd .t2 (some 0xABCD)) (checking (some ⟨60, 0, 60, .i, .afCheck⟩))).tuners.t1.retune.map
      (fun r => r.kind) = some (.switch 8760 false) := by decide
/-- The best of earlier candidates, judged at the search's end (3.11); none reaches the hysteresis in the second. -/
theorem test_af_search_ends :
    (after (.afCheckEnd .t2 none) (checkingOf [] [(8770, 55), (8780, 55)] (some ⟨10, 0, 10, .iii, .afCheck⟩))).tuners.t1.retune.map
      (fun r => r.kind) = some (.switch 8770 false) ∧
    (after (.afCheckEnd .t2 none) (checkingOf [] [(8770, 35)] (some ⟨10, 0, 10, .iii, .afCheck⟩))).tuners.t1.af = .idle := by
  decide
theorem test_af_check_measurement :
    (after (.afCheckMeasurement .t2 60 0) (checking none)).tuners.t2.check = some ⟨8760, some ⟨60, 0, 60, .i, .afCheck⟩⟩ := by
  decide

/-- T1 on a self jump to 87.60 MHz, another candidate left. -/
def jumping : State :=
  hearing1 (fun t => { t with
    activity := .selfAfJump, retune := some ⟨.jump 8760, true⟩, af := .searching, search := some ⟨false, [8770], []⟩ })

/-- T1 on the self jump to its last candidate, some found before. -/
def jumpingLast (found : List (Nat × Nat)) : State :=
  hearing1 (fun t => { t with
    activity := .selfAfJump, retune := some ⟨.jump 8760, true⟩, af := .searching, search := some ⟨false, [], found⟩ })

/-- T1 awaits the confirmation of its switch. -/
def confirming : State := hearing1 (fun t => { t with af := .confirming, oldFrequency := some 8760 })

theorem witness_JumpEndsAndUnconfirmedSwitchesRevert :
    (jumping.Works ∧ jumping.tuners.t2.retune = none ∧ jumping.tuners.t1.role = .program ∧
      jumping.tuners.t1.activity = .selfAfJump ∧ jumping.tuners.t1.retune = some ⟨.jump 8760, true⟩ ∧ jumping.WatchSettled ∧
      jumping.tuners.t1.search = some ⟨false, [8770], []⟩ ∧ jumping.stations.find 8760 ≠ none) ∧
    (∀ found ∈ [[], [(8770, 50)]],
      let s := jumpingLast found
      s.Works ∧ s.tuners.t2.retune = none ∧ s.tuners.t1.role = .program ∧ s.tuners.t1.activity = .selfAfJump ∧
        s.tuners.t1.retune = some ⟨.jump 8760, true⟩ ∧ s.WatchSettled ∧ s.tuners.t1.search = some ⟨false, [], found⟩ ∧
        s.tuners.t2.holds 8770 = false ∧ ({ s with tuners.t2 := program 8770 } : State).tuners.t2.holds 8770 = true) ∧
    (let s := { confirming with tuners.t2 := program 8760 }
    s.Works ∧ s.tuners.t2.retune = none ∧ s.tuners.t1.af = .confirming ∧ s.tuners.t1.oldFrequency = some 8760 ∧
      s.tuners.t2.holds 8760 = true) ∧
    (confirming.Works ∧ confirming.tuners.t2.retune = none ∧ confirming.tuners.t1.role = .program ∧
      confirming.tuners.t1.af = .confirming ∧ confirming.tuners.t1.retune = none ∧
      confirming.tuners.t1.oldFrequency = some 8760 ∧ confirming.tuners.t2.holds 8760 = false) ∧
    hearing.tuners.t1.af ≠ .confirming := by
  unfold State.Works State.WatchSettled; decide

theorem witness_JumpEndsAndUnconfirmedSwitchesRevert_decoded :
    (∀ s ∈ [confirming, { confirming with tuners.t2 := program 8760 }],
      s.Works ∧ s.tuners.t2.retune = none ∧ s.tuners.t1.role = .program ∧ s.tuners.t1.af = .confirming ∧
        s.tuners.t1.retune = none ∧ s.tuners.t1.oldFrequency = some 8760 ∧ s.tuners.t1.activity = .dwell ∧
        s.tuners.t1.frequency = some 8750 ∧ s.tuners.waiting = [] ∧ s.WatchSettled ∧ s.stations.find 8750 = some coded) ∧
    confirming.tuners.t1.code = some (0xABCD#16).toNat ∧ confirming.tuners.t1.code ≠ some (0xABCE#16).toNat ∧
    confirming.tuners.t2.holds 8760 = false ∧ (program 8760).holds 8760 = true := by
  unfold State.Works State.WatchSettled; decide

theorem test_self_jump_ends :
    (after (.selfAfJumpEnd .t1 40 0) jumping).tuners.t1.activity = .dwell ∧
      ((after (.selfAfJumpEnd .t1 40 0) jumping).stations.find 8760).map (fun r => r.last) =
        some (some (40, .i, .afCheck)) := by decide
theorem test_unconfirmed_switch_reverts :
    (after (.afConfirmTimeout .t1) confirming).tuners.t1.frequency = some 8760 ∧
      (after (.dataItemDecoded .t1 (.programCode 0xABCE)) confirming).tuners.t1.retune =
        some ⟨.revert 8760 (some 0xABCE), true⟩ := by decide

/-! ## Phone port and calls -/

/-- The part with its phone port changed. -/
def onPhone (f : Phone → Phone) : State := { idle with phone := f idle.phone }

/-- A module with a 16 kHz clock, the link NEGOTIATING. -/
def negotiating : State :=
  onPhone (fun p => { p with link := .negotiating, clock := true, rate := .mode .wb, silence := some 300 })

/-- The word a module offering NB and WB sends (R122): kind 1, capabilities, odd parity. -/
def offer : BitVec 16 := 0x5800

/-- The word of a module idling in WB: kind 3, WB and NB offered, mode 2. -/
def idling : BitVec 16 := 0xDC00

/-- The link ACKNOWLEDGING in WB, `n` words of the run received. -/
def acknowledging (n : Nat) (rate : RateClass) : State :=
  onPhone (fun p => { p with
    link := .acknowledging, clock := true, rate := rate, selected := some .wb, runCount := n, silence := some 300 })

/-- The link UP in WB, negotiated. -/
def linkUp : State :=
  onPhone (fun p => { p with
    link := .up, clock := true, rate := .mode .wb, upRate := some .wb, mode := some .wb, negotiated := true })

/-- The link in HOLD_OFF. -/
def holdingOff (clock : Bool) : State := onPhone (fun p => { p with link := .holdOff, clock := clock, holdOff := some 1 })

theorem witness_PhoneRequests :
    idle.Accepts .phoneAdvertise 0 [7] ∧ idle.Accepts .phoneAdvertise 0 [8] ∧ idle.Accepts .phoneAdvertise 0 [0] ∧
    idle.Accepts .phoneAdvertise 1 [1] ∧ idle.Accepts .phoneRestart 0 [] ∧ idle.Accepts .phoneRestart 0 [0] ∧
    idle.phone.link ≠ .holdOff ∧ idle.phone.link ≠ .up ∧ idle.Accepts .phoneRestart 1 [] ∧ idle.calls.legs = [] ∧
    busy.Accepts .phoneRestart 1 [] ∧ busy.calls.legs.map (fun l => l.owner) = [1] := by
  unfold State.Accepts; decide

theorem test_phone_advertise : answer (.phoneAdvertise 0 [5]) idle = [0x60, 0, 3, 5, 7, 0] := by decide
theorem test_phone_restart :
    answer (.phoneRestart 0 []) idle = [0x61, 0, 1, 4] ∧ (after (.phoneRestart 0 []) idle).phone.holdOff = some 400 := by
  decide

theorem witness_ClockAndRateMoveTheLink :
    (idle.Works ∧ idle.phone.clock = false ∧ idle.phone.link = .down ∧ idle.sup.state ≠ .quiet ∧
      idle.phone.rate = .none ∧ idle.phone.Consistent) ∧
    (negotiating.Works ∧ negotiating.phone.clock = true ∧ negotiating.phone.link ≠ .holdOff ∧
      negotiating.phone.link ≠ .down ∧ negotiating.phone.Consistent) ∧
    ((holdingOff false).phone.link = .holdOff ∧ (holdingOff false).phone.Consistent ∧ (holdingOff true).phone.Consistent) ∧
    (quiet.sup.state = .quiet ∧ quiet.phone.clock = false ∧ quiet.phone.Consistent) ∧
    (linkUp.phone.link = .up ∧ linkUp.phone.clock = true) ∧
    ((acknowledging 3 .other).phone.link = .acknowledging ∧ (acknowledging 3 .other).phone.runCount = 3 ∧
      (acknowledging 3 .other).phone.selected = some .wb ∧ (acknowledging 2 .other).phone.runCount ≠ 3) := by
  refine ⟨⟨by unfold State.Works; decide, rfl, rfl, by decide, rfl, ?_⟩,
    ⟨by unfold State.Works; decide, rfl, by decide, by decide, ?_⟩, ⟨rfl, ?_, ?_⟩, ⟨rfl, rfl, ?_⟩, ⟨rfl, rfl⟩, by decide⟩ <;>
  exact ⟨by decide, (by intro m h; cases h), by decide, by decide, by decide, by decide⟩

theorem test_clock_present : (after .clockDetectPresent idle).phone.link = .negotiating := by decide
theorem test_clock_absent : (after .clockDetectAbsent linkUp).phone.link = .down := by
  have h : after .clockDetectAbsent linkUp = linkUp.setPhone linkUp.phone.clockAbsent := rfl
  rw [h, State.setPhone_phone]; decide
theorem test_rate_span_ends_up : (after (.rateSpanEnd 15679) linkUp).phone.link = .negotiating := by
  have h : after (.rateSpanEnd 15679) linkUp = linkUp.setPhone (linkUp.phone.spanEnd 15679) := rfl
  rw [h, State.setPhone_phone]; decide
theorem test_rate_span_brings_up : (after (.rateSpanEnd 15680) (acknowledging 3 .other)).phone.link = .up := by
  have h : after (.rateSpanEnd 15680) (acknowledging 3 .other) =
    (acknowledging 3 .other).setPhone ((acknowledging 3 .other).phone.spanEnd 15680) := rfl
  rw [h, State.setPhone_phone]; decide

theorem witness_WordsAndNegotiation :
    (wordOf offer = some ⟨.advertise, ⟨true, true, false⟩, none, false⟩ ∧
      ((0x5800#16).getLsbD 15 = false ∧ (0x5800#16).getLsbD 14 = true)) ∧
    (wordOf idling = some ⟨.idle, ⟨true, true, false⟩, some .wb, false⟩ ∧
      (WordKind.idle = .advertise ↔ some Mode.wb = none)) ∧
    ((0x3800#16).getLsbD 15 = false ∧ (0x3800#16).getLsbD 14 = false ∧
      (List.range 16).countP (fun k => (0x5000#16).getLsbD k) % 2 = 0 ∧ (0x5A00#16).getLsbD 9 = true) ∧
    negotiating.Works ∧
    (let s := onPhone (fun p => { negotiating.phone with runWord := wordOf offer, runCount := 2, inUse := p.inUse })
    s.phone.link = .negotiating ∧ s.phone.runWord = wordOf offer ∧ s.phone.runCount = 2 ∧
      bestCommon s.phone.inUse ⟨true, true, false⟩ = some .wb ∧ bestCommon ⟨false, false, true⟩ ⟨true, true, false⟩ = none) ∧
    (negotiating.phone.runWord ≠ wordOf offer ∧ negotiating.phone.link = .negotiating) ∧
    (∀ n ∈ [1, 2], (acknowledging n (.mode .wb)).phone.link = .acknowledging ∧
      (acknowledging n (.mode .wb)).phone.selected = some .wb ∧ (acknowledging n (.mode .wb)).phone.runCount = n) ∧
    (linkUp.phone.link = .up ∧ linkUp.phone.negotiated = true ∧ linkUp.phone.mode = some .wb) ∧
    ((acknowledging 2 .other).phone.runCount = 2 ∧ (acknowledging 2 .other).phone.rate ≠ .mode .wb ∧
      (acknowledging 1 .other).phone.runCount < 2) ∧
    (let s := onPhone (fun _ => { negotiating.phone with runWord := wordOf offer, runCount := 3 })
    s.phone.link = .negotiating ∧ s.phone.runWord = wordOf offer ∧ s.phone.runCount ≠ 2) := by
  unfold State.Works; decide

theorem test_partner_word_selects :
    (after (.partnerWord offer) { negotiating with phone := { negotiating.phone with
      runWord := wordOf offer, runCount := 2 } }).phone.selected = some .wb := by decide
theorem test_partner_word_completes :
    (after (.partnerWord idling) (acknowledging 2 (.mode .wb))).phone.mode = some .wb := by
  have h : after (.partnerWord idling) (acknowledging 2 (.mode .wb)) = (acknowledging 2 (.mode .wb)).setPhone
    ((acknowledging 2 (.mode .wb)).phone.word ⟨.idle, ⟨true, true, false⟩, some .wb, false⟩) := rfl
  rw [h, State.setPhone_phone]; decide

/-- A word is due in the first frame of NEGOTIATING and in every 32nd after it; 16 frames pass in 1 ms at 16 kHz (R122). -/
theorem test_word_count :
    negotiating.phone.controlSlot = 0x7801 ∧ negotiating.tick.phone.wordCount = 16 ∧
      negotiating.tick.phone.controlSlot = 0 ∧ negotiating.tick.tick.phone.wordCount = 0 := by decide

theorem witness_SilenceAndHoldOffEnd :
    idle.Works ∧ idle.phone.silence = none ∧ idle.phone.link ≠ .holdOff ∧
    (negotiating.Works ∧ negotiating.phone.silence ≠ none ∧ negotiating.phone.rate = .mode .wb ∧
      negotiating.phone.inUse.has .wb = true ∧ negotiating.phone.link ≠ .acknowledging) ∧
    ((acknowledging 0 .other).phone.silence ≠ none ∧ (acknowledging 0 .other).phone.link = .acknowledging ∧
      (acknowledging 0 .other).phone.rate = .other ∧ (acknowledging 0 .other).phone.detectionFault = false) ∧
    ((holdingOff true).phone.link = .holdOff ∧ (holdingOff true).phone.clock = true ∧
      (holdingOff false).phone.clock = false) := by
  unfold State.Works; decide

theorem test_silence_detects : (after .silenceTimerExpiry negotiating).phone.mode = some .wb := by
  have h : after .silenceTimerExpiry negotiating = negotiating.setPhone negotiating.phone.detect := rfl
  rw [h, State.setPhone_phone]; decide
theorem test_silence_without_a_rate :
    (after .silenceTimerExpiry (acknowledging 0 .other)).phone.detectionFault = true := by decide
theorem test_hold_off_ends :
    (after .holdOffExpiry (holdingOff true)).phone.link = .negotiating ∧
      (after .holdOffExpiry (holdingOff false)).phone.link = .down := by decide

/-- A leg of owner 1, and a HELD one. -/
def activeLeg : Leg :=
  { id := 1, reuse := 0, owner := 1, state := .active, ring := 15, seats := ⟨true, false, false, false⟩, gain := 96,
    mute := false, order := 1 }
def heldLeg : Leg := { activeLeg with id := 2, state := .held, order := 2 }

/-- Two legs, the CALL route of the first in slot 1 PLAYING. -/
def calling : State :=
  { linkUp with
    calls.legs := [activeLeg, heldLeg]
    routes := [{ media with cls := .call, source := .leg 1 0 }] }

/-- Three legs. -/
def crowdedCalls : State := { calling with calls.legs := [activeLeg, heldLeg, { heldLeg with id := 3, order := 3 }] }

theorem calls_consistent : calling.calls.Consistent ∧ idle.calls.Consistent ∧ crowdedCalls.calls.Consistent := by
  refine ⟨?_, ?_, ?_⟩ <;> exact ⟨by decide, by decide, by decide, by decide, by decide⟩

theorem witness_LegsAreOpenedAndMoved :
    (idle.calls.Consistent ∧ calling.calls.Consistent ∧ crowdedCalls.calls.Consistent) ∧
    idle.Accepts .legOpen 1 [1, 15, 15] ∧ idle.calls.legs.length < 3 ∧ calling.Accepts .legOpen 1 [0, 0, 0] ∧
    idle.Accepts .legOpen 1 [2, 0, 0] ∧ idle.Accepts .legOpen 1 [0, 16, 0] ∧ idle.Accepts .legOpen 1 [0, 0, 16] ∧
    crowdedCalls.Accepts .legOpen 1 [0, 0, 0] ∧ crowdedCalls.calls.legs.length = 3 ∧
    calling.Accepts .legState 1 [1, 0, 1] ∧ calling.leg 1 0 = some activeLeg ∧ calling.Accepts .legState 1 [1, 0, 2] ∧
    calling.Accepts .legState 1 [2, 0, 2] ∧ calling.leg 2 0 = some heldLeg ∧ calling.Accepts .legState 1 [2, 0, 1] ∧
    calling.Accepts .legState 1 [3, 0, 1] ∧ calling.leg 3 0 = none ∧ calling.Accepts .legState 1 [4, 0, 1] ∧
    calling.Accepts .legState 1 [1, 0, 0] ∧ calling.Accepts .legState 2 [1, 0, 1] ∧ (2#8).toNat ≠ activeLeg.owner ∧
    (activeLeg ∈ calling.calls.legs ∧ activeLeg.seats.has .driver = true ∧ calling.Accepts .legOpen 1 [1, 15, 2]) := by
  refine ⟨⟨calls_consistent.2.1, calls_consistent.1, calls_consistent.2.2⟩, ?_⟩
  unfold State.Accepts; decide

/-- Routes of the leg made HELD and of the leg made ACTIVE, with the link UP and not. -/
theorem witness_LegsAreOpenedAndMoved_routes :
    (∀ s ∈ [calling, { calling with phone := idle.phone }],
      s.NoRetune ∧ s.WatchSettled ∧ s.Accepts .legState 1 [2, 0, 1] ∧ s.leg 2 0 = some heldLeg ∧ activeLeg ∈ s.calls.legs ∧
        s.Accepts .legState 1 [1, 0, 2] ∧ s.leg 1 0 = some activeLeg ∧ s.Accepts .legOpen 1 [1, 15, 2] ∧
        (after (.legState 1 [2, 0, 1]) s).routes.map (fun r => (r.source, r.state)) = [(.leg 1 0, .pending)]) ∧
    calling.phone.link = .up ∧ idle.phone.link ≠ .up ∧
    (let s := { calling with
      calls.legs := [{ activeLeg with state := .ringing }]
      phone := idle.phone
      routes := [{ media with cls := .call, source := .leg 1 0, play := some { cycle := 0, element := .segment1, time := 5 } },
        { waits with cls := .call, source := .leg 1 0 }] }
    s.NoRetune ∧ s.WatchSettled ∧ s.Accepts .legState 1 [1, 0, 1] ∧ s.Accepts .legState 1 [1, 0, 2] ∧
      (s.leg 1 0).map (fun l => l.state) = some .ringing ∧
      (after (.legState 1 [1, 0, 1]) s).routes.map (fun r => (r.cause, r.play)) =
        [(some .linkDown, none), (some .noListener, none)]) := by
  unfold State.Accepts State.NoRetune State.WatchSettled; decide
theorem calls_consistent_ringing :
    ({ calling.calls with legs := [{ activeLeg with state := .ringing }] } : Calls).Consistent := by
  exact ⟨by decide, by decide, by decide, by decide, by decide⟩

theorem test_leg_open :
    answer (.legOpen 1 [1, 15, 15]) calling = [0x70, 0, 5, 3, 0, 1, 1, 0] ∧
      answer (.legOpen 1 [0, 0, 0]) crowdedCalls = [0x70, 5, 0] := by decide
theorem test_leg_state :
    answer (.legState 1 [2, 0, 1]) calling = [0x71, 0, 3, 1, 1, 0] ∧
      (after (.legState 1 [2, 0, 1]) calling).calls.legs.map (fun l => l.state) = [.held, .active] := by decide

theorem witness_LegCloseRemovesALeg :
    calling.calls.Consistent ∧ calling.SlotsOrdered ∧ calling.Accepts .legClose 1 [1, 0] ∧
    calling.leg 1 0 = some activeLeg ∧ calling.Accepts .legClose 0 [3, 0] ∧ calling.leg 3 0 = none ∧
    calling.Accepts .legClose 0 [4, 0] ∧ calling.Accepts .legClose 2 [1, 0] ∧ (2#8).toNat ≠ activeLeg.owner := by
  refine ⟨calls_consistent.1, ?_⟩
  unfold State.Accepts State.SlotsOrdered; decide

theorem test_leg_close :
    answer (.legClose 1 [1, 0]) calling = [0x74, 0, 2, 1, 0] ∧ (after (.legClose 1 [1, 0]) calling).calls.reuse[0] = 1 ∧
      (after (.legClose 1 [1, 0]) calling).calls.legs = [{ heldLeg with order := 1 }] := by decide

theorem witness_LegSettings :
    calling.Accepts .legSeats 1 [1, 0, 15] ∧ calling.leg 1 0 = some activeLeg ∧ calling.Accepts .legSeats 1 [2, 0, 0] ∧
    calling.leg 2 0 = some heldLeg ∧ heldLeg.state ≠ .active ∧ calling.Accepts .legSeats 1 [1, 0, 16] ∧
    calling.Accepts .legSeats 1 [0, 0, 0] ∧ calling.Accepts .legUplink 1 [4, 0, 0, 0] ∧
    calling.Accepts .legSeats 1 [3, 0, 0] ∧ calling.leg 3 0 = none ∧ calling.Accepts .legSeats 2 [1, 0, 0] ∧
    (2#8).toNat ≠ activeLeg.owner ∧ calling.Accepts .legUplink 1 [1, 0, 97, 1] ∧ calling.Accepts .legUplink 1 [1, 0, 0, 2] ∧
    calling.Accepts .legUplink 1 [3, 0, 0, 0] ∧ calling.Accepts .legUplink 2 [1, 0, 0, 0] ∧ idle.Accepts .echoTarget 0 [30] ∧
    idle.Accepts .echoTarget 0 [31] ∧ idle.Accepts .echoTarget 1 [10] := by
  unfold State.Accepts; decide

theorem test_leg_seats :
    answer (.legSeats 1 [1, 0, 8]) calling = [0x72, 0, 1, 8] ∧
      ((after (.legSeats 1 [1, 0, 8]) calling).calls.mics.get 3).check = some 100 := by decide
theorem test_leg_uplink : answer (.legUplink 1 [1, 0, 97, 1]) calling = [0x73, 0, 2, 96, 1] := by decide
theorem test_echo_target : answer (.echoTarget 0 [30]) idle = [0x76, 0, 1, 30] := by decide

/-- The driver's microphone in a state given. -/
def micState (m : Mic) : State := { calling with calls.mics.a0 := m }

theorem witness_ChecksAndWindowsAreJudged :
    idle.Works ∧ (idle.calls.mics.get 0).check = none ∧ (idle.calls.mics.get 0).canceller = .idle ∧
    (let s := micState { Mic.initial with check := some 0 }
    s.Works ∧ (s.calls.mics.get (seatIndex .driver)).check ≠ none ∧ s.phone.link = .up) ∧
    (let s := micState { Mic.initial with canceller := .converging, sustain := 7 }
    s.Works ∧ (s.calls.mics.get (seatIndex .driver)).canceller = .converging ∧
      7 ≤ (s.calls.mics.get (seatIndex .driver)).sustain ∧ (0 : Nat) = 0) ∧
    (let s := micState { Mic.initial with canceller := .converged, divergence := 3 }
    s.Works ∧ (s.calls.mics.get (seatIndex .driver)).canceller = .converged ∧
      3 ≤ (s.calls.mics.get (seatIndex .driver)).divergence ∧ ¬((1 : Nat) = 0 ∨ 10 ^ 12 * 1 ^ 10 ≤ 1 ^ 10)) := by
  unfold State.Works; decide

theorem test_mic_check_ends :
    ((after (.micCheckEnd .driver (-9001)) (micState { Mic.initial with check := some 0 })).calls.mics.get 0).health = .opened ∧
    ((after (.micCheckEnd .driver (-9000)) (micState { Mic.initial with check := some 0 })).calls.mics.get 0).canceller =
      .converging := by decide
/-- 18 dB is a power ratio of 63.1: 64 to 1 reaches the target, 63 to 1 does not. -/
theorem test_echo_window_converges :
    ((after (.echoWindowEnd .driver (-5000) 64 1)
      (micState { Mic.initial with canceller := .converging, sustain := 7 })).calls.mics.get 0).canceller = .converged ∧
    ((after (.echoWindowEnd .driver (-5000) 63 1)
      (micState { Mic.initial with canceller := .converging, sustain := 7 })).calls.mics.get 0).sustain = 0 := by decide

/-- The link one span from UP, with a CALL route on an ACTIVE leg and the driver's canceller FROZEN. -/
def connecting : State :=
  { acknowledging 3 .other with
    calls.legs := [activeLeg]
    calls.mics.a0 := { Mic.initial with canceller := .frozen, lastMode := some .wb, remembered := some true }
    routes := [{ media with
      cls := .call, source := .leg 1 0, state := .pending, cause := some .linkDown, applied := .mute, target := none
      condition := .linkDown }] }

/-- The call with the driver's canceller CONVERGED. -/
def converged : State := micState { Mic.initial with canceller := .converged, divergence := 2, lastMode := some .wb }

theorem witness_LinkAndReferenceChangesAct :
    (connecting.NoRetune ∧ connecting.WatchSettled ∧ connecting.phone.link ≠ .up ∧
      ∃ t, exec (.rateSpanEnd 15680) connecting = .next t ∧ t.phone.link = .up) ∧
    (converged.NoRetune ∧ converged.WatchSettled ∧ converged.phone.link = .up ∧
      ∃ t, exec .clockDetectAbsent converged = .next t ∧ t.phone.link ≠ .up) ∧
    (converged.Accepts .routeRetire 1 [1, 0] ∧ converged.SlotsOrdered ∧
      (converged.routeOf ⟨1, 0⟩).map (fun r => (r.owner, r.zone, r.state, r.applied)) =
        some (1, .cabin, .playing, .q (-170))) := by
  refine ⟨⟨by unfold State.NoRetune; decide, by unfold State.WatchSettled; decide, by decide, _, rfl, ?_⟩,
    ⟨by unfold State.NoRetune; decide, by unfold State.WatchSettled; decide, rfl, _, rfl, ?_⟩,
    by unfold State.Accepts State.SlotsOrdered; decide⟩
  · change (connecting.setPhone (connecting.phone.spanEnd 15680)).phone.link = .up
    rw [State.setPhone_phone]; decide
  · change (converged.setPhone converged.phone.clockAbsent).phone.link ≠ .up
    rw [State.setPhone_phone]; decide

theorem test_reference_change :
    let t := after (.routeRetire 1 [1, 0]) converged
    ((t.calls.mics.get 0).canceller, (t.calls.mics.get 0).divergence) = (.converging, 0) ∧
      t.events.flags.getLsbD 10 = true := by decide

/-! ## Jacks, lines, supervision -/

/-- HP1 with a plug in the jack for a while, or just put in. -/
def plugged (timer : Option Nat) (present : Bool) : State :=
  { withRoutes [waits] with
    jacks.j1 := { present := present, timer := timer }
    mixer.hp1.volume := 20
    pins.hpDet1 := !present }

theorem witness_JackDetection :
    held.port.phase = .held ∧ idle.hpDet .hp1 = false ∧ idle.Works ∧ idle.hpDet .hp2 ≠ true ∧
    (idle.jack .hp1).timer = none ∧
    ((plugged (some 0) false).Works ∧ ((plugged (some 0) false).jack .hp1).timer ≠ none ∧
      (plugged (some 0) false).NoRetune ∧ ((plugged (some 0) false).jack .hp1).present = false) ∧
    ((plugged (some 0) true).Works ∧ ((plugged (some 0) true).jack .hp1).timer ≠ none ∧ (plugged (some 0) true).NoRetune ∧
      ((plugged (some 0) true).jack .hp1).present = true) := by
  unfold State.Works State.NoRetune; decide

theorem test_hp_det_change :
    (after (.hpDetChange .hp1 true) idle).jacks.j1.timer = some 50 ∧
      (after (.hpDetChange .hp1 false) { after (.hpDetChange .hp1 true) idle with pins.hpDet1 := true }).jacks.j1.timer =
        none := by decide
theorem test_hp_debounce_expiry :
    let t := after (.hpDebounceExpiry .hp1) (plugged (some 0) false)
    t.mixer.hp1.volume = 15 ∧ t.routes.map (fun r => r.state) = [.rising] := by decide

/-- Line 0 with its timer run out, in a state given; QUIET or not. -/
def line0 (state : LineState) (quiet : Bool) : State :=
  { sounding with
    sup.state := if quiet then .quiet else .run
    lines.a0 := { builtInLine 0 with state := state, timer := some 0, routes := if state = .released then [] else [⟨2, 0⟩] } }

/-- Every slot taken, line 0 with its timer run out. -/
def crowdedLine : State := { crowded with lines.a0 := { builtInLine 0 with timer := some 0 } }

theorem witness_DirectLines :
    held.port.phase = .held ∧ idle.pins.alertIn.get 3 = true ∧ idle.Works ∧ idle.pins.alertIn.get 3 ≠ false ∧
    (idle.lines.get 3).timer = none ∧
    (let s := line0 .released false
    s.Works ∧ s.SlotsOrdered ∧ (s.lines.get 0).timer ≠ none ∧ (s.lines.get 0).state = .released ∧
      (s.lines.get 0).enabled = true ∧ s.sup.state ≠ .quiet ∧ s.routes.length + (s.lines.get 0).zones.zones.length ≤ 24) ∧
    (let s := line0 .released true
    s.sup.state = .quiet ∧ (s.lines.get 0).quiet = false) ∧
    (crowdedLine.Works ∧ crowdedLine.SlotsOrdered ∧ (crowdedLine.lines.get 0).timer ≠ none ∧
      (crowdedLine.lines.get 0).state = .released ∧ crowdedLine.routes.length = 24 ∧
      (crowdedLine.lines.get 0).zones.zones ≠ []) ∧
    (let s := withRoutes ((List.range 23).map (fun k => { media with slot := k + 1, rank := k + 1 }))
    let s := { s with lines.a0 := { builtInLine 0 with timer := some 0, zones := ⟨true, true, false⟩ } }
    s.Works ∧ s.SlotsOrdered ∧ (s.lines.get 0).timer ≠ none ∧ (s.lines.get 0).state = .released ∧
      24 < s.routes.length + (s.lines.get 0).zones.zones.length) ∧
    (∀ k ∈ [LineState.asserted, .latchedOut], (line0 k false).Works ∧ (line0 k false).SlotsOrdered ∧
      ((line0 k false).lines.get 0).timer ≠ none ∧ ((line0 k false).lines.get 0).state ≠ .released) := by
  unfold State.Works State.SlotsOrdered; decide

theorem test_alert_in_change : ((after (.alertInChange 3 false) idle).lines.get 3).timer = some 20 := by decide
theorem test_line_debounce_expiry :
    let t := after (.lineDebounceExpiry 0) (line0 .released false)
    t.routes.map (fun r => (r.slot, r.owner)) = [(1, 1), (2, 7), (3, 1), (4, 7)] ∧
      ((after (.lineDebounceExpiry 0) (line0 .asserted false)).routeIn 2).map (fun r => r.state) = some .closing := by decide

/-- QUIET with a clock at the phone port. -/
def quietClock : State := { quiet with phone := { quiet.phone with clock := true, rate := .mode .wb } }

theorem quiet_is_bare : quiet.QuietBare ∧ quietClock.QuietBare := by
  constructor <;> exact ⟨by decide, by decide, by decide, by decide, by decide, by decide⟩

theorem witness_LimpAndQuietRequests :
    (quiet.QuietBare ∧ quietClock.QuietBare) ∧
    limp.Accepts .resume 0 [] ∧ limp.sup.state = .limp ∧ idle.Accepts .resume 0 [] ∧ idle.sup.state ≠ .limp ∧
    idle.Accepts .resume 1 [] ∧ idle.Accepts .resume 0 [0] ∧ quiet.Accepts .quietExit 0 [] ∧ quiet.sup.state = .quiet ∧
    quiet.phone.clock = false ∧ quietClock.Accepts .quietExit 0 [] ∧ quietClock.phone.clock = true ∧
    idle.Accepts .quietExit 0 [] ∧ idle.sup.state ≠ .quiet ∧ idle.Accepts .quietExit 1 [] ∧
    idle.Accepts .quietExit 0 [0] ∧ limp.NoRetune := by
  refine ⟨quiet_is_bare, ?_⟩
  unfold State.Accepts State.NoRetune; decide

/-- QUIET with a watch stored WAITING, its record there or not. -/
theorem witness_LimpAndQuietRequests_watch :
    ∀ rs ∈ [[], [coded]],
      let s := { quiet with tuners.watch := some 8750, stations.records := rs }
      s.QuietBare ∧ s.Accepts .quietExit 0 [] ∧ s.sup.state = .quiet ∧ s.tuners.watch = some 8750 := by
  intro rs h
  simp only [List.mem_cons, List.not_mem_nil, or_false] at h
  rcases h with rfl | rfl <;>
    exact ⟨⟨by decide, by decide, by decide, by decide, by decide, by decide⟩, by unfold State.Accepts; decide⟩
theorem witness_LimpAndQuietRequests_enter :
    idle.Accepts .quietEnter 0 [] ∧ idle.SlotsOrdered ∧ idle.sup.state ≠ .quiet ∧ idle.calls.legs = [] ∧
    quiet.Accepts .quietEnter 0 [] ∧ quiet.SlotsOrdered ∧ busy.Accepts .quietEnter 0 [] ∧ busy.calls.legs ≠ [] ∧
    busy.SlotsOrdered ∧ idle.Accepts .quietEnter 1 [] ∧ idle.Accepts .quietEnter 0 [0] := by
  unfold State.Accepts State.SlotsOrdered; decide

theorem test_resume :
    answer (.resume 0 []) outranked = [0x84, 0, 1, 0] ∧ (after (.resume 0 []) outranked).sup.left = none ∧
      (after (.resume 0 []) outranked).routes.map (fun r => r.state) = [.rising, .playing] := by decide
theorem test_quiet_exit :
    (after (.quietExit 0 []) quietClock).phone.link = .negotiating ∧
      answer (.quietExit 0 []) quiet = [0x86, 0, 1, 0] := by decide

theorem test_quiet_enter :
    answer (.quietEnter 0 []) (withRoutes [media, waits]) = [0x85, 0, 1, 2] ∧
      (after (.quietEnter 0 []) (withRoutes [media, waits])).routes = [] ∧ answer (.quietEnter 0 []) busy = [0x85, 12, 0] := by
  decide

/-! ## Read transfers, resets, queries -/

/-- A pending part reset whose response is UNREAD. -/
def resetting : State := after (.partReset 0 []) idle

/-- The response of start-up READ. -/
def hasRead : State := after (.readTransfer 7) idle

theorem witness_ReadTransfersClockOutTheResponse :
    held.port.phase ≠ .running ∧ idle.port.phase = .running ∧
    idle.port.buffer = .unread [0#8, 0#8, 3#8, 0#8, 0#8, 0#8, 149#8] ∧ idle.port.resetPending = none ∧
    hasRead.port.buffer = .read [0#8, 0#8, 3#8, 0#8, 0#8, 0#8, 149#8] ∧ hasRead.port.resetPending = none ∧
    ({ idle with port.buffer := .empty } : State).port.buffer = .empty ∧
    resetting.port.phase = .running ∧ resetting.port.resetPending ≠ none ∧ resetting.port.buffer.code = 1 := by
  decide

theorem test_read_transfer :
    hasRead.port.sdo = [0, 0, 3, 0, 0, 0, 149] ∧ (after (.readTransfer 6) idle).port.buffer.code = 1 ∧
      (after (.readTransfer 9) hasRead).port.sdo = [0, 0, 3, 0, 0, 0, 149, 0, 0] := by decide
theorem test_read_takes_the_part_reset : (after (.readTransfer 4) resetting).port.phase = .startUp := by decide

/-- A write of row 30 in progress. -/
def writing : State := after (.storeWrite 0 row30) idle

theorem witness_PartIsHeldAndStartUpEnds :
    idle.store.writer = none ∧ writing.store.writer.map (fun w => w.row) = some 30 ∧
    ({ idle with port.phase := .startUp } : State).port.phase = .startUp ∧ idle.port.phase ≠ .startUp := by
  decide

theorem test_reset_assert :
    (after (.resetNAssert .supplyLost) idle).port.phase = .held ∧
      ((after (.resetNAssert .resetN) idle).atnA || (after (.resetNAssert .resetN) idle).ready) = false := by decide

theorem witness_StartUpsTakeStartingValues :
    (held.pins.resetN = false ∧ held.pins.supply = true) ∧
    (let s := { held with pins.resetN := true, pins.supply := false }
    s.pins.supply = false ∧ s.pins.resetN = true) ∧
    (resetting.port.phase = .running ∧ resetting.port.resetPending.isSome = true ∧ resetting.tuners.plan = .a) ∧
    (let s := { held with pins.alertIn := ⟨false, false, false, false⟩ }
    (loadLine (s.abortWrite.store.goodRow 5) 0 0 (s.pins.alertIn.get 0)).state = .asserted ∧
      (loadLine (s.abortWrite.store.goodRow 5) 0 0 (s.pins.alertIn.get 0)).enabled = true) ∧
    (∀ n : Fin 4, (loadLine (held.abortWrite.store.goodRow (5 + n.val / 2)) n (6 * (n.val % 2))
      (held.pins.alertIn.get n)).state ≠ .asserted) ∧
    (idle.pins.resetN = true ∧ idle.pins.supply = true ∧ idle.port.resetPending = none) := by
  decide

/-- Of each row a mixer is loaded from, one state has it good and one has not. -/
theorem witness_StartUpsTakeStartingValues_rows :
    ∀ k ∈ [0, 1, 23, 24, 25, 26, 27, 28, 29, 30],
      idle.store.goodRow k ≠ none ∧
      ({ idle.store with rows := tabSet idle.store.rows k { tabGet idle.store.rows k (tornRow 0) with check := 0 } } : Store).goodRow
        k = none := by
  decide

theorem test_reset_release :
    (after (.resetNRelease .d) held).port.phase = .startUp ∧ (after (.resetNRelease .d) held).tuners.plan = .d := by decide
theorem test_supply_application :
    (after (.supplyApplication .b) { held with pins.resetN := true, pins.supply := false }).tuners.plan = .b := by decide
theorem test_part_reset_timeout :
    (after .partResetTimeout resetting).port.resetKind = .part ∧ after .partResetTimeout idle = idle := by decide

theorem witness_RecordQueries :
    busy.Accepts .routeGet 2 [1, 0] ∧ busy.routeOf ⟨1, 0⟩ = some media ∧ busy.Accepts .routeGet 2 [24, 0] ∧
    busy.routeOf ⟨24, 0⟩ = none ∧ busy.Accepts .routeGet 2 [25, 0] ∧ busy.Accepts .routeList 2 [] ∧
    busy.Accepts .routeList 2 [7] ∧ busy.Accepts .routeList 2 [8] ∧ idle.Accepts .zoneGet 2 [4] ∧ zoneOf 4 = some .hp2 ∧
    idle.Accepts .zoneGet 2 [5] ∧
    idle.Accepts .tunerGet 2 [1] ∧ ([1#8] : List Byte) = [BitVec.ofNat 8 (tunerCode (some .t1))] ∧
    ([2#8] : List Byte) = [BitVec.ofNat 8 (tunerCode (some .t2))] ∧ idle.Accepts .tunerGet 2 [3] ∧
    idle.Accepts .stationList 2 [0, 0, 0, 0] ∧ idle.Accepts .stationList 2 [] ∧ tabled.Accepts .stationGet 2 [0x22, 0x2E] ∧
    tabled.stations.find 8750 = some coded ∧ tabled.Accepts .stationGet 2 [0x22, 0x2F] ∧ tabled.stations.find 8751 = none ∧
    idle.Accepts .stationGet 2 [] ∧ idle.Accepts .phoneGet 2 [] ∧ idle.Accepts .phoneGet 2 [0] ∧
    (quiet.takesRequests = true ∧ limp.takesRequests = true) := by
  unfold State.Accepts; decide

theorem test_tuner_get :
    answer (.tunerGet 2 [1]) hearing =
      [0x33, 0, 30, 1, 1, 0x22, 0x2E, 0xAB, 0xCD, 1, 0, 1, 0, 0, 0, 30, 0, 30, 2, 0, 0, 0, 1, 0, 1, 4, 6, 20, 40, 0, 0, 0,
        0] := by decide
theorem test_station_list :
    answer (.stationList 2 [0, 0, 0xAB, 0xCD]) tabled = [0x40, 0, 6, 0, 1, 1, 0x22, 0x2E, 2] ∧
      answer (.stationList 2 [0x22, 0x2F, 0, 0]) tabled = [0x40, 0, 6, 0, 2, 1, 0x22, 0x38, 0] := by decide
theorem test_station_get :
    answer (.stationGet 2 [0x22, 0x2E]) tabled =
      [0x41, 0, 23, 0x22, 0x2E, 0xAB, 0xCD, 0, 0, 0, 0, 0, 0, 0, 0, 0, 0, 0, 0, 30, 2, 4, 2, 1, 0, 0] := by decide
theorem test_phone_get :
    answer (.phoneGet 2 []) linkUp = [0x62, 0, 18, 3, 2, 1, 0, 7, 7, 1, 2, 0, 0, 0, 0, 0, 0, 0, 0, 0, 0] := by decide

theorem witness_LegLineStoreAndPartQueries :
    calling.Accepts .legGet 2 [0, 9] ∧ calling.Accepts .legGet 2 [1, 0] ∧ calling.leg 1 0 = some activeLeg ∧
    calling.Accepts .legGet 2 [3, 0] ∧ calling.leg 3 0 = none ∧ calling.Accepts .legGet 2 [4, 0] ∧
    idle.Accepts .directLineGet 2 [3] ∧ ([3#8] : List Byte) = [BitVec.ofNat 8 (3 : Fin 4)] ∧
    idle.Accepts .directLineGet 2 [4] ∧ idle.Accepts .storeRead 1 [30] ∧ idle.store.writer = none ∧
    writing.Accepts .storeRead 1 [0] ∧ writing.store.writer ≠ none ∧ idle.Accepts .storeRead 1 [31] ∧
    idle.Accepts .partInfo 1 [] ∧ idle.Accepts .partInfo 1 [0] ∧
    (let s := { idle with port.rearLock := true }
    s.takesRequests = true ∧ s.port.rearLock = true) := by
  unfold State.Accepts; decide

theorem test_leg_get :
    answer (.legGet 2 [0, 9]) calling =
      [0x75, 0, 41, 2, 1, 0, 1, 2, 0, 2] ++ (List.replicate 32 (0 : Byte)) ++ [18, 1] := by decide
theorem test_direct_line_get :
    answer (.directLineGet 2 [0]) sounding = [0x81, 0, 13, 0, 1, 1, 0, 1, 0, 0, 0, 1, 0, 1, 2, 0] := by decide
theorem test_store_read :
    answer (.storeRead 1 [30]) idle = [0xA0, 0, 21, 30] ++ (List.replicate 15 (0 : Byte)) ++ [144, 1, 0, 0, 0] ∧
      answer (.storeRead 1 [0]) writing = [0xA0, 13, 0] := by decide
theorem test_part_info :
    answer (.partInfo 1 []) idle = [0xF0, 0, 14, 0x5A, 8, 1, 0, 0, 0, 0, 0, 0, 0, 0, 0, 0, 1] := by decide
end Sys2Proof.Tests
end

-- ==== support and settled obligations, part 1 ====
section
/-! SUPPORT. What each change of one route leaves of its record, and when a route comes to count as an outranker. -/

namespace Sys2Proof.Machine

/-! ## The fields a change of state leaves -/

/-- A change of a route's state, ramp, marks, playback, duck attenuation or condition: every other field stays. -/
structure Route.Keeps (r n : Route) : Prop where
  rest : n = { r with
    state := n.state, cause := n.cause, applied := n.applied, target := n.target, step := n.step
    running := n.running, fadeMark := n.fadeMark, play := n.play, duck := n.duck, condition := n.condition }

namespace Route.Keeps

variable {r n m : Route}

theorem refl (r : Route) : r.Keeps r := ⟨rfl⟩

theorem trans (h : r.Keeps n) (k : n.Keeps m) : r.Keeps m := by
  obtain ⟨h⟩ := h
  obtain ⟨k⟩ := k
  exact ⟨by rw [h] at k; exact k⟩

theorem slot (h : r.Keeps n) : n.slot = r.slot := by rw [h.rest]
theorem reuse (h : r.Keeps n) : n.reuse = r.reuse := by rw [h.rest]
theorem owner (h : r.Keeps n) : n.owner = r.owner := by rw [h.rest]
theorem zone (h : r.Keeps n) : n.zone = r.zone := by rw [h.rest]
theorem cls (h : r.Keeps n) : n.cls = r.cls := by rw [h.rest]
theorem source (h : r.Keeps n) : n.source = r.source := by rw [h.rest]
theorem line (h : r.Keeps n) : n.line = r.line := by rw [h.rest]
theorem level (h : r.Keeps n) : n.level = r.level := by rw [h.rest]
theorem ramp (h : r.Keeps n) : n.ramp = r.ramp := by rw [h.rest]
theorem maxDuration (h : r.Keeps n) : n.maxDuration = r.maxDuration := by rw [h.rest]
theorem rank (h : r.Keeps n) : n.rank = r.rank := by rw [h.rest]
theorem tuner (h : r.Keeps n) : n.tuner = r.tuner := by rw [h.rest]
theorem cut (h : r.Keeps n) : n.cut = r.cut := by rw [h.rest]
theorem same (h : r.Keeps n) : r.Same n := ⟨h.slot, h.reuse, h.owner, h.zone, h.cls, h.source, h.line⟩

end Route.Keeps

theorem Route.ringOff_keeps (r : Route) : r.Keeps r.ringOff := by
  unfold Route.ringOff; split <;> exact ⟨rfl⟩

theorem Route.rampEnded_keeps (r : Route) : r.Keeps r.rampEnded := by
  rcases r.rampEnded_cases with e | ⟨-, -, e⟩ | ⟨-, e⟩
  · rw [e]; exact .refl r
  · rw [e]; exact ⟨rfl⟩
  · rw [e]; exact r.ringOff_keeps.trans ⟨rfl⟩

/-- A re-aim is a change of target, step time, gain and running, and at most a ramp end after it (R51, R52). -/
theorem Route.aim_cases (t : Gain) (k : RampClass) (r : Route) :
    ∃ a b, r.aim t k = { r with target := some t, step := k, applied := a, running := b } ∨
      (t = a ∧ b = false ∧
        r.aim t k = { r with target := some t, step := k, applied := a, running := b }.rampEnded) := by
  unfold Route.aim
  dsimp only
  split
  · rename_i e
    exact ⟨.mute, false, .inr ⟨rfl, rfl, by rw [e]⟩⟩
  · rename_i v e
    split
    · rename_i h
      exact ⟨.q (-384), false, .inr ⟨by rw [h], rfl, rfl⟩⟩
    · exact ⟨.q (-384), true, .inl rfl⟩
  · rename_i a v e
    split
    · rename_i h
      exact ⟨.q a, false, .inr ⟨by rw [h], rfl, by rw [e]⟩⟩
    · exact ⟨.q a, true, .inl (by rw [e])⟩
  · rename_i a e
    exact ⟨.q a, true, .inl (by rw [e])⟩

theorem Route.aim_keeps (t : Gain) (k : RampClass) (r : Route) : r.Keeps (r.aim t k) := by
  obtain ⟨a, b, e | ⟨-, -, e⟩⟩ := r.aim_cases t k
  · rw [e]; exact ⟨rfl⟩
  · rw [e]; exact Route.Keeps.trans ⟨rfl⟩ (Route.rampEnded_keeps _)

theorem State.retarget_keeps (s : State) (k : RampClass) (r : Route) : r.Keeps (s.retarget k r) := by
  unfold State.retarget; split
  · exact r.aim_keeps _ _
  · exact .refl r

theorem State.withDuck_keeps (s : State) (d : Nat) (r : Route) : r.Keeps (s.withDuck d r) := by
  unfold State.withDuck; split
  · exact .refl r
  · exact Route.Keeps.trans ⟨rfl⟩ (s.retarget_keeps _ _)

theorem State.enterRising_keeps (s : State) (r : Route) : r.Keeps (s.enterRising r) := by
  unfold State.enterRising
  dsimp only
  refine Route.Keeps.trans ?_ (Route.aim_keeps _ _ _)
  split <;> exact ⟨rfl⟩

theorem State.enterPending_keeps (s : State) (r : Route) : r.Keeps (s.enterPending r) :=
  r.ringOff_keeps.trans ⟨rfl⟩

theorem Route.suspend_keeps (r : Route) : r.Keeps r.suspend := r.ringOff_keeps.trans ⟨rfl⟩

theorem Route.yieldUp_keeps (r : Route) : r.Keeps r.yieldUp := Route.Keeps.trans ⟨rfl⟩ (Route.aim_keeps _ _ _)

theorem Route.close_keeps (r : Route) : r.Keeps r.close := Route.Keeps.trans ⟨rfl⟩ (Route.aim_keeps _ _ _)

theorem Route.fade_keeps (r : Route) : r.Keeps r.fade := by
  unfold Route.fade; split
  · exact Route.Keeps.trans ⟨rfl⟩ (Route.aim_keeps _ _ _)
  · exact .refl r

theorem State.refresh_keeps (s : State) (r : Route) : r.Keeps (s.refresh r) := by
  unfold State.refresh
  split
  · split
    · exact s.enterRising_keeps r
    · exact .refl r
  · split
    · exact s.enterPending_keeps r
    · exact s.enterPending_keeps r
    · exact r.suspend_keeps
    · exact ⟨rfl⟩
    · exact .refl r

theorem State.judged_keeps (s : State) (rs : List Route) (r : Route) : r.Keeps (s.judged rs r) := by
  unfold State.judged
  split
  · exact .refl r
  · split
    · split
      · exact r.suspend_keeps
      · exact r.yieldUp_keeps
      · exact r.yieldUp_keeps
      · exact .refl r
    · split
      · exact s.enterRising_keeps r
      · split
        · exact s.enterRising_keeps r
        · exact s.enterPending_keeps r
      · exact .refl r

theorem State.notified_keeps (s : State) (c : Condition) (r : Route) : r.Keeps (s.notified c r) := by
  unfold State.notified
  dsimp only
  split
  · exact Route.Keeps.trans ⟨rfl⟩ (Route.aim_keeps _ _ _)
  · exact Route.Keeps.trans ⟨rfl⟩ (s.refresh_keeps _)

theorem Route.rampStep_keeps (r : Route) : r.Keeps r.rampStep := by
  unfold Route.rampStep
  split
  · dsimp only
    split
    · exact Route.Keeps.trans ⟨rfl⟩ (Route.rampEnded_keeps _)
    · exact ⟨rfl⟩
  · dsimp only
    split
    · exact Route.Keeps.trans ⟨rfl⟩ (Route.rampEnded_keeps _)
    · exact ⟨rfl⟩
  · exact .refl r

theorem State.firstEntry_keeps (s : State) (r : Route) : r.Keeps (s.firstEntry r) := by
  unfold State.firstEntry
  split
  · exact r.suspend_keeps
  · exact s.enterRising_keeps r
  · exact s.enterPending_keeps r

/-! ## States a change leads to -/

/-- A ramp end leaves a state, but RISING for PLAYING and YIELDING for SUSPENDED. -/
theorem Route.rampEnded_state (r : Route) :
    r.rampEnded.state = r.state ∨ (r.state = .rising ∧ r.fadeMark = false ∧ r.rampEnded.state = .playing) ∨
      (r.state = .yielding ∧ r.rampEnded.state = .suspended) := by
  rcases r.rampEnded_cases with e | ⟨a, b, e⟩ | ⟨a, e⟩
  · exact .inl (by rw [e])
  · exact .inr (.inl ⟨a, b, by rw [e]⟩)
  · exact .inr (.inr ⟨a, by rw [e]⟩)

/-- A re-aim leaves a state, but RISING for PLAYING and YIELDING for SUSPENDED. -/
theorem Route.aim_state (t : Gain) (k : RampClass) (r : Route) :
    (r.aim t k).state = r.state ∨ (r.state = .rising ∧ r.fadeMark = false ∧ (r.aim t k).state = .playing) ∨
      (r.state = .yielding ∧ (r.aim t k).state = .suspended) := by
  obtain ⟨a, b, e | ⟨-, -, e⟩⟩ := r.aim_cases t k
  · exact .inl (by rw [e])
  · rw [e]
    exact Route.rampEnded_state _

theorem Route.aim_counts (t : Gain) (k : RampClass) (r : Route) : (r.aim t k).state.counts = r.state.counts := by
  rcases r.aim_state t k with e | ⟨a, -, e⟩ | ⟨a, e⟩ <;> simp [e, RouteState.counts] <;> simp [a]

theorem Route.aim_sounding (t : Gain) (k : RampClass) (r : Route) :
    (r.aim t k).state.sounding = r.state.sounding := by
  rcases r.aim_state t k with e | ⟨a, -, e⟩ | ⟨a, e⟩ <;> simp [e, RouteState.sounding] <;> simp [a]

theorem State.enterRising_state (s : State) (r : Route) :
    (s.enterRising r).state = .rising ∨ (s.enterRising r).state = .playing := by
  unfold State.enterRising
  dsimp only
  split
  · rcases Route.aim_state (s.computedTarget _) r.ramp _ with e | ⟨-, -, e⟩ | ⟨a, -⟩
    · exact .inl e
    · exact .inr e
    · simp at a
  · rcases Route.aim_state (s.computedTarget _) r.ramp _ with e | ⟨-, -, e⟩ | ⟨a, -⟩
    · exact .inl e
    · exact .inr e
    · simp at a

@[simp] theorem State.enterPending_state (s : State) (r : Route) : (s.enterPending r).state = .pending := rfl

@[simp] theorem Route.suspend_state (r : Route) : r.suspend.state = .suspended := rfl

theorem Route.yieldUp_state (r : Route) : r.yieldUp.state = .yielding ∨ r.yieldUp.state = .suspended := by
  rcases Route.aim_state .mute r.ramp { r with state := .yielding, fadeMark := false } with e | ⟨a, -⟩ | ⟨-, e⟩
  · exact .inl e
  · simp at a
  · exact .inr e

@[simp] theorem Route.close_state (r : Route) : r.close.state = .closing := by
  rcases Route.aim_state .mute r.ramp { r with state := .closing, fadeMark := false } with e | ⟨a, -⟩ | ⟨a, -⟩
  · exact e
  · simp at a
  · simp at a

theorem State.retarget_counts (s : State) (k : RampClass) (r : Route) :
    (s.retarget k r).state.counts = r.state.counts := by
  unfold State.retarget; split
  · exact r.aim_counts _ _
  · rfl

theorem State.retarget_sounding (s : State) (k : RampClass) (r : Route) :
    (s.retarget k r).state.sounding = r.state.sounding := by
  unfold State.retarget; split
  · exact r.aim_sounding _ _
  · rfl

theorem State.withDuck_counts (s : State) (d : Nat) (r : Route) : (s.withDuck d r).state.counts = r.state.counts := by
  unfold State.withDuck; split
  · rfl
  · exact s.retarget_counts _ _

theorem State.withDuck_sounding (s : State) (d : Nat) (r : Route) :
    (s.withDuck d r).state.sounding = r.state.sounding := by
  unfold State.withDuck; split
  · rfl
  · exact s.retarget_sounding _ _

theorem Route.fade_counts (r : Route) : r.fade.state.counts = r.state.counts := by
  unfold Route.fade; split
  · exact Route.aim_counts _ _ _
  · rfl

theorem Route.rampEnded_counts (r : Route) : r.rampEnded.state.counts = r.state.counts := by
  rcases r.rampEnded_state with e | ⟨a, -, e⟩ | ⟨a, e⟩ <;> simp [e, RouteState.counts] <;> simp [a]

theorem Route.rampStep_counts (r : Route) : r.rampStep.state.counts = r.state.counts := by
  unfold Route.rampStep
  split
  · dsimp only; split
    · exact Route.rampEnded_counts _
    · rfl
  · dsimp only; split
    · exact Route.rampEnded_counts _
    · rfl
  · rfl

/-- A change of conditions makes no route count that did not (R9, R10). -/
theorem State.refresh_counts (s : State) (r : Route) (h : (s.refresh r).state.counts = true) :
    r.state.counts = true := by
  unfold State.refresh at h
  split at h
  · split at h
    · rename_i e; simp [e, RouteState.counts]
    · exact h
  · split at h
    · rename_i e; simp [e, RouteState.counts]
    · rename_i e; simp [e, RouteState.counts]
    · simp [RouteState.counts] at h
    · exact h
    · exact h

theorem State.notified_counts (s : State) (c : Condition) (r : Route) (h : (s.notified c r).state.counts = true) :
    r.state.counts = true := by
  unfold State.notified at h
  dsimp only at h
  split at h
  · rwa [Route.aim_counts] at h
  · exact s.refresh_counts { r with condition := c } h

/-- An outranked route does not count once it is judged (R11). -/
theorem State.judged_outranked (s : State) (rs : List Route) (r : Route) (h : s.outranked rs r = true) :
    (s.judged rs r).state.counts = false := by
  unfold State.judged
  split
  · rename_i e; simp [e, RouteState.counts]
  · split
    · rfl
    · rcases r.yieldUp_state with e | e <;> simp [e, RouteState.counts]
    · rcases r.yieldUp_state with e | e <;> simp [e, RouteState.counts]
    · rename_i a b c
      cases e : r.state <;> simp_all [RouteState.counts]

end Sys2Proof.Machine
end

-- ==== support and settled obligations, part 2 ====
section
/-! SUPPORT. The laws of the Route Table (gains, fields, order, ranks, winners, silence in LIMP) through a piece of work:
one relation between the states before and after, and one lemma for each primitive change of the routes. -/

namespace Sys2Proof.Machine

/-! ## Ranks (R4) -/

/-- The ranks of every domain of a list of routes are 1 to their number, each once (R4). -/
def RanksRun (rs : List Route) : Prop :=
  ∀ d : Domain,
    (rs.filter (fun r => r.zone.domain = d)).Pairwise (fun a b => a.rank ≠ b.rank) ∧
      ∀ r ∈ rs.filter (fun r => r.zone.domain = d), 1 ≤ r.rank ∧
        r.rank ≤ (rs.filter (fun r => r.zone.domain = d)).length

theorem State.ranked_iff (s : State) : s.Ranked ↔ RanksRun s.routes := Iff.rfl

/-- The order of a list does not matter to its ranks. -/
theorem RanksRun.perm {rs ns : List Route} (p : rs.Perm ns) (h : RanksRun rs) : RanksRun ns := by
  intro d
  obtain ⟨a, b⟩ := h d
  have q := p.filter (fun r => decide (r.zone.domain = d))
  exact ⟨(q.pairwise_iff (fun h => Ne.symm h)).1 a, fun r m => by rw [← q.length_eq]; exact b r (q.mem_iff.2 m)⟩

/-- Changes that keep zones and ranks keep the ranks running. -/
theorem RanksRun.map_eq {rs ns : List Route}
    (e : ns.map (fun r => (r.zone.domain, r.rank)) = rs.map (fun r => (r.zone.domain, r.rank))) (h : RanksRun rs) :
    RanksRun ns := by
  have keyed : ∀ (l : List Route) (d : Domain), (l.filter (fun r => r.zone.domain = d)).map (fun r => r.rank) =
      ((l.map (fun r => (r.zone.domain, r.rank))).filter (fun k => k.1 = d)).map (·.2) := by
    intro l d
    simp [List.filter_map, Function.comp_def]
  intro d
  obtain ⟨a, b⟩ := h d
  have k : (ns.filter (fun r => r.zone.domain = d)).map (fun r => r.rank) =
      (rs.filter (fun r => r.zone.domain = d)).map (fun r => r.rank) := by rw [keyed, keyed, e]
  have len : (ns.filter (fun r => r.zone.domain = d)).length = (rs.filter (fun r => r.zone.domain = d)).length := by
    simpa using congrArg List.length k
  constructor
  · rw [← List.pairwise_map (f := fun r : Route => r.rank) (R := (· ≠ ·)), k, List.pairwise_map]
    exact a
  · intro r m
    have : r.rank ∈ (rs.filter (fun r => r.zone.domain = d)).map (fun r => r.rank) := by
      rw [← k]; exact List.mem_map_of_mem m
    obtain ⟨x, mx, ex⟩ := List.mem_map.1 this
    rw [len, ← ex]
    exact b x mx

/-- The number of routes of a domain. -/
def domainCount (d : Domain) (rs : List Route) : Nat := (rs.filter (fun r => r.zone.domain = d)).length

/-- A route ranked after all others of its domain joins them (R4). -/
theorem RanksRun.cons {rs : List Route} {r : Route} (h : RanksRun rs)
    (k : r.rank = domainCount r.zone.domain rs + 1) : RanksRun (r :: rs) := by
  intro d
  obtain ⟨a, b⟩ := h d
  by_cases e : r.zone.domain = d
  · subst e
    have f : (r :: rs).filter (fun x => decide (x.zone.domain = r.zone.domain)) =
        r :: rs.filter (fun x => decide (x.zone.domain = r.zone.domain)) := by simp
    rw [f, List.pairwise_cons]
    unfold domainCount at k
    refine ⟨⟨fun x m => ?_, a⟩, fun x m => ?_⟩
    · have := b x m; omega
    · rcases List.mem_cons.1 m with e | m
      · subst e; simp only [List.length_cons]; omega
      · have := b x m; simp only [List.length_cons]; omega
  · have f : (r :: rs).filter (fun x => decide (x.zone.domain = d)) = rs.filter (fun x => decide (x.zone.domain = d)) := by
      simp [e]
    rw [f]
    exact ⟨a, b⟩

/-- The rank of a route once a route of a domain with a given rank has gone (R4). -/
def fallRank (d : Domain) (k : Nat) (x : Route) : Route :=
  if x.zone.domain = d && k < x.rank then { x with rank := x.rank - 1 } else x

theorem fallRank_rest (d : Domain) (k : Nat) (x : Route) : fallRank d k x = { x with rank := (fallRank d k x).rank } := by
  unfold fallRank; split <;> rfl

@[simp] theorem fallRank_zone (d : Domain) (k : Nat) (x : Route) : (fallRank d k x).zone = x.zone := by
  rw [fallRank_rest]

@[simp] theorem fallRank_slot (d : Domain) (k : Nat) (x : Route) : (fallRank d k x).slot = x.slot := by
  rw [fallRank_rest]

@[simp] theorem fallRank_state (d : Domain) (k : Nat) (x : Route) : (fallRank d k x).state = x.state := by
  rw [fallRank_rest]

@[simp] theorem fallRank_cls (d : Domain) (k : Nat) (x : Route) : (fallRank d k x).cls = x.cls := by
  rw [fallRank_rest]

theorem fallRank_rank_same (k : Nat) (x : Route) :
    (fallRank x.zone.domain k x).rank = if k < x.rank then x.rank - 1 else x.rank := by
  unfold fallRank; split <;> simp_all

theorem fallRank_other {d : Domain} {x : Route} (k : Nat) (h : x.zone.domain ≠ d) : fallRank d k x = x := by
  unfold fallRank; simp [h]

/-- A route leaves its domain and newer ranks fall (R14). -/
theorem RanksRun.uncons {rs : List Route} {r : Route} (h : RanksRun (r :: rs)) :
    RanksRun (rs.map (fallRank r.zone.domain r.rank)) := by
  intro d
  obtain ⟨a, b⟩ := h d
  have f : (rs.map (fallRank r.zone.domain r.rank)).filter (fun x => decide (x.zone.domain = d)) =
      (rs.filter (fun x => decide (x.zone.domain = d))).map (fallRank r.zone.domain r.rank) := by
    simp [List.filter_map, Function.comp_def]
  rw [f]
  by_cases e : r.zone.domain = d
  · subst e
    have g : (r :: rs).filter (fun x => decide (x.zone.domain = r.zone.domain)) =
        r :: rs.filter (fun x => decide (x.zone.domain = r.zone.domain)) := by simp
    rw [g] at a b
    obtain ⟨apart, a⟩ := List.pairwise_cons.1 a
    have br := b r (by simp)
    simp only [List.length_cons] at b br
    have rankOf : ∀ x ∈ rs.filter (fun x => decide (x.zone.domain = r.zone.domain)),
        (fallRank r.zone.domain r.rank x).rank = if r.rank < x.rank then x.rank - 1 else x.rank := by
      intro x m
      have : x.zone.domain = r.zone.domain := by simpa using (List.mem_filter.1 m).2
      rw [← this, fallRank_rank_same]
    constructor
    · rw [List.pairwise_map]
      refine (List.Pairwise.and_mem.1 a).imp ?_
      rintro x y ⟨mx, my, ne⟩
      have nx := apart x mx
      have ny := apart y my
      rw [rankOf x mx, rankOf y my]
      split <;> split <;> omega
    · intro x m
      obtain ⟨y, my, ey⟩ := List.mem_map.1 m
      have ny := apart y my
      have by' := b y (by simp [my])
      rw [← ey, rankOf y my, List.length_map]
      split <;> omega
  · have same : (rs.filter (fun x => decide (x.zone.domain = d))).map (fallRank r.zone.domain r.rank) =
        rs.filter (fun x => decide (x.zone.domain = d)) := by
      refine (List.map_congr_left (fun x m => ?_)).trans (List.map_id _)
      have : x.zone.domain = d := by simpa using (List.mem_filter.1 m).2
      exact fallRank_other _ (by rw [this]; exact Ne.symm e)
    rw [same]
    simpa [e] using And.intro a b

theorem insertRoute_perm (r : Route) (rs : List Route) : (insertRoute r rs).Perm (r :: rs) := by
  induction rs with
  | nil => exact .refl _
  | cons x rs ih =>
    unfold insertRoute
    split
    · exact .refl _
    · exact (ih.cons x).trans (.swap _ _ _)

/-- A table is one of its routes and the routes of the other slots. -/
theorem Rising.perm_filter {rs : List Route} (h : Rising rs) {r : Route} (m : r ∈ rs) :
    rs.Perm (r :: rs.filter (fun x => x.slot ≠ r.slot)) := by
  induction rs with
  | nil => simp at m
  | cons x rs ih =>
    obtain ⟨p, q⟩ := h
    obtain ⟨before, p⟩ := List.pairwise_cons.1 p
    rcases List.mem_cons.1 m with e | m
    · subst e
      have : rs.filter (fun x => decide (x.slot ≠ r.slot)) = rs := by
        refine List.filter_eq_self.2 (fun y my => ?_)
        have := before y my
        simp; omega
      simp only [ne_eq, not_true_eq_false, decide_false, Bool.false_eq_true, not_false_eq_true, List.filter_cons_of_neg]
      rw [this]
    · have lt := before r m
      have : x.slot ≠ r.slot := by omega
      rw [List.filter_cons_of_pos (by simp [this])]
      exact ((ih ⟨p, fun y my => q y (by simp [my])⟩ m).cons x).trans (.swap _ _ _)

/-! ## Winners (R25 to R27) -/

/-- The exclusive classes (R27). -/
def RouteClass.exclusive (c : RouteClass) : Prop := c = .call ∨ c = .announcement ∨ c = .media

/-- Two routes of one domain and class, of those told, do not both count. -/
def NotBoth (told : Domain → RouteClass → Prop) (a b : Route) : Prop :=
  a.zone.domain = b.zone.domain → a.cls = b.cls → told a.zone.domain a.cls → ¬(a.state.counts = true ∧ b.state.counts = true)

theorem State.oneWinner_iff (s : State) : s.OneWinner ↔ s.routes.Pairwise (NotBoth (fun _ c => c.exclusive)) := Iff.rfl

theorem NotBoth.symm {told : Domain → RouteClass → Prop} {a b : Route} (h : NotBoth told a b) : NotBoth told b a := by
  intro x y z w
  exact h x.symm y.symm (by rw [x, y] at z; exact z) ⟨w.2, w.1⟩

/-- Pairs of routes that stand in a relation, through a change of routes one by one. -/
theorem pairwise_of_forall₂ {R : Route → Route → Prop} {P Q : Route → Route → Prop} {rs ns : List Route}
    (f : List.Forall₂ R rs ns) (k : ∀ r n x y, R r n → R x y → P r x → Q n y) (h : rs.Pairwise P) : ns.Pairwise Q := by
  induction f with
  | nil => exact .nil
  | @cons r n rs ns e f ih =>
    obtain ⟨a, b⟩ := List.pairwise_cons.1 h
    refine List.pairwise_cons.2 ⟨fun y m => ?_, ih b⟩
    obtain ⟨i, hi, rfl⟩ := List.getElem_of_mem m
    have li : i < rs.length := by rw [f.length_eq]; exact hi
    exact k _ _ _ _ e (List.forall₂_iff_get.1 f |>.2 i li hi) (a _ (List.getElem_mem li))

/-- The newest of its candidates is one route (R4, R27). -/
theorem State.winner_unique (s : State) (rs : List Route) {a b : Route} (ma : a ∈ rs) (mb : b ∈ rs)
    (d : a.zone.domain = b.zone.domain) (c : a.cls = b.cls) (na : a.state ≠ .closing) (nb : b.state ≠ .closing)
    (wa : s.winner rs a = true) (wb : s.winner rs b = true) : a.rank = b.rank := by
  have ca : a ∈ candidates a.zone.domain a.cls rs := by simp [candidates, ma, na]
  have cb : b ∈ candidates a.zone.domain a.cls rs := by simp [candidates, mb, nb, d, c]
  unfold State.winner at wa wb
  rw [← d, ← c] at wb
  dsimp only at wa wb
  split at wa
  · rename_i h
    simp only [h, if_true] at wb
    simp only [Bool.and_eq_true, newestOf, List.all_eq_true, List.mem_filter, decide_eq_true_eq, and_imp] at wa wb
    exact Nat.le_antisymm (wb.2 a ca wa.1) (wa.2 b cb wb.1)
  · rename_i h
    simp only [h, Bool.false_eq_true, if_false] at wb
    simp only [newestOf, List.all_eq_true, decide_eq_true_eq] at wa wb
    exact Nat.le_antisymm (wb a ca) (wa b cb)

theorem State.winner_of_not_outranked (s : State) (rs : List Route) (r : Route) (c : r.cls.exclusive)
    (h : s.outranked rs r = false) : s.winner rs r = true := by
  unfold State.outranked at h
  rcases c with e | e | e <;> simp_all

/-- A class judged leaves at most one of its routes counting; the other classes stay as they were. -/
theorem State.judgeClass_notBoth (s : State) (d : Domain) (c : RouteClass) (rs : List Route)
    {told : Domain → RouteClass → Prop} (ranks : RanksRun rs) (h : rs.Pairwise (NotBoth told))
    (only : ∀ e k, told e k → k.exclusive) :
    (s.judgeClass d c rs).Pairwise (NotBoth (fun e k => told e k ∨ (e = d ∧ k = c ∧ c.exclusive))) := by
  unfold State.judgeClass
  rw [List.pairwise_map]
  have apart : rs.Pairwise (fun a b => a.zone.domain = d → b.zone.domain = d → a.rank ≠ b.rank) := by
    have := (ranks d).1
    rw [List.pairwise_filter] at this
    exact this.imp (fun q x y => q (by simpa using x) (by simpa using y))
  refine (List.Pairwise.and_mem.1 (h.and apart)).imp ?_
  rintro a b ⟨ma, mb, old, ne⟩ x y z ⟨ka, kb⟩
  have zoneA : (if a.zone.domain = d && a.cls = c then s.judged rs a else a).zone = a.zone := by
    split
    · exact (s.judged_keeps rs a).zone
    · rfl
  have clsA : (if a.zone.domain = d && a.cls = c then s.judged rs a else a).cls = a.cls := by
    split
    · exact (s.judged_keeps rs a).cls
    · rfl
  have zoneB : (if b.zone.domain = d && b.cls = c then s.judged rs b else b).zone = b.zone := by
    split
    · exact (s.judged_keeps rs b).zone
    · rfl
  have clsB : (if b.zone.domain = d && b.cls = c then s.judged rs b else b).cls = b.cls := by
    split
    · exact (s.judged_keeps rs b).cls
    · rfl
  rw [zoneA, zoneB] at x
  rw [clsA, clsB] at y
  rw [zoneA, clsA] at z
  by_cases here : a.zone.domain = d ∧ a.cls = c
  · obtain ⟨da, ca⟩ := here
    have db : b.zone.domain = d := by rw [← x, da]
    have cb : b.cls = c := by rw [← y, ca]
    simp only [da, ca, db, cb, decide_true, Bool.and_self, if_true] at ka kb
    by_cases ex : c.exclusive
    · have clear : ∀ r, (s.judged rs r).state.counts = true → s.outranked rs r = false ∧ r.state ≠ .closing := by
        intro r k
        constructor
        · by_contra o
          rw [Bool.not_eq_false] at o
          rw [s.judged_outranked rs r o] at k
          exact absurd k (by simp)
        · intro e
          simp [State.judged, e, RouteState.counts] at k
      obtain ⟨oa, na⟩ := clear a ka
      obtain ⟨ob, nb⟩ := clear b kb
      exact ne da db (s.winner_unique rs ma mb x y na nb (s.winner_of_not_outranked rs a (by rw [ca]; exact ex) oa)
        (s.winner_of_not_outranked rs b (by rw [cb]; exact ex) ob))
    · exact ex (ca ▸ only _ _ (z.resolve_right (fun q => ex q.2.2)))
  · have hb : ¬(b.zone.domain = d ∧ b.cls = c) := by rw [← x, ← y]; exact here
    have ia : (a.zone.domain = d && a.cls = c) = false := by simpa using here
    have ib : (b.zone.domain = d && b.cls = c) = false := by simpa using hb
    simp only [ia, ib] at ka kb
    refine old x y (z.resolve_right (fun q => here ⟨q.1, q.2.1⟩)) ⟨ka, kb⟩

/-- Changes of routes one by one that keep zones and classes, and make none count that did not, keep the winners. -/
theorem notBoth_of_forall₂ {told : Domain → RouteClass → Prop} {rs ns : List Route}
    (f : List.Forall₂ (fun r n => r.Same n ∧ (n.state.counts = true → r.state.counts = true)) rs ns)
    (h : rs.Pairwise (NotBoth told)) : ns.Pairwise (NotBoth told) := by
  refine pairwise_of_forall₂ f ?_ h
  rintro r n x y ⟨⟨-, -, -, zn, cn, -, -⟩, kn⟩ ⟨⟨-, -, -, zy, cy, -, -⟩, ky⟩ old d c w ⟨a, b⟩
  rw [zn, zy] at d
  rw [cn, cy] at c
  rw [zn, cn] at w
  exact old d c w ⟨kn a, ky b⟩

theorem forall₂_map_of {R : Route → Route → Prop} (f : Route → Route) (rs : List Route) (h : ∀ r ∈ rs, R r (f r)) :
    List.Forall₂ R rs (rs.map f) := by
  rw [List.forall₂_map_right_iff, List.forall₂_same]
  exact h

theorem forall₂_map_eq {α : Type} {R : Route → Route → Prop} {rs ns : List Route} (f : List.Forall₂ R rs ns) (g : Route → α)
    (k : ∀ r n, R r n → g n = g r) : ns.map g = rs.map g := by
  induction f with
  | nil => rfl
  | cons e _ ih => simp [k _ _ e, ih]

theorem State.judgeClass_ranks (s : State) (d : Domain) (c : RouteClass) (rs : List Route) (h : RanksRun rs) :
    RanksRun (s.judgeClass d c rs) := by
  refine h.map_eq ?_
  unfold State.judgeClass
  rw [List.map_map]
  refine List.map_congr_left (fun r _ => ?_)
  dsimp only [Function.comp]
  split
  · rw [(s.judged_keeps rs r).zone, (s.judged_keeps rs r).rank]
  · rfl

/-- Precedence re-run for a domain leaves one winner of each exclusive class there, whatever stood before (R25, R27). -/
theorem State.rerunRoutes_notBoth (s : State) (d : Domain) (rs : List Route) (ranks : RanksRun rs)
    (h : rs.Pairwise (NotBoth (fun e k => k.exclusive ∧ e ≠ d))) :
    (s.rerunRoutes d rs).Pairwise (NotBoth (fun _ k => k.exclusive)) := by
  unfold State.rerunRoutes
  have h1 := s.judgeClass_notBoth d .alert rs ranks h (fun _ _ t => t.1)
  have k1 := s.judgeClass_ranks d .alert rs ranks
  have h2 := s.judgeClass_notBoth d .call _ k1 h1 (by rintro e k (t | t); exacts [t.1, t.2.1 ▸ t.2.2])
  have k2 := s.judgeClass_ranks d .call _ k1
  have h3 := s.judgeClass_notBoth d .prompt _ k2 h2 (by
    rintro e k ((t | t) | t); exacts [t.1, t.2.1 ▸ t.2.2, t.2.1 ▸ t.2.2])
  have k3 := s.judgeClass_ranks d .prompt _ k2
  have h4 := s.judgeClass_notBoth d .announcement _ k3 h3 (by
    rintro e k (((t | t) | t) | t); exacts [t.1, t.2.1 ▸ t.2.2, t.2.1 ▸ t.2.2, t.2.1 ▸ t.2.2])
  have k4 := s.judgeClass_ranks d .announcement _ k3
  have h5 := s.judgeClass_notBoth d .media _ k4 h4 (by
    rintro e k ((((t | t) | t) | t) | t); exacts [t.1, t.2.1 ▸ t.2.2, t.2.1 ▸ t.2.2, t.2.1 ▸ t.2.2, t.2.1 ▸ t.2.2])
  refine notBoth_of_forall₂ (forall₂_map_of _ _ (fun r _ => ?_)) (h5.imp ?_)
  · split
    · exact ⟨(s.withDuck_keeps _ r).same, fun x => by rwa [s.withDuck_counts] at x⟩
    · exact ⟨.refl r, id⟩
  · intro a b old x y z
    refine old x y ?_
    by_cases e : a.zone.domain = d
    · rcases z with c | c | c <;> simp [c, e, RouteClass.exclusive]
    · exact .inl (.inl (.inl (.inl (.inl ⟨z, e⟩))))

theorem State.rerunRoutes_ranks (s : State) (d : Domain) (rs : List Route) (h : RanksRun rs) :
    RanksRun (s.rerunRoutes d rs) := by
  unfold State.rerunRoutes
  refine RanksRun.map_eq ?_ (s.judgeClass_ranks d .media _ (s.judgeClass_ranks d .announcement _
    (s.judgeClass_ranks d .prompt _ (s.judgeClass_ranks d .call _ (s.judgeClass_ranks d .alert _ h)))))
  unfold State.duckPass
  rw [List.map_map]
  refine List.map_congr_left (fun r _ => ?_)
  dsimp only [Function.comp]
  split
  · rw [(s.withDuck_keeps _ r).zone, (s.withDuck_keeps _ r).rank]
  · rfl

end Sys2Proof.Machine
end

-- ==== support and settled obligations, part 3 ====
section
/-! SUPPORT. What a piece of work upholds of the Route Table's laws, and that the shared operations uphold them. -/

namespace Sys2Proof.Machine

/-! ## One route -/

/-- What the part can make of a route in place: as `Evolves`, but for its fields' agreement, which is asked of an ordered
table alone, and with the rank and the count of outrankers. -/
structure Alters (ordered : Prop) (st : SupState) (floor : Int) (r n : Route) : Prop where
  same : r.Same n
  rank : n.rank = r.rank
  counts : n.state.counts = true → r.state.counts = true
  consistent : ordered → r.Consistent → n.Consistent
  limp : st = .limp → r.cls.limpSilenced → r.state.Quiet → n.state.Quiet
  gains : floor ≤ 0 → r.GainsInRange → n.GainsInRange

section
variable {ordered : Prop} {st : SupState} {floor : Int} {r n : Route}

theorem Evolves.alters (h : Evolves st floor r n) (k : r.Keeps n) (c : n.state.counts = true → r.state.counts = true) :
    Alters ordered st floor r n := ⟨h.same, k.rank, c, fun _ => h.consistent, h.limp, h.gains⟩

theorem Alters.refl (r : Route) : Alters ordered st floor r r := (Evolves.refl r).alters (.refl r) id

end

theorem State.refresh_alters {u : Prop} (s : State) (r : Route) :
    Alters u s.sup.state s.mixer.alertFloor r (s.refresh r) :=
  (s.refresh_evolves r).alters (s.refresh_keeps r) (s.refresh_counts r)

theorem State.notified_alters {u : Prop} (s : State) (c : Condition) (r : Route) :
    Alters u s.sup.state s.mixer.alertFloor r (s.notified c r) :=
  (s.notified_evolves c r).alters (s.notified_keeps c r) (s.notified_counts c r)

theorem State.retarget_alters {u : Prop} (s : State) (k : RampClass) (r : Route) :
    Alters u s.sup.state s.mixer.alertFloor r (s.retarget k r) :=
  (s.retarget_evolves k r).alters (s.retarget_keeps k r) (by rw [s.retarget_counts]; exact id)

theorem State.withDuck_alters {u : Prop} (s : State) (d : Nat) (r : Route) :
    Alters u s.sup.state s.mixer.alertFloor r (s.withDuck d r) :=
  (s.withDuck_evolves d r).alters (s.withDuck_keeps d r) (by rw [s.withDuck_counts]; exact id)

theorem Route.fade_alters {u : Prop} {st : SupState} {floor : Int} (r : Route) : Alters u st floor r r.fade :=
  r.fade_evolves.alters r.fade_keeps (by rw [r.fade_counts]; exact id)

theorem Route.rampStep_alters {u : Prop} {st : SupState} {floor : Int} (r : Route) : Alters u st floor r r.rampStep :=
  r.rampStep_evolves.alters r.rampStep_keeps (by rw [r.rampStep_counts]; exact id)

/-- A field no law reads, changed. -/
theorem Alters.field {u : Prop} {st : SupState} {floor : Int} {r n : Route}
    (h : n = { r with tuner := n.tuner, cut := n.cut, condition := n.condition, play := n.play, age := n.age }) :
    Alters u st floor r n := by
  rw [h]
  exact ⟨.refl r, rfl, id, fun _ c => ⟨c.cause, c.silent, c.leaving, c.marked, c.alert⟩, fun _ _ q => q, fun _ g => g⟩

theorem Alters.trans {u : Prop} {st : SupState} {floor : Int} {a b c : Route} (h : Alters u st floor a b)
    (k : Alters u st floor b c) : Alters u st floor a c where
  same := h.same.trans k.same
  rank := k.rank.trans h.rank
  counts := fun x => h.counts (k.counts x)
  consistent := fun o x => k.consistent o (h.consistent o x)
  limp := fun x y z => k.limp x (by rw [h.same.2.2.2.2.1]; exact y) (h.limp x y z)
  gains := fun x y => k.gains x (h.gains x y)

/-- Entry into CLOSING (R21); the fields go on agreeing where the route is not PENDING. -/
theorem Route.close_alters {u : Prop} {st : SupState} {floor : Int} (r : Route) (h : u → r.state ≠ .pending) :
    Alters u st floor r r.close where
  same := r.close_keeps.same
  rank := r.close_keeps.rank
  counts := by simp [RouteState.counts]
  consistent := fun o => (r.close_evolves (st := st) (floor := floor) (h o)).consistent
  limp := fun _ _ _ => .inr (.inr r.close_state)
  gains := fun f g => by
    obtain ⟨lev, app, tgt⟩ := g
    unfold Route.close
    obtain ⟨a, b, e | ⟨t, -, e⟩⟩ := Route.aim_cases .mute r.ramp { r with state := .closing, fadeMark := false }
    · have : a = r.applied ∨ a.InRange := by
        have := congrArg Route.applied e
        revert this
        unfold Route.aim
        dsimp only
        split <;> simp_all [Route.rampEnded]
      rw [e]
      exact ⟨lev, this.elim (fun x => x ▸ app) id, fun t q => by cases q; trivial⟩
    · rw [e]
      subst t
      exact ⟨lev, trivial, fun t q => by cases q; trivial⟩

/-! ## The laws through a piece of work -/

/-- The settings the laws read stand: the supervision state, the alert floor, the thermal unit, the lines' levels; the
Zone Mixer's records stay in range. -/
structure Settings (s t : State) : Prop where
  sup : t.sup.state = s.sup.state
  floor : t.mixer.alertFloor = s.mixer.alertFloor
  mixer : s.mixer.InRange → t.mixer.InRange
  thermal : t.thermal = s.thermal
  levels : ∀ i, (t.lines.get i).level = (s.lines.get i).level

theorem Settings.same {s t : State} (a : t.sup.state = s.sup.state) (b : t.mixer = s.mixer) (c : t.thermal = s.thermal)
    (d : t.lines = s.lines) : Settings s t :=
  ⟨a, by rw [b], fun h => by rw [b]; exact h, c, fun _ => by rw [d]⟩

theorem Settings.trans {s t u : State} (h : Settings s t) (k : Settings t u) : Settings s u :=
  ⟨k.sup.trans h.sup, k.floor.trans h.floor, fun x => k.mixer (h.mixer x), k.thermal.trans h.thermal,
    fun i => (k.levels i).trans (h.levels i)⟩

theorem Settings.ofTuner {s t : State} (h : TunerFrame s t) : Settings s t :=
  .same (by rw [h.sup]) h.mixer h.thermal h.lines

theorem Settings.ofTable {p : Route → Prop} {l : Prop} {s t : State} (h : TableFrame p l s t) : Settings s t :=
  .same (by rw [h.sup]) h.mixer h.thermal h.lines

/-- What a piece of work upholds: the settings stand, and each law of the Route Table that held goes on to hold; the gains
where the routes it opens have a level in range if `l`. -/
structure Upholds (l : Prop) (s t : State) : Prop where
  settings : Settings s t
  rising : Rising s.routes → Rising t.routes
  consistent : Rising s.routes → (∀ r ∈ s.routes, r.Consistent) → ∀ n ∈ t.routes, n.Consistent
  gains : s.mixer.alertFloor ≤ 0 → l → (∀ r ∈ s.routes, r.GainsInRange) → ∀ n ∈ t.routes, n.GainsInRange
  limp : s.LimpSilent → t.LimpSilent
  ranks : Rising s.routes → RanksRun s.routes → RanksRun t.routes
  winner : Rising s.routes → RanksRun s.routes → s.OneWinner → t.OneWinner

namespace Upholds

variable {l : Prop} {s t u : State}

theorem trans (h : Upholds l s t) (k : Upholds l t u) : Upholds l s u where
  settings := h.settings.trans k.settings
  rising := fun a => k.rising (h.rising a)
  consistent := fun a b => k.consistent (h.rising a) (h.consistent a b)
  gains := fun a b c => k.gains (by rw [h.settings.floor]; exact a) b (h.gains a b c)
  limp := fun a => k.limp (h.limp a)
  ranks := fun a b => k.ranks (h.rising a) (h.ranks a b)
  winner := fun a b c => k.winner (h.rising a) (h.ranks a b) (h.winner a b c)

theorem foldl {α : Type} (f : State → α → State) (h : ∀ t a, Upholds l t (f t a)) (xs : List α) (s : State)
    (r : Upholds l s s) : Upholds l s (xs.foldl f s) := by
  induction xs generalizing s with
  | nil => exact r
  | cons a xs ih =>
    have one := h s a
    by_cases e : xs = []
    · subst e; exact one
    · exact one.trans (ih _ ⟨.same rfl rfl rfl rfl, id, fun _ x => x, fun _ _ x => x, id, fun _ x => x, fun _ _ x => x⟩)

/-- Routes changed one by one. -/
theorem each (a : Settings s t)
    (h : List.Forall₂ (Alters (Rising s.routes) s.sup.state s.mixer.alertFloor) s.routes t.routes) : Upholds l s t where
  settings := a
  rising := rising_of_map (forall₂_map_eq h _ (fun _ _ e => e.same.1))
  consistent := fun o c n m => by
    obtain ⟨i, hi, rfl⟩ := List.getElem_of_mem m
    have li : i < s.routes.length := by rw [h.length_eq]; exact hi
    exact ((List.forall₂_iff_get.1 h).2 i li hi).consistent o (c _ (List.getElem_mem li))
  gains := fun f _ c n m => by
    obtain ⟨i, hi, rfl⟩ := List.getElem_of_mem m
    have li : i < s.routes.length := by rw [h.length_eq]; exact hi
    exact ((List.forall₂_iff_get.1 h).2 i li hi).gains f (c _ (List.getElem_mem li))
  limp := fun q e n m c => by
    obtain ⟨i, hi, rfl⟩ := List.getElem_of_mem m
    have li : i < s.routes.length := by rw [h.length_eq]; exact hi
    have al := (List.forall₂_iff_get.1 h).2 i li hi
    have ce : RouteClass.limpSilenced (s.routes.get ⟨i, li⟩).cls := by
      have := al.same.2.2.2.2.1
      rw [← this]; exact c
    exact al.limp (a.sup ▸ e) ce (q (a.sup ▸ e) _ (List.getElem_mem li) ce)
  ranks := fun _ k => k.map_eq (forall₂_map_eq h _ (fun _ _ e => by rw [e.same.2.2.2.1, e.rank]))
  winner := fun _ _ k => notBoth_of_forall₂ (h.imp (fun _ _ e => ⟨e.same, e.counts⟩)) ((State.oneWinner_iff s).1 k)

/-- Work that leaves the routes, the supervision state and the alert floor. -/
theorem rest (a : Settings s t) (h : t.routes = s.routes) : Upholds l s t := by
  refine each a ?_
  rw [h, List.forall₂_same]
  exact fun r _ => .refl r

theorem refl (s : State) : Upholds l s s := rest (.same rfl rfl rfl rfl) rfl

/-- Work of the tuners that leaves the routes. -/
theorem ofTuner (h : TunerFrame s t) (k : t.routes = s.routes) : Upholds l s t :=
  rest (.ofTuner h) k

theorem folded {α : Type} (f : State → α → State) (h : ∀ t a, Upholds l t (f t a)) (xs : List α) (s : State) :
    Upholds l s (xs.foldl f s) := foldl f h xs s (refl s)

end Upholds

section
variable {l : Prop}

@[simp] theorem State.putRoutes_routes (s : State) (rs : List Route) : (s.putRoutes rs).routes = rs := by
  unfold State.putRoutes; dsimp only; split
  · simp [State.referenceChange]
  · rfl

@[simp] theorem State.commitRoutes_routes (s : State) (rs : List Route) : (s.commitRoutes rs).routes = rs := by
  simp [State.commitRoutes]

/-- Routes put back change nothing but cancellers and events besides (R33, R147). -/
theorem State.putRoutes_rest (s : State) (rs : List Route) : s.putRoutes rs = { s with
    routes := rs
    calls := { s.calls with mics := (s.putRoutes rs).calls.mics }
    events := { s.events with flags := (s.putRoutes rs).events.flags } } := by
  unfold State.putRoutes; dsimp only; split
  · unfold State.referenceChange State.raiseIf; split <;> rfl
  · rfl

theorem State.commitRoutes_rest (s : State) (rs : List Route) : s.commitRoutes rs = { s with
    routes := rs
    calls := { s.calls with mics := (s.commitRoutes rs).calls.mics }
    events := { s.events with flags := (s.commitRoutes rs).events.flags, mask := (s.commitRoutes rs).events.mask } } := by
  unfold State.commitRoutes State.markSlots
  split
  · rw [s.putRoutes_rest]
  · rw [s.putRoutes_rest]

theorem State.putRoutes_upholds (s : State) (rs : List Route)
    (h : List.Forall₂ (Alters (Rising s.routes) s.sup.state s.mixer.alertFloor) s.routes rs) :
    Upholds l s (s.putRoutes rs) :=
  .each (.same (by rw [s.putRoutes_rest]) (by rw [s.putRoutes_rest]) (by rw [s.putRoutes_rest]) (by rw [s.putRoutes_rest])) (by simpa using h)

theorem State.commitRoutes_upholds (s : State) (rs : List Route)
    (h : List.Forall₂ (Alters (Rising s.routes) s.sup.state s.mixer.alertFloor) s.routes rs) :
    Upholds l s (s.commitRoutes rs) :=
  .each (.same (by rw [s.commitRoutes_rest]) (by rw [s.commitRoutes_rest]) (by rw [s.commitRoutes_rest]) (by rw [s.commitRoutes_rest])) (by simpa using h)

@[simp] theorem State.rerun_routes (s : State) (d : Domain) : (s.rerun d).routes = s.rerunRoutes d s.routes := by
  simp [State.rerun]

theorem RouteFrame.limpSilent {s t : State} (h : RouteFrame s t) (q : s.LimpSilent) : t.LimpSilent := by
  intro e n m c
  rw [h.sup] at e
  refine h.each.forall (fun r => r.cls.limpSilenced → r.state.Quiet) (fun r => r.cls.limpSilenced → r.state.Quiet) ?_
    (fun r m c => q e r m c) n m c
  intro r n v x y
  rw [v.same.2.2.2.2.1] at y
  exact v.limp e y (x y)

theorem RouteFrame.gains {s t : State} (h : RouteFrame s t) (f : s.mixer.alertFloor ≤ 0)
    (g : ∀ r ∈ s.routes, r.GainsInRange) : ∀ n ∈ t.routes, n.GainsInRange :=
  h.each.forall _ _ (fun _ _ v x => v.gains f x) g

theorem RouteFrame.consistent {s t : State} (h : RouteFrame s t)
    (g : ∀ r ∈ s.routes, r.Consistent) : ∀ n ∈ t.routes, n.Consistent :=
  h.each.forall _ _ (fun _ _ v x => v.consistent x) g

/-- A precedence re-run upholds the laws (R25 to R28). -/
theorem State.rerun_upholds (s : State) (d : Domain) : Upholds l s (s.rerun d) where
  settings := .ofTuner (.ofRoute (s.rerun_frame d))
  rising := fun h => (s.rerun_frame d).each.rising h
  consistent := fun _ => (s.rerun_frame d).consistent
  gains := fun f _ => (s.rerun_frame d).gains f
  limp := (s.rerun_frame d).limpSilent
  ranks := fun _ h => by rw [s.rerun_routes]; exact s.rerunRoutes_ranks d _ h
  winner := fun _ r h => by
    rw [State.oneWinner_iff, s.rerun_routes]
    exact s.rerunRoutes_notBoth d _ r (((State.oneWinner_iff s).1 h).imp (fun q x y z => q x y z.1))

theorem State.rerunAll_upholds (s : State) (ds : List Domain) : Upholds l s (s.rerunAll ds) := by
  refine Upholds.folded _ (fun t d => ?_) _ s
  split
  · exact t.rerun_upholds d
  · exact .refl t

theorem State.notice_upholds (s : State) (p : Route → Bool) (f : Route → Route)
    (h : ∀ r, Alters (Rising s.routes) s.sup.state s.mixer.alertFloor r (f r)) : Upholds l s (s.notice p f) := by
  refine (s.commitRoutes_upholds _ (forall₂_map_of _ _ (fun r _ => ?_))).trans (State.rerunAll_upholds _ _)
  split
  · exact h r
  · exact .refl r

theorem State.notifyTuner_upholds (s : State) (x : TunerId) (c : Condition) : Upholds l s (s.notifyTuner x c) :=
  s.notice_upholds _ _ (s.notified_alters c)

theorem State.retargetWhere_upholds (s : State) (p : Route → Bool) (k : RampClass) :
    Upholds l s (s.retargetWhere p k) := by
  refine s.putRoutes_upholds _ (forall₂_map_of _ _ (fun r _ => ?_))
  split
  · exact s.retarget_alters k r
  · exact .refl r

/-! ## Openings and removals -/

/-- A route opened in a free slot, newest of its domain, upholds the laws (R4, R7, R19). -/
theorem State.openRoute_upholds (s : State) (r : Route) (i : l → Between (-240) 0 r.level)
    (h : r.state = .pending ∧ r.applied = .mute ∧ r.running = false ∧ r.target = none ∧ r.fadeMark = false)
    (b : 1 ≤ r.slot ∧ r.slot ≤ 24) (c : ∀ x ∈ s.routes, x.slot ≠ r.slot)
    (k : r.rank = domainCount r.zone.domain s.routes + 1) : Upholds l s (s.openRoute r) := by
  have frame := s.openRoute_frame r (fun _ => True) l stays_true trivial i h b c
  have same : ∀ n ∈ (s.openRoute r).routes, (∃ x ∈ s.routes, Evolves s.sup.state s.mixer.alertFloor x n) ∨
      Fresh l s.sup.state s.mixer.alertFloor n := fun n m => (frame.routes n m).imp id (·.2)
  have keeps := s.firstEntry_keeps r
  have before : ∃ t : State, s.openRoute r = t.rerun r.zone.domain ∧ t.routes = insertRoute (s.firstEntry r) s.routes := by
    refine ⟨_, rfl, ?_⟩
    split
    · simp [State.referenceChange]
    · rfl
  obtain ⟨t, e, inserted⟩ := before
  have count : (s.firstEntry r).rank = domainCount (s.firstEntry r).zone.domain s.routes + 1 := by
    rw [keeps.rank, keeps.zone]; exact k
  have ranked : RanksRun s.routes → RanksRun t.routes := fun q => by
    rw [inserted]
    exact (q.cons count).perm (insertRoute_perm _ _).symm
  refine ⟨.ofTable frame, frame.rising, ?_, ?_, ?_, ?_, ?_⟩
  · intro _ q n m
    rcases same n m with ⟨x, mx, v⟩ | v
    · exact v.consistent (q x mx)
    · exact v.consistent
  · intro f hl q n m
    rcases same n m with ⟨x, mx, v⟩ | v
    · exact v.gains f (q x mx)
    · exact v.gains f hl
  · intro q e n m c
    rw [frame.sup] at e
    rcases same n m with ⟨x, mx, v⟩ | v
    · have y := v.same.2.2.2.2.1
      exact v.limp e (y ▸ c) (q e x mx (y ▸ c))
    · exact v.limp e c
  · intro _ q
    rw [e, t.rerun_routes]
    exact t.rerunRoutes_ranks _ _ (ranked q)
  · intro _ q w
    rw [State.oneWinner_iff, e, t.rerun_routes]
    refine t.rerunRoutes_notBoth _ _ (ranked q) ?_
    rw [inserted]
    refine ((insertRoute_perm _ _).symm.pairwise ?_ (fun h => h.symm))
    refine List.pairwise_cons.2 ⟨fun x _ a _ z => ?_, ((State.oneWinner_iff s).1 w).imp (fun q x y z => q x y z.1)⟩
    exact absurd (by rw [keeps.zone]) z.2

/-- The table once the route in a slot has gone: newer ranks of its domain fall (R14). -/
def withoutRoute (r : Route) (rs : List Route) : List Route :=
  (rs.filter (fun x => x.slot ≠ r.slot)).map (fallRank r.zone.domain r.rank)

theorem withoutRoute_mem {r n : Route} {rs : List Route} (h : n ∈ withoutRoute r rs) :
    ∃ x ∈ rs, x.slot ≠ r.slot ∧ n = { x with rank := n.rank } := by
  obtain ⟨x, m, e⟩ := List.mem_map.1 h
  obtain ⟨m, ne⟩ := List.mem_filter.1 m
  refine ⟨x, m, by simpa using ne, ?_⟩
  rw [← e]
  exact fallRank_rest _ _ _

/-- The removal of a route from the table upholds the laws (R14). -/
theorem Upholds.removal {s t : State} (a : Settings s t) {r : Route}
    (m : r ∈ s.routes) (h : t.routes = withoutRoute r s.routes) : Upholds l s t := by
  have rising : Rising s.routes → Rising t.routes := by
    intro q
    rw [h]
    refine rising_of_map (rs := s.routes.filter (fun x => x.slot ≠ r.slot)) ?_ ?_
    · unfold withoutRoute
      rw [List.map_map]
      exact List.map_congr_left (fun x _ => fallRank_slot _ _ x)
    · exact ⟨q.1.filter _, fun x m => q.2 x (List.mem_filter.1 m).1⟩
  refine ⟨a, rising, ?_, ?_, ?_, ?_, ?_⟩
  · intro _ q n m
    obtain ⟨x, mx, -, e⟩ := withoutRoute_mem (h ▸ m)
    have c := q x mx
    rw [e]
    exact ⟨c.cause, c.silent, c.leaving, c.marked, c.alert⟩
  · intro _ _ q n m
    obtain ⟨x, mx, -, e⟩ := withoutRoute_mem (h ▸ m)
    rw [e]
    exact q x mx
  · intro q e n m c
    obtain ⟨x, mx, -, f⟩ := withoutRoute_mem (h ▸ m)
    rw [f] at c ⊢
    exact q (a.sup ▸ e) x mx c
  · intro q w
    rw [h]
    exact (w.perm (q.perm_filter m)).uncons
  · intro q w o
    rw [State.oneWinner_iff, h]
    unfold withoutRoute
    rw [List.pairwise_map]
    refine (((State.oneWinner_iff s).1 o).filter _).imp ?_
    intro x y old
    simpa [NotBoth] using old

end

end Sys2Proof.Machine
end

-- ==== support and settled obligations, part 4 ====
section
/-! SUPPORT. Which work of stations and tuners leaves the routes alone, and that the rest upholds the Route Table's laws. -/

namespace Sys2Proof.Machine

/-! ## Work that leaves the routes -/

section
variable (s : State)

@[simp] theorem State.insertStation_routes (r : Station) : (s.insertStation r).routes = s.routes := by
  unfold State.insertStation State.reportFull
  split
  · rfl
  · split
    · split <;> rfl
    · rfl

@[simp] theorem State.ensureStation_routes (f : Nat) : (s.ensureStation f).routes = s.routes := by
  unfold State.ensureStation
  split <;> simp

@[simp] theorem State.refreshStation_routes (f : Nat) (m : Measurement) : (s.refreshStation f m).routes = s.routes := by
  simp [State.refreshStation]

@[simp] theorem State.joinInUse_routes (f : Nat) : (s.joinInUse f).routes = s.routes := by simp [State.joinInUse]

@[simp] theorem State.cancelScan_routes (x : TunerId) : (s.cancelScan x).routes = s.routes := by
  unfold State.cancelScan; split <;> simp

@[simp] theorem State.cancelCheck_routes (x : TunerId) : (s.cancelCheck x).routes = s.routes := by
  unfold State.cancelCheck; split <;> simp

@[simp] theorem State.abortSearchBy_routes (x : TunerId) : (s.abortSearchBy x).routes = s.routes := by
  unfold State.abortSearchBy
  dsimp only
  split
  · split <;> simp
  · rfl

@[simp] theorem State.takeTuner_routes (x : TunerId) (f users : Nat) (watch : Bool) :
    (s.takeTuner x f users watch).routes = s.routes := by
  unfold State.takeTuner
  dsimp only
  simp only [State.setTuner_routes, State.joinInUse_routes]
  split
  · rw [State.leaveInUse_routes]
    split <;> simp
  · split <;> simp

@[simp] theorem State.tellWatch_routes (f : Nat) (x : TunerId) : (s.tellWatch f x).routes = s.routes := rfl

@[simp] theorem State.dropWatch_routes (x : TunerId) : (s.dropWatch x).routes = s.routes := by
  simp [State.dropWatch]

@[simp] theorem State.share_routes (x : TunerId) : (s.share x).1.routes = s.routes := by simp [State.share]

@[simp] theorem State.claim_routes (f : Nat) : (s.claim f).1.routes = s.routes := by
  unfold State.claim
  split
  · simp
  · split
    · simp
    · split
      · simp
      · split
        · simp
        · split <;> simp

@[simp] theorem State.claimCode_routes (c : Nat) : (s.claimCode c).1.routes = s.routes := by
  unfold State.claimCode
  split <;> simp

@[simp] theorem State.attachWatch_routes (x : TunerId) (f : Nat) : (s.attachWatch x f).routes = s.routes := by
  simp [State.attachWatch]

@[simp] theorem State.takeForWatch_routes (x : TunerId) (f : Nat) : (s.takeForWatch x f).routes = s.routes := by
  simp [State.takeForWatch]

@[simp] theorem State.reattachWatch_routes : s.reattachWatch.routes = s.routes := by
  unfold State.reattachWatch
  split
  · rfl
  · split
    · rfl
    · split
      · simp
      · split
        · simp
        · split <;> simp

theorem State.unpairIfPaired_routes : (if s.tuners.link = .none then s else s.unpair).routes = s.routes := by
  split <;> simp

@[simp] theorem State.freeTuner_routes (x : TunerId) : (s.freeTuner x).routes = s.routes := by
  unfold State.freeTuner
  dsimp only
  simp only [State.setTuner_routes]
  refine (State.unpairIfPaired_routes _).trans ?_
  split
  · split <;> simp
  · split <;> simp

@[simp] theorem State.freeIfUnheld_routes (x : TunerId) : (s.freeIfUnheld x).routes = s.routes := by
  unfold State.freeIfUnheld
  dsimp only
  split <;> simp

@[simp] theorem State.leaveTuner_routes (x : TunerId) : (s.leaveTuner x).routes = s.routes := by
  unfold State.leaveTuner
  dsimp only
  split <;> simp

@[simp] theorem State.releaseRoute_routes (r : Route) : (s.releaseRoute r).routes = s.routes := by
  unfold State.releaseRoute
  split <;> simp

@[simp] theorem State.holdStreak_routes (x : TunerId) : (s.holdStreak x).routes = s.routes := by
  unfold State.holdStreak
  dsimp only
  rw [apply_ite State.routes, State.setTuner_routes, ite_self]

@[simp] theorem State.moveProgram_routes (x : TunerId) (k : RetuneKind) (dest : Nat) (confirm : Bool) :
    (s.moveProgram x k dest confirm).routes = s.routes := by
  unfold State.moveProgram
  dsimp only
  cases (s.tuner x).frequency with
  | none => split <;> simp
  | some f => split <;> simp

@[simp] theorem State.beginCheck_routes (x : TunerId) : (s.beginCheck x).routes = s.routes := by
  unfold State.beginCheck
  dsimp only
  split
  · split <;> simp
  · rfl

@[simp] theorem State.startPairing_routes (m p : TunerId) : (s.startPairing m p).routes = s.routes := by
  simp [State.startPairing]

@[simp] theorem State.meetPartner_routes (m p : TunerId) : (s.meetPartner m p).routes = s.routes := by
  unfold State.meetPartner
  split
  · simp
  · split <;> simp
  · rfl

@[simp] theorem State.settlePairing_routes : s.settlePairing.routes = s.routes := by
  unfold State.settlePairing
  split
  · split <;> simp
  · split <;> simp
  · rfl

@[simp] theorem State.startSearch_routes (x : TunerId) : (s.startSearch x).routes = s.routes := by
  unfold State.startSearch
  split
  · simp
  · dsimp only
    split <;> simp

@[simp] theorem State.roundEnd_routes : s.roundEnd.routes = s.routes := by
  unfold State.roundEnd
  dsimp only
  split <;> rfl

@[simp] theorem State.moveCursor_routes : s.moveCursor.routes = s.routes := by
  unfold State.moveCursor
  dsimp only
  split <;> simp

@[simp] theorem State.skipInUse_routes (n : Nat) : (s.skipInUse n).routes = s.routes := by
  induction n generalizing s with
  | zero => rfl
  | succ n ih =>
    unfold State.skipInUse
    split
    · rw [ih]; simp
    · rfl

@[simp] theorem State.handOut_routes (x : TunerId) : (s.handOut x).routes = s.routes := by
  unfold State.handOut
  split <;> simp

@[simp] theorem State.scanStepBegin_routes (x : TunerId) : (s.scanStepBegin x).routes = s.routes := by
  unfold State.scanStepBegin
  split <;> simp

@[simp] theorem State.scanMeasurement_routes (x : TunerId) (f m : Nat) : (s.scanMeasurement x f m).routes = s.routes := by
  unfold State.scanMeasurement
  dsimp only
  split <;> simp

@[simp] theorem State.afCheckMeasurement_routes (x : TunerId) (f m : Nat) :
    (s.afCheckMeasurement x f m).routes = s.routes := by
  unfold State.afCheckMeasurement
  dsimp only
  split <;> simp

@[simp] theorem State.scanIntervalExpiry_routes : s.scanIntervalExpiry.routes = s.routes := by
  unfold State.scanIntervalExpiry
  split <;> simp

@[simp] theorem State.setPolicy_routes (q : TunerPolicy) : (s.setPolicy q).routes = s.routes := by
  unfold State.setPolicy
  dsimp only
  split
  · split
    · simp
    · split
      · rfl
      · split <;> rfl
  · rfl

@[simp] theorem State.takeWatch_routes (f : Nat) : (s.takeWatch f).routes = s.routes := by
  unfold State.takeWatch
  dsimp only
  split
  · rfl
  · split
    · simp
    · split
      · simp
      · split <;> simp

@[simp] theorem State.dropSeats_routes (p : Seat → Bool) : (s.dropSeats p).routes = s.routes := by
  simp [State.dropSeats]

@[simp] theorem State.callsLinkUp_routes : s.callsLinkUp.routes = s.routes := by simp [State.callsLinkUp]

@[simp] theorem State.callsLinkDown_routes : s.callsLinkDown.routes = s.routes := by simp [State.callsLinkDown]

@[simp] theorem State.quietTuners_routes : s.quietTuners.routes = s.routes := by simp [State.quietTuners]

theorem State.serve_routes (src : Source) (h : Handle) {t : State} {x : Option TunerId} {c : Condition}
    (e : s.serve src h = some (t, x, c)) : t.routes = s.routes := by
  unfold State.serve at e
  split at e
  · rename_i f
    have k := s.claim_routes f
    split at e
    · rename_i e1
      rw [e1] at k
      simp only [Option.some.injEq, Prod.mk.injEq] at e
      rw [← e.1]
      exact k
    · simp at e
  · rename_i n
    split at e
    · simp only [Option.some.injEq, Prod.mk.injEq] at e
      rw [← e.1]
    · have k := s.claimCode_routes n
      split at e
      · rename_i e1
        rw [e1] at k
        simp only [Option.some.injEq, Prod.mk.injEq] at e
        rw [← e.1]
        exact k
      · simp at e
  · simp only [Option.some.injEq, Prod.mk.injEq] at e
    rw [← e.1]

end

/-! ## Tuner work -/

section
variable {l : Prop}

theorem State.setTuner_upholds (s : State) (x : TunerId) (t : Tuner) : Upholds l s (s.setTuner x t) :=
  .ofTuner (s.setTuner_frame x t) (by simp)

theorem State.abandonRetune_upholds (s : State) (x : TunerId) : Upholds l s (s.abandonRetune x) :=
  (s.setTuner_upholds _ _).trans (State.notifyTuner_upholds _ _ _)

theorem State.beginRetune_upholds (s : State) (x : TunerId) (k : RetuneKind) : Upholds l s (s.beginRetune x k) := by
  refine (s.setTuner_upholds x _).trans (State.putRoutes_upholds _ _ (forall₂_map_of _ _ (fun r _ => ?_)))
  split
  · exact r.fade_alters
  · exact .refl r

theorem State.endSearch_upholds (s : State) (x : TunerId) : Upholds l s (s.endSearch x) := by
  unfold State.endSearch
  dsimp only
  have one : Upholds l s (if (s.tuner x).usesOther then s.cancelCheck (otherTuner x) else s) := by
    split
    · exact .ofTuner (s.cancelCheck_frame _) (by simp)
    · exact .refl s
  split
  · exact (one.trans (State.setTuner_upholds _ _ _)).trans (State.abandonRetune_upholds _ _)
  · exact one.trans (State.setTuner_upholds _ _ _)

theorem State.followCode_upholds (s : State) (x : TunerId) (f c : Nat) : Upholds l s (s.followCode x f c) := by
  unfold State.followCode
  dsimp only
  split
  · split
    · exact (s.setTuner_upholds _ _).trans (State.endSearch_upholds _ _)
    · exact s.setTuner_upholds _ _
  · exact .refl s

theorem State.tryWaiting_upholds (s : State) (w : Waiting) : Upholds l s (s.tryWaiting w) := by
  unfold State.tryWaiting
  split
  · split
    · rename_i t x c e
      have one : Upholds l s t := by
        have f := s.claimCode_frame w.code
        have k := s.claimCode_routes w.code
        rw [e] at f k
        exact .ofTuner f k
      dsimp only
      refine (one.trans (.ofTuner (t.dropWaiting_frame w.handle) rfl)).trans (State.notice_upholds _ _ _ (fun r => ?_))
      exact Alters.trans (b := { r with tuner := some x }) (.field rfl) (State.notified_alters _ _ _)
    · exact .refl s
  · exact .ofTuner (s.dropWaiting_frame w.handle) rfl

theorem State.notifyCode_upholds (s : State) (c : Nat) : Upholds l s (s.notifyCode c) :=
  .folded _ (fun t w => t.tryWaiting_upholds w) _ s

theorem State.holdStreak_upholds (s : State) (x : TunerId) : Upholds l s (s.holdStreak x) :=
  .ofTuner (s.holdStreak_frame x) (by simp)

theorem State.beginTuning_upholds (s : State) (x : TunerId) (k : RetuneKind) : Upholds l s (s.beginTuning x k) := by
  unfold State.beginTuning
  split
  · exact (s.notifyTuner_upholds _ _).trans (State.setTuner_upholds _ _ _)
  · split
    · exact (s.setTuner_upholds _ _).trans (State.abandonRetune_upholds _ _)
    · exact (s.notifyTuner_upholds _ _).trans (.ofTuner (State.moveProgram_frame _ _ _ _ _) (by simp))
  · split
    · exact (s.setTuner_upholds _ _).trans (State.abandonRetune_upholds _ _)
    · exact (s.notifyTuner_upholds _ _).trans (.ofTuner (State.moveProgram_frame _ _ _ _ _) (by simp))

theorem State.endFade_upholds (s : State) (x : TunerId) : Upholds l s (s.endFade x) := by
  unfold State.endFade
  split
  · split
    · exact s.beginTuning_upholds _ _
    · exact .refl s
  · exact .refl s

theorem State.endFades_upholds (s : State) : Upholds l s s.endFades :=
  ((s.endFade_upholds _).trans (State.endFade_upholds _ _)).trans (State.endFade_upholds _ _)

/-- What follows in the Allocator from a change (R70, R72, R74, R77) upholds the laws. -/
theorem State.arbitrate_upholds (s : State) : Upholds l s s.arbitrate :=
  s.endFades_upholds.trans (.ofTuner ((((State.reattachWatch_frame _).trans (State.beginCheck_frame _ _)).trans
    (State.beginCheck_frame _ _)).trans (State.settlePairing_frame _)) (by simp [State.arbitrate]))

theorem State.concludeSearch_upholds (s : State) (x : TunerId) (b : Option (Nat × Nat)) (confirm : Bool) :
    Upholds l s (s.concludeSearch x b confirm) := by
  unfold State.concludeSearch
  split
  · split
    · exact s.setTuner_upholds _ _
    · exact (s.setTuner_upholds _ _).trans (State.beginRetune_upholds _ _ _)
  · exact s.setTuner_upholds _ _

theorem State.update_upholds (s : State) (f : Nat) (g : Station → Station) :
    Upholds l s { s with stations := s.stations.update f g } := .rest (.same rfl rfl rfl rfl) rfl

theorem State.applyCode_upholds (s : State) (f c : Nat) : Upholds l s (s.applyCode f c) := by
  unfold State.applyCode
  split
  · exact .refl s
  · split
    · exact .refl s
    · exact (((((s.update_upholds _ _).trans (State.notifyCode_upholds _ _)).trans (State.followCode_upholds _ _ _ _)).trans
        (State.followCode_upholds _ _ _ _)).trans (State.holdStreak_upholds _ _)).trans (State.holdStreak_upholds _ _)

theorem State.applyItem_upholds (s : State) (f : Nat) (i : DataItem) : Upholds l s (s.applyItem f i) := by
  unfold State.applyItem
  split
  · split
    · exact .refl s
    · exact s.applyCode_upholds _ _
  · exact s.update_upholds _ _
  · exact s.update_upholds _ _
  · exact ((s.update_upholds _ _).trans (State.holdStreak_upholds _ _)).trans (State.holdStreak_upholds _ _)

theorem State.giveCode_upholds (s : State) (f c : Nat) : Upholds l s (s.giveCode f c) := by
  unfold State.giveCode
  split
  · exact .refl s
  · exact s.applyCode_upholds f c

/-! ## Tuner events -/

theorem State.acquisitionSettle_upholds (s : State) (x : TunerId) : Upholds l s (s.acquisitionSettle x) := by
  unfold State.acquisitionSettle
  dsimp only
  split
  · exact ((s.setTuner_upholds _ _).trans (State.notifyTuner_upholds _ _ _)).trans (State.arbitrate_upholds _)
  · exact .refl s

theorem State.beginJump_upholds (s : State) (x : TunerId) : Upholds l s (s.beginJump x) := by
  unfold State.beginJump
  split
  · exact (s.setTuner_upholds _ _).trans (State.beginRetune_upholds _ _ _)
  · exact .refl s

theorem State.afMeasured_upholds (s : State) (x : TunerId) (a : Area) : Upholds l s (s.afMeasured x a) := by
  unfold State.afMeasured
  dsimp only
  split
  · split
    · split
      · exact (s.setTuner_upholds _ _).trans (.ofTuner (State.startSearch_frame _ _) (by simp))
      · exact s.setTuner_upholds _ _
    · exact s.setTuner_upholds _ _
  · split
    · exact s.beginJump_upholds x
    · exact s.endSearch_upholds x
  · exact .refl s

theorem State.raiseIf_upholds (s : State) (c : Bool) (e : EventSource) : Upholds l s (s.raiseIf c e) :=
  .rest (.same (by simp) (by simp) (by simp) (by simp)) (by simp)

theorem State.programMeasurement_upholds (s : State) (x : TunerId) (f m : Nat) :
    Upholds l s (s.programMeasurement x f m) := by
  unfold State.programMeasurement
  dsimp only
  split
  · exact .refl s
  · split
    · exact (((Upholds.ofTuner (State.refreshStation_frame _ _ _) (by simp)).trans (State.setTuner_upholds _ _ _)).trans
        (State.raiseIf_upholds _ _ _)).trans ((State.afMeasured_upholds _ _ _).trans (State.arbitrate_upholds _))
    · exact .refl s

theorem State.confirm_upholds (s : State) (x : TunerId) (c : Option Nat) : Upholds l s (s.confirm x c) := by
  unfold State.confirm
  dsimp only
  split
  · exact s.setTuner_upholds _ _
  · split
    · exact s.setTuner_upholds _ _
    · split
      · exact s.setTuner_upholds _ _
      · exact s.beginRetune_upholds _ _

theorem State.scanResults_upholds (s : State) (f : Nat) (m : Measurement) (items : List DataItem) :
    Upholds l s (s.scanResults f m items) := by
  unfold State.scanResults
  split
  · exact .refl s
  · have one : Upholds l s (items.foldl (fun u i => u.applyItem f i) (s.refreshStation f m)) :=
      (Upholds.ofTuner (s.refreshStation_frame f m) (by simp)).trans
        (.folded _ (fun t i => t.applyItem_upholds f i) items _)
    dsimp only
    split
    · split
      · exact one.trans (State.notifyCode_upholds _ _)
      · exact one
    · exact one

theorem State.scanStepComplete_upholds (s : State) (x : TunerId) : Upholds l s (s.scanStepComplete x) := by
  unfold State.scanStepComplete
  dsimp only
  split
  · refine Upholds.trans (Upholds.trans ?_ (State.scanResults_upholds _ _ _ _)) (State.arbitrate_upholds _)
    have one : Upholds l s { s with stations := s.stations.reserve x none } := .rest (.same rfl rfl rfl rfl) rfl
    refine (one.trans (State.setTuner_upholds _ x _)).trans (.ofTuner (State.breakEnd_frame _) ?_)
    split <;> rfl
  · exact .refl s

theorem State.handOver_upholds (s : State) (c : Nat) (m : Measurement) (k : Option Nat) :
    Upholds l s (s.handOver c m k) := by
  have one : Upholds l s (s.refreshStation c m) := .ofTuner (s.refreshStation_frame c m) (by simp)
  unfold State.handOver
  dsimp only
  split
  · exact one.trans (State.applyCode_upholds _ _ _)
  · exact one

theorem State.afCheckEnd_upholds (s : State) (x : TunerId) (code : Option (BitVec 16)) :
    Upholds l s (s.afCheckEnd x code) := by
  unfold State.afCheckEnd
  dsimp only
  split
  · split
    · have one := fun t d c m k => (s.setTuner_upholds (l := l) x t).trans
        ((State.setTuner_upholds _ (otherTuner x) d).trans (State.handOver_upholds _ c m k))
      refine Upholds.trans ?_ (State.arbitrate_upholds _)
      split
      · exact (one _ _ _ _ _).trans (State.concludeSearch_upholds _ _ _ _)
      · exact one _ _ _ _ _
    · exact (((s.setTuner_upholds x _).trans (State.setTuner_upholds _ (otherTuner x) _)).trans
        (State.handOver_upholds _ _ _ _)).trans (State.arbitrate_upholds _)
  · exact .refl s

theorem State.retuneSettle_upholds (s : State) (x : TunerId) : Upholds l s (s.retuneSettle x) := by
  unfold State.retuneSettle
  dsimp only
  split
  · exact ((s.setTuner_upholds _ _).trans (State.notifyTuner_upholds _ _ _)).trans (State.arbitrate_upholds _)
  · exact ((s.setTuner_upholds _ _).trans (State.notifyTuner_upholds _ _ _)).trans (State.arbitrate_upholds _)
  · exact .refl s

theorem State.selfAfJumpEnd_upholds (s : State) (x : TunerId) (f m : Nat) : Upholds l s (s.selfAfJumpEnd x f m) := by
  unfold State.selfAfJumpEnd
  dsimp only
  split
  · split
    · have one := fun t c m k => ((s.setTuner_upholds (l := l) x t).trans (State.handOver_upholds _ c m k)).trans
        (State.notifyTuner_upholds _ x .available)
      refine Upholds.trans ?_ (State.arbitrate_upholds _)
      split
      · exact (one _ _ _ _).trans (State.concludeSearch_upholds _ _ _ _)
      · exact one _ _ _ _
    · exact (((s.setTuner_upholds x _).trans (State.handOver_upholds _ _ _ _)).trans (State.notifyTuner_upholds _ _ _)).trans
        (State.arbitrate_upholds _)
  · exact .refl s

theorem State.afConfirmTimeout_upholds (s : State) (x : TunerId) : Upholds l s (s.afConfirmTimeout x) := by
  unfold State.afConfirmTimeout
  split
  · exact (s.confirm_upholds _ _).trans (State.arbitrate_upholds _)
  · exact .refl s

end

end Sys2Proof.Machine
end

-- ==== support and settled obligations, part 5 ====
section
/-! SUPPORT. That the work which opens and removes routes, and the work of several blocks, upholds the Route Table's laws. -/

namespace Sys2Proof.Machine

section
variable {l : Prop}

/-! ## Removals -/

/-- The removal of the route in a slot leaves the table without it (R14). -/
theorem State.removeRoute_routes (s : State) {slot : Nat} {r : Route} (h : s.routeIn slot = some r) (mark : Bool) :
    (s.removeRoute slot mark).routes = withoutRoute r s.routes := by
  obtain ⟨-, e⟩ := s.routeIn_mem h
  unfold State.removeRoute
  rw [h]
  dsimp only
  unfold withoutRoute
  rw [e]
  split
  · rw [State.markSlots_routes, State.releaseRoute_routes]; rfl
  · rw [State.releaseRoute_routes]; rfl

theorem State.removeRoute_upholds (s : State) (slot : Nat) (mark : Bool) : Upholds l s (s.removeRoute slot mark) := by
  cases h : s.routeIn slot with
  | none =>
    unfold State.removeRoute
    rw [h]
    exact .refl s
  | some r =>
    have f := s.removeRoute_frame (fun _ => True) True stays_true slot mark
    exact .removal (.ofTable f) (s.routeIn_mem h).1 (s.removeRoute_routes h mark)

theorem State.markSlots_upholds (s : State) (m : BitVec 24) : Upholds l s (s.markSlots m) :=
  .rest (.same (by simp) (by simp) (by simp) (by simp)) (by simp)

theorem State.raise_upholds (s : State) (e : EventSource) : Upholds l s (s.raise e) := .rest (.same rfl rfl rfl rfl) rfl

/-- A change of the route in one slot. -/
theorem onSlot_forall₂ {R : Route → Route → Prop} (slot : Nat) (f : Route → Route) (rs : List Route)
    (h : ∀ r ∈ rs, r.slot = slot → R r (f r)) (k : ∀ r, R r r) : List.Forall₂ R rs (onSlot slot f rs) := by
  refine forall₂_map_of _ _ (fun r m => ?_)
  split
  · rename_i e; exact h r m e
  · exact k r

/-- The route sent into CLOSING where it is one that does (R21). -/
theorem State.closeSlot_upholds (s : State) {slot : Nat} {r : Route} (h : s.routeIn slot = some r) (k : r.state ≠ .pending) :
    Upholds l s (s.putRoutes (onSlot slot Route.close s.routes)) := by
  obtain ⟨m, e⟩ := s.routeIn_mem h
  refine s.putRoutes_upholds _ (onSlot_forall₂ slot _ _ (fun x mx ex => x.close_alters (fun o => ?_)) (fun x => .refl x))
  rw [o.unique x mx r m (ex.trans e.symm)]
  exact k

theorem State.retireSlot_upholds (s : State) (auto own : Bool) (slot : Nat) : Upholds l s (s.retireSlot auto own slot) := by
  unfold State.retireSlot
  split
  · exact .refl s
  · rename_i r h
    split
    · exact .refl s
    · exact s.removeRoute_upholds _ _
    · exact s.removeRoute_upholds _ _
    · rename_i np _
      dsimp only
      have one : Upholds l s (s.putRoutes (onSlot slot Route.close s.routes)) := s.closeSlot_upholds h np
      have two : Upholds l s (if auto then (s.putRoutes (onSlot slot Route.close s.routes)).markSlots (slotBit slot)
          else s.putRoutes (onSlot slot Route.close s.routes)) := by
        split
        · exact one.trans (State.markSlots_upholds _ _)
        · exact one
      split
      · exact two.trans (State.removeRoute_upholds _ _ _)
      · exact two

theorem State.retireSlots_upholds (s : State) (auto own : Bool) (slots : List Nat) :
    Upholds l s (s.retireSlots auto own slots) :=
  (Upholds.folded _ (fun t k => t.retireSlot_upholds auto own k) slots s).trans (State.rerunAll_upholds _ _)

theorem State.autoRetire_upholds (s : State) (hs : List Handle) : Upholds l s (s.autoRetire hs) :=
  s.retireSlots_upholds _ _ _

theorem State.rampStepSlot_upholds (s : State) (slot : Nat) : Upholds l s (s.rampStepSlot slot) := by
  unfold State.rampStepSlot
  split
  · exact .refl s
  · rename_i r h
    split
    · dsimp only
      have one : Upholds l s (s.putRoutes (onSlot slot Route.rampStep s.routes)) :=
        s.putRoutes_upholds _ (onSlot_forall₂ slot _ _ (fun x _ _ => x.rampStep_alters) (fun x => .refl x))
      split
      · exact (one.trans (State.removeRoute_upholds _ _ _)).trans (State.rerun_upholds _ _)
      · exact one
    · exact .refl s

/-! ## Openings -/

/-- A route made for the lowest free slot, as the openings make it. -/
theorem State.openNew_upholds (s : State) {k : Nat} (h : s.freeSlot = some k) (owner : Nat) (z : Zone) (c : RouteClass)
    (src : Source) (level : Int) (ramp : RampClass) (d : Option Nat) (x : Option TunerId) (cond : Condition)
    (line : Option (Fin 4)) (i : l → Between (-240) 0 level) :
    Upholds l s (s.openRoute (s.newRoute k owner z c src level ramp d x cond line)) :=
  s.openRoute_upholds _ i ⟨rfl, rfl, rfl, rfl, rfl⟩ (s.freeSlot_spec h).1 (s.freeSlot_spec h).2 rfl

theorem State.openAlert_upholds (s : State) (i : Fin 4) (z : Zone) (pattern : Nat) (level : Int)
    (h : l → Between (-240) 0 level) : Upholds l s (s.openAlert i z pattern level).1 := by
  unfold State.openAlert
  split
  · exact s.raise_upholds _
  · rename_i k e
    exact ((s.openNew_upholds e _ _ _ _ _ _ _ _ _ _ h).trans (State.markSlots_upholds _ _)).trans
      (State.raise_upholds _ _)

theorem State.openAnnouncement_upholds (s : State) (x : TunerId) (f : Nat) (z : Zone) :
    Upholds l s (s.openAnnouncement x f z).1 := by
  unfold State.openAnnouncement
  split
  · exact s.raise_upholds _
  · rename_i k e
    dsimp only
    refine Upholds.trans (Upholds.trans (Upholds.trans (s.setTuner_upholds x _) (State.openNew_upholds _ ?_ _ _ _ _ _ _ _ _ _ _ ?_))
      (State.markSlots_upholds _ _)) (State.raise_upholds _ _)
    · unfold State.freeSlot at e ⊢
      rw [State.setTuner_routes]
      exact e
    · exact fun _ => ⟨by omega, by omega⟩

theorem State.startAnnouncement_upholds (s : State) (x : TunerId) (f : Nat) : Upholds l s (s.startAnnouncement x f) := by
  unfold State.startAnnouncement
  refine Upholds.trans (t := { s with stations.announcing := true, stations.announced := [] }) (.rest (.same rfl rfl rfl rfl) rfl)
    (.folded _ (fun t z => ?_) _ _)
  exact (t.openAnnouncement_upholds x f z).trans (.rest (.same rfl rfl rfl rfl) rfl)

theorem State.endAnnouncement_upholds (s : State) : Upholds l s s.endAnnouncement := by
  unfold State.endAnnouncement
  split
  · exact (s.autoRetire_upholds _).trans (.rest (.same rfl rfl rfl rfl) rfl)
  · exact .refl s

theorem State.watchEnded_upholds (s : State) : Upholds l s s.watchEnded :=
  Upholds.trans (t := { s with stations.watch := none }) (.rest (.same rfl rfl rfl rfl) rfl) (State.endAnnouncement_upholds _)

/-- Lines replaced by lines of the same levels. -/
theorem State.lines_upholds (s : State) (q : Quad Line) (h : ∀ i, (q.get i).level = (s.lines.get i).level) :
    Upholds l s { s with lines := q } := .rest ⟨rfl, rfl, id, rfl, h⟩ rfl

theorem Quad.get_set {α : Type} (q : Quad α) (i j : Fin 4) (x : α) :
    (q.set i x).get j = if j = i then x else q.get j := by
  split
  · rename_i e; rw [e, Quad.get_set_same]
  · rename_i e; exact Quad.get_set_ne q i j x e

/-- A line replaced by one of the same level. -/
theorem State.line_upholds (s : State) (i : Fin 4) (x : Line) (h : x.level = (s.lines.get i).level) :
    Upholds l s { s with lines := s.lines.set i x } := by
  refine s.lines_upholds _ (fun j => ?_)
  rw [Quad.get_set]
  split
  · rename_i e; rw [e, h]
  · rfl

theorem State.assertLine_upholds (s : State) (i : Fin 4) (h : l → Between (-240) 0 (s.lines.get i).level) :
    Upholds l s (s.assertLine i) := by
  unfold State.assertLine
  dsimp only
  have one : ∀ st, Upholds l s { s with lines := s.lines.set i { s.lines.get i with state := st, timer := none, routes := [] } } :=
    fun st => s.line_upholds i _ rfl
  split
  · refine (one _).trans (.folded _ (fun t z => ?_) _ _)
    exact (t.openAlert_upholds i z _ _ h).trans (State.line_upholds _ i _ rfl)
  · exact one _

theorem State.releaseLine_upholds (s : State) (i : Fin 4) : Upholds l s (s.releaseLine i) :=
  (s.autoRetire_upholds _).trans (State.line_upholds _ i _ rfl)

theorem State.lineDebounceExpiry_upholds (s : State) (i : Fin 4) (h : l → Between (-240) 0 (s.lines.get i).level) :
    Upholds l s (s.lineDebounceExpiry i) := by
  unfold State.lineDebounceExpiry
  split
  · split
    · exact s.releaseLine_upholds i
    · exact s.assertLine_upholds i h
  · exact .refl s

/-- A field no law reads, changed on the route in a slot. -/
theorem State.onSlot_upholds (s : State) (slot : Nat) (f : Route → Route)
    (h : ∀ r, Alters (Rising s.routes) s.sup.state s.mixer.alertFloor r (f r)) :
    Upholds l s { s with routes := onSlot slot f s.routes } :=
  .each (.same rfl rfl rfl rfl) (onSlot_forall₂ slot f _ (fun r _ _ => h r) (fun r => .refl r))

theorem State.alertCut_upholds (s : State) (slot : Nat) : Upholds l s (s.alertCut slot) := by
  unfold State.alertCut
  split
  · exact .refl s
  · split
    · dsimp only
      have one := ((s.onSlot_upholds (l := l) slot (fun r => { r with cut := true }) (fun r => .field rfl)).trans
        (State.retireSlots_upholds _ true false [slot])).trans (State.raise_upholds _ .alertCut)
      split
      · refine one.trans (State.lines_upholds _ _ (fun i => ?_))
        rw [Quad.get_map]
        unfold Line.latch
        split <;> rfl
      · exact one
    · exact .refl s

theorem State.tonePatternEnd_upholds (s : State) (slot : Nat) : Upholds l s (s.tonePatternEnd slot) := by
  unfold State.tonePatternEnd
  split
  · exact .refl s
  · split
    · split
      · exact .refl s
      · exact (s.onSlot_upholds slot (fun r => { r with play := none }) (fun r => .field rfl)).trans
          (State.retireSlots_upholds _ _ _ _)
    · exact .refl s

/-! ## Data items -/

theorem State.announce_upholds (s : State) (x : TunerId) (f : Nat) : Upholds l s (s.announce x f) := by
  unfold State.announce
  split
  · split
    · exact .refl s
    · split
      · split
        · exact .refl s
        · exact s.startAnnouncement_upholds x f
      · exact s.endAnnouncement_upholds
  · exact .refl s

theorem State.programItem_upholds (s : State) (x : TunerId) (f : Nat) (i : DataItem) :
    Upholds l s (s.programItem x f i) := by
  have one := s.applyItem_upholds (l := l) f i
  unfold State.programItem
  dsimp only
  split
  · split
    · exact one.trans (State.confirm_upholds _ _ _)
    · exact one
  · exact one.trans (State.announce_upholds _ _ _)
  · exact one

theorem State.dataItem_upholds (s : State) (x : TunerId) (i : DataItem) : Upholds l s (s.dataItem x i) := by
  unfold State.dataItem
  dsimp only
  split
  · split
    · exact (s.programItem_upholds _ _ _).trans (State.arbitrate_upholds _)
    · exact .refl s
  · split
    · exact s.setTuner_upholds _ _
    · exact .refl s
  · exact .refl s

/-! ## Volumes -/

theorem Mixer.zone_setZone (m : Mixer) (z y : Zone) (x : ZoneRecord) :
    (m.setZone z x).zone y = if y = z then x else m.zone y := by
  cases z <;> cases y <;> simp [Mixer.setZone, Mixer.zone]

/-- A zone's record of the Zone Mixer is in its ranges (R34, R113): its volume at most its limit, an HP zone's cap a step. -/
def ZoneRecord.InRange (z : Zone) (x : ZoneRecord) : Prop :=
  match z with
  | .cabin => x.volume ≤ 40 ∧ Between (-10) 10 x.balance ∧ Between (-10) 10 x.fade
  | .front => x.volume ≤ 40 ∧ Between (-10) 10 x.balance
  | .driver => x.volume ≤ 40
  | _ => x.volume ≤ x.cap ∧ x.cap ≤ 40

theorem Mixer.InRange.zone {m : Mixer} (h : m.InRange) (z : Zone) : (m.zone z).InRange z := by
  cases z
  · exact ⟨h.cabin, h.balances.1, h.balances.2.1⟩
  · exact ⟨h.front, h.balances.2.2⟩
  · exact h.driver
  · exact h.hp1
  · exact h.hp2

/-- A zone's record replaced by one in its ranges. -/
theorem Mixer.InRange.setZone {m : Mixer} (h : m.InRange) {z : Zone} {x : ZoneRecord} (k : x.InRange z) :
    (m.setZone z x).InRange := by
  have w : ∀ y i, (m.setZone z x).weight y i = m.weight y i := by intro y i; cases z <;> rfl
  cases z
  · exact ⟨k.1, h.front, h.driver, h.hp1, h.hp2, ⟨k.2.1, k.2.2, h.balances.2.2⟩, h.depths, h.floor, fun y i => w y i ▸ h.weights y i⟩
  · exact ⟨h.cabin, k.1, h.driver, h.hp1, h.hp2, ⟨h.balances.1, h.balances.2.1, k.2⟩, h.depths, h.floor,
      fun y i => w y i ▸ h.weights y i⟩
  · exact ⟨h.cabin, h.front, k, h.hp1, h.hp2, h.balances, h.depths, h.floor, fun y i => w y i ▸ h.weights y i⟩
  · exact ⟨h.cabin, h.front, h.driver, k, h.hp2, h.balances, h.depths, h.floor, fun y i => w y i ▸ h.weights y i⟩
  · exact ⟨h.cabin, h.front, h.driver, h.hp1, k, h.balances, h.depths, h.floor, fun y i => w y i ▸ h.weights y i⟩

/-- A volume step at most the zone's limit keeps the zone's record in range (R58). -/
theorem Mixer.InRange.volume {m : Mixer} (h : m.InRange) (z : Zone) {v : Nat} (k : v ≤ m.limit z) :
    ZoneRecord.InRange z { m.zone z with volume := v } := by
  have r := h.zone z
  cases z
  · exact ⟨k, r.2.1, r.2.2⟩
  · exact ⟨k, r.2⟩
  · exact k
  · exact ⟨k, r.2⟩
  · exact ⟨k, r.2⟩

/-- In range, no zone's volume step is above its limit (R34, R113). -/
theorem Mixer.InRange.volume_le {m : Mixer} (h : m.InRange) (z : Zone) : (m.zone z).volume ≤ m.limit z := by
  have r := h.zone z
  cases z
  · exact r.1
  · exact r.1
  · exact r
  · exact r.1
  · exact r.1

theorem State.setVolume_upholds (s : State) (z : Zone) (v : Nat) (h : s.mixer.InRange → v ≤ s.mixer.limit z) :
    Upholds l s (s.setVolume z v) := by
  unfold State.setVolume
  split
  · exact .refl s
  · exact Upholds.trans (t := { s with mixer := s.mixer.setZone z { s.mixer.zone z with volume := v } })
      (.rest ⟨rfl, s.mixer.setZone_floor z _, fun q => q.setZone (q.volume z (h q)), rfl, fun _ => rfl⟩ rfl)
      (State.retargetWhere_upholds _ _ _)

theorem movedStep_le (v : Nat) (change : Int) (limit : Nat) : movedStep v change limit ≤ limit := by
  have := (fit_between (Int.natCast_nonneg limit) ((v : Int) + change)).2
  unfold movedStep
  omega

theorem State.followOne_upholds (s : State) (z : Zone) (c : Int) (h : z = .hp1 ∨ z = .hp2) :
    Upholds l s (s.followOne z c) := by
  unfold State.followOne
  dsimp only
  split
  · refine s.setVolume_upholds _ _ (fun _ => ?_)
    rcases h with e | e <;> subst e <;> exact movedStep_le _ _ _
  · exact .refl s

theorem State.setVolumeAndFollow_upholds (s : State) (z : Zone) (v : Nat) (h : s.mixer.InRange → v ≤ s.mixer.limit z) :
    Upholds l s (s.setVolumeAndFollow z v) := by
  unfold State.setVolumeAndFollow
  dsimp only
  split
  · refine (s.setVolume_upholds z v h).trans ?_
    unfold State.follow
    split
    · exact .refl _
    · exact (State.followOne_upholds _ _ _ (.inl rfl)).trans (State.followOne_upholds _ _ _ (.inr rfl))
  · exact s.setVolume_upholds z v h

theorem State.lowerZone_upholds (s : State) (z : Zone) : Upholds l s (s.lowerZone z) := by
  unfold State.lowerZone
  split
  · rename_i lt
    exact s.setVolumeAndFollow_upholds _ _ (fun q => (Nat.le_of_lt lt).trans (q.volume_le z))
  · exact .refl s

theorem State.safeStart_upholds (s : State) (z : Zone) : Upholds l s (s.safeStart z) := by
  unfold State.safeStart
  split
  · rename_i lt
    exact s.setVolume_upholds _ _ (fun q => (Nat.le_of_lt lt).trans (q.volume_le z))
  · exact .refl s

theorem State.jackChange_upholds (s : State) (o : HpOut) : Upholds l s (s.jackChange o) := by
  unfold State.jackChange
  dsimp only
  have one : ∀ j, Upholds l s (s.setJack o j) :=
    fun j => .rest (.same (by simp) (by simp) (by simp) (by simp)) (by simp)
  refine Upholds.trans (Upholds.trans (Upholds.trans ?_ (State.notice_upholds _ _ _ (State.refresh_alters _)))
    (State.raise_upholds _ _)) (State.arbitrate_upholds _)
  split
  · exact (one _).trans (State.safeStart_upholds _ _)
  · exact one _

/-- A cap put in force on an HP zone, its volume step lowered to it (R113). -/
theorem State.setCap_upholds (s : State) (z : Zone) (cap : Nat) (hp : z = .hp1 ∨ z = .hp2) (c : cap ≤ 40) :
    Upholds l s (s.setCap z cap) := by
  have zones : ∀ x, (s.mixer.setZone z x).zone z = x := fun x => by rw [Mixer.zone_setZone, if_pos rfl]
  have limit : ∀ v, (s.mixer.setZone z { s.mixer.zone z with volume := v, cap := cap }).limit z = cap := by
    intro v
    rcases hp with e | e <;> subst e <;> rfl
  have range : ∀ v, v ≤ cap → s.mixer.InRange →
      (s.mixer.setZone z { s.mixer.zone z with volume := v, cap := cap }).InRange := by
    intro v k h
    refine h.setZone ?_
    rcases hp with e | e <;> subst e <;> exact ⟨k, c⟩
  unfold State.setCap
  dsimp only
  split
  · rename_i lt
    have ne : ({ s with mixer := s.mixer.setZone z { s.mixer.zone z with cap := cap } }.mixer.zone z).volume ≠ cap := by
      dsimp only
      rw [zones]
      exact Nat.ne_of_gt lt
    unfold State.setVolume
    rw [if_neg ne]
    dsimp only
    rw [zones]
    have once : (s.mixer.setZone z { s.mixer.zone z with cap := cap }).setZone z
        { s.mixer.zone z with volume := cap, cap := cap } =
        s.mixer.setZone z { s.mixer.zone z with volume := cap, cap := cap } := by cases z <;> rfl
    rw [once]
    exact Upholds.trans
      (t := { s with mixer := s.mixer.setZone z { s.mixer.zone z with volume := cap, cap := cap } })
      (.rest ⟨rfl, s.mixer.setZone_floor z _, range cap (Nat.le_refl _), rfl, fun _ => rfl⟩ rfl)
      (State.retargetWhere_upholds _ _ _)
  · rename_i le
    exact .rest ⟨rfl, s.mixer.setZone_floor z _, range _ (Nat.le_of_not_lt le), rfl, fun _ => rfl⟩ rfl

/-! ## Calls and the link -/

theorem State.legNotice_upholds (s : State) (id : Nat) (reuse : Byte) : Upholds l s (s.legNotice id reuse) := by
  refine s.notice_upholds _ _ (fun r => ?_)
  split
  · exact s.refresh_alters r
  · exact Alters.trans (b := { r with play := none }) (.field rfl) (s.refresh_alters _)

theorem State.dropSeats_upholds (s : State) (p : Seat → Bool) : Upholds l s (s.dropSeats p) :=
  .ofTuner (.ofRoute (s.dropSeats_frame p)) (by simp)

theorem State.calls_upholds (s : State) (c : Calls) : Upholds l s { s with calls := c } := .rest (.same rfl rfl rfl rfl) rfl

theorem State.holdLeg_upholds (s : State) (x : Leg) : Upholds l s (s.holdLeg x) := by
  unfold State.holdLeg
  dsimp only
  refine Upholds.trans ?_ (State.legNotice_upholds _ _ _)
  split
  · exact (s.dropSeats_upholds _).trans (State.calls_upholds _ _)
  · exact s.calls_upholds _

theorem State.holdActive_upholds (s : State) : Upholds l s s.holdActive := by
  unfold State.holdActive
  split
  · exact (s.holdLeg_upholds _).trans (State.raise_upholds _ _)
  · exact .refl s

theorem State.activateLeg_upholds (s : State) (x : Leg) : Upholds l s (s.activateLeg x) :=
  ((s.holdActive_upholds.trans (State.calls_upholds _ _)).trans (.rest (.same rfl rfl rfl rfl) rfl)).trans (State.legNotice_upholds _ _ _)

/-- A playback ended where a condition holds. -/
theorem Route.silenced_alters {u : Prop} {st : SupState} {floor : Int} (r : Route) (p : Prop) [Decidable p] :
    Alters u st floor r (if p then { r with play := none } else r) := by
  split
  · exact .field rfl
  · exact .refl r

theorem State.closeLeg_upholds (s : State) (x : Leg) : Upholds l s (s.closeLeg x) := by
  unfold State.closeLeg
  dsimp only
  have one : Upholds l s (if x.state = .active then s.dropSeats x.seats.has else s) := by
    split
    · exact s.dropSeats_upholds _
    · exact .refl s
  refine (one.trans (State.autoRetire_upholds _ _)).trans (.each (.same rfl rfl rfl rfl) (forall₂_map_of _ _ (fun r _ => r.silenced_alters _)))

theorem State.setSeats_upholds (s : State) (x : Leg) (n : SeatSet) : Upholds l s (s.setSeats x n) := by
  unfold State.setSeats
  dsimp only
  split
  · exact (s.calls_upholds _).trans ((State.dropSeats_upholds _ _).trans (.rest (.same rfl rfl rfl rfl) rfl))
  · exact s.calls_upholds _

theorem State.routesLink_upholds (s : State) : Upholds l s s.routesLink := s.notice_upholds _ _ s.refresh_alters

theorem State.callsLinkUp_upholds (s : State) : Upholds l s s.callsLinkUp :=
  .ofTuner (.ofRoute s.callsLinkUp_frame) (by simp)

theorem State.callsLinkDown_upholds (s : State) : Upholds l s s.callsLinkDown :=
  .ofTuner (.ofRoute s.callsLinkDown_frame) (by simp)

theorem State.eitherOrder_upholds (s : State) (f g : State → State) (hf : ∀ t, Upholds l t (f t))
    (hg : ∀ t, Upholds l t (g t)) : Upholds l s (s.eitherOrder f g) := by
  unfold State.eitherOrder
  refine Upholds.trans (t := { s with freeCount := s.freeCount + 1 }) (.rest (.same rfl rfl rfl rfl) rfl) ?_
  dsimp only
  split
  · exact hf _
  · exact hg _

/-- A change of the phone port's record, with its notices, upholds the laws (R132). -/
theorem State.setPhone_upholds (s : State) (p : Phone) : Upholds l s (s.setPhone p) := by
  unfold State.setPhone
  dsimp only
  have one : ∀ c, Upholds l s ({ s with phone := p }.raiseIf c .phoneLink) := fun c => .rest (.same (by simp) (by simp) (by simp) (by simp)) (by simp)
  split
  · refine (one _).trans (State.eitherOrder_upholds _ _ _ (fun t => ?_) (fun t => ?_))
    · exact (t.callsLinkUp_upholds.trans (State.routesLink_upholds _)).trans (State.arbitrate_upholds _)
    · exact (t.routesLink_upholds.trans (State.callsLinkUp_upholds _)).trans (State.arbitrate_upholds _)
  · split
    · refine (one _).trans (State.eitherOrder_upholds _ _ _ (fun t => ?_) (fun t => ?_))
      · exact (t.callsLinkDown_upholds.trans (State.routesLink_upholds _)).trans (State.arbitrate_upholds _)
      · exact (t.routesLink_upholds.trans (State.callsLinkDown_upholds _)).trans (State.arbitrate_upholds _)
    · exact one _

/-! ## Supervision -/

theorem State.forceRemovals_upholds (s : State) : Upholds l s s.forceRemovals := by
  unfold State.forceRemovals
  dsimp only
  refine Upholds.trans ?_ (State.rerunAll_upholds _ _)
  have one : ∀ ks : List Nat, Upholds l s (ks.foldl (fun u k => u.removeRoute k true) s) :=
    fun ks => .folded _ (fun t k => t.removeRoute_upholds k true) ks s
  split
  · exact (one _).trans (.ofTuner (.ofRoute (State.referenceChange_frame _)) (by simp [State.referenceChange]))
  · exact one _

theorem State.endWatch_upholds (s : State) : Upholds l s s.endWatch := by
  unfold State.endWatch
  dsimp only
  have one : Upholds l s { s with tuners.watch := none } := .rest (.same rfl rfl rfl rfl) rfl
  split
  · exact one
  · exact ((one.trans (State.setTuner_upholds _ _ _)).trans (State.watchEnded_upholds _)).trans
      (.ofTuner (State.freeIfUnheld_frame _ _) (by simp))

theorem State.setWatch_upholds (s : State) (w : Option Nat) : Upholds l s (s.setWatch w) := by
  unfold State.setWatch
  split
  · exact .refl s
  · split
    · exact s.endWatch_upholds.trans (State.arbitrate_upholds _)
    · exact (s.endWatch_upholds.trans (.ofTuner (State.takeWatch_frame _ _) (by simp))).trans (State.arbitrate_upholds _)

end

end Sys2Proof.Machine
end

-- ==== support and settled obligations, part 6 ====
section
/-! SUPPORT. What every command keeps of the gain path and of the Route Table: the invariants of ranges, order, fields,
ranks, winners and silence in LIMP, command by command. -/

namespace Sys2Proof.Machine

/-- What a command keeps: each law of the gain path and of the Route Table that held goes on to hold. -/
structure KeepsLaws (s t : State) : Prop where
  mixer : s.mixer.InRange → t.mixer.InRange
  thermal : s.thermal.InRange → t.thermal.InRange
  levels : (∀ i, Between (-240) 0 (s.lines.get i).level) → ∀ i, Between (-240) 0 (t.lines.get i).level
  rising : Rising s.routes → Rising t.routes
  consistent : Rising s.routes → (∀ r ∈ s.routes, r.Consistent) → ∀ n ∈ t.routes, n.Consistent
  gains : s.mixer.InRange → (∀ i, Between (-240) 0 (s.lines.get i).level) → (∀ r ∈ s.routes, r.GainsInRange) →
    ∀ n ∈ t.routes, n.GainsInRange
  limp : s.LimpSilent → t.LimpSilent
  ranks : Rising s.routes → RanksRun s.routes → RanksRun t.routes
  winner : Rising s.routes → RanksRun s.routes → s.OneWinner → t.OneWinner

namespace KeepsLaws

variable {s t u : State}

theorem trans (h : KeepsLaws s t) (k : KeepsLaws t u) : KeepsLaws s u where
  mixer := fun a => k.mixer (h.mixer a)
  thermal := fun a => k.thermal (h.thermal a)
  levels := fun a => k.levels (h.levels a)
  rising := fun a => k.rising (h.rising a)
  consistent := fun a b => k.consistent (h.rising a) (h.consistent a b)
  gains := fun a b c => k.gains (h.mixer a) (h.levels b) (h.gains a b c)
  limp := fun a => k.limp (h.limp a)
  ranks := fun a b => k.ranks (h.rising a) (h.ranks a b)
  winner := fun a b c => k.winner (h.rising a) (h.ranks a b) (h.winner a b c)

/-- Work that upholds the laws keeps them. -/
theorem of (h : Upholds (∀ i, Between (-240) 0 (s.lines.get i).level) s t) : KeepsLaws s t where
  mixer := h.settings.mixer
  thermal := fun a => by rw [h.settings.thermal]; exact a
  levels := fun a i => by rw [h.settings.levels]; exact a i
  rising := h.rising
  consistent := h.consistent
  gains := fun a => h.gains a.floor.2
  limp := h.limp
  ranks := h.ranks
  winner := h.winner

/-- Settings changed within their ranges, the routes as they are, LIMP not entered. -/
theorem settings (a : s.mixer.InRange → t.mixer.InRange) (b : s.thermal.InRange → t.thermal.InRange)
    (c : ∀ i, (t.lines.get i).level = (s.lines.get i).level) (d : t.routes = s.routes)
    (e : t.sup.state = .limp → s.sup.state = .limp) : KeepsLaws s t where
  mixer := a
  thermal := b
  levels := fun h i => by rw [c i]; exact h i
  rising := by rw [d]; exact id
  consistent := by rw [d]; exact fun _ => id
  gains := by rw [d]; exact fun _ _ => id
  limp := fun h x => by rw [d]; exact h (e x)
  ranks := by rw [d]; exact fun _ => id
  winner := fun _ _ => by rw [State.oneWinner_iff, State.oneWinner_iff, d]; exact id

/-- What no law reads, changed. -/
theorem rest (a : t.mixer = s.mixer) (b : t.thermal = s.thermal) (c : t.lines = s.lines) (d : t.routes = s.routes)
    (e : t.sup.state = s.sup.state) : KeepsLaws s t :=
  settings (by rw [a]; exact id) (by rw [b]; exact id) (fun i => by rw [c]) d (by rw [e]; exact id)

theorem refl (s : State) : KeepsLaws s s := rest rfl rfl rfl rfl rfl

end KeepsLaws

theorem State.validRequest_keepsLaws (s : State) : KeepsLaws s s.validRequest :=
  .rest (by simp) (by simp) (by simp) (by simp) (by simp)

theorem State.answered_keepsLaws (s : State) (a b : List Byte) : KeepsLaws s (s.answered a b) :=
  .rest rfl rfl rfl rfl rfl

theorem State.ignoreTransfer_keepsLaws (s : State) (n : Nat) : KeepsLaws s (s.ignoreTransfer n) :=
  .rest rfl rfl rfl rfl rfl

/-- A request keeps the laws where its owning block does (R168 to R173). -/
theorem State.request_keepsLaws (s : State) (k : Request) (client : Byte) (p : List Byte) (body : State → Answer)
    (h : KeepsLaws s (body s).state) : KeepsLaws s (s.request k client p body) := by
  unfold State.request
  dsimp only
  split
  · exact s.ignoreTransfer_keepsLaws _
  · split
    · exact s.answered_keepsLaws _ _
    · split
      · exact s.validRequest_keepsLaws.trans (State.answered_keepsLaws _ _ _)
      · refine h.trans (KeepsLaws.trans ?_ (State.answered_keepsLaws _ _ _))
        unfold State.watchdogAfter
        split
        · exact .refl _
        · exact State.validRequest_keepsLaws _

/-! ## Requests on routes, zones and alerts -/

theorem routeOpen_keepsLaws (client : Byte) (p : List Byte) (s : State) : KeepsLaws s (routeOpen client p s).state := by
  unfold routeOpen
  split
  · exact .refl s
  · rename_i o e
    split
    · exact .refl s
    · split
      · exact .refl s
      · rename_i k free
        split
        · exact .refl s
        · rename_i t x c served
          have routes := s.serve_routes _ _ served
          have one : Upholds (∀ i, Between (-240) 0 (s.lines.get i).level) s t :=
            .ofTuner (s.serve_frame _ _ served) routes
          have slot : t.freeSlot = some k := by
            unfold State.freeSlot at free ⊢
            rw [routes]
            exact free
          exact .of ((one.trans (t.openNew_upholds slot _ _ _ _ _ _ _ _ _ _ (fun _ => openFields_level _ _ e))).trans
            (State.arbitrate_upholds _))

theorem routeLevel_keepsLaws (client : Byte) (p : List Byte) (s : State) : KeepsLaws s (routeLevel client p s).state := by
  unfold routeLevel
  split
  · exact .refl s
  · split
    · exact .refl s
    · rename_i r _
      split
      · exact .refl s
      · refine .of (s.putRoutes_upholds _ (onSlot_forall₂ _ _ _ (fun x _ _ => ?_) (fun x => .refl x)))
        have v := s.relevel_evolves (fit (-240) 0 (i16At p 2)) ((rampOf (u8At p 4)).getD r.ramp) x
          (fit_between (by omega) _)
        refine ⟨v.same, ?_, ?_, fun _ => v.consistent, v.limp, v.gains⟩
        · unfold State.relevel
          dsimp only
          split
          · exact (Route.aim_keeps _ _ _).rank
          · rfl
        · unfold State.relevel
          dsimp only
          split
          · rw [Route.aim_counts]; exact id
          · exact id

theorem routeRetire_keepsLaws (client : Byte) (p : List Byte) (s : State) :
    KeepsLaws s (routeRetire client p s).state := by
  unfold routeRetire
  split
  · exact .refl s
  · split
    · exact .refl s
    · exact .of ((s.retireSlots_upholds _ _ _).trans (State.arbitrate_upholds _))

theorem retireOwner_keepsLaws (client : Byte) (p : List Byte) (s : State) :
    KeepsLaws s (retireOwner client p s).state := by
  unfold retireOwner
  split
  · exact .refl s
  · split
    · exact .refl s
    · exact .of ((s.retireSlots_upholds _ _ _).trans (State.arbitrate_upholds _))

theorem Answer.query_keepsLaws {a : Answer} {s : State} (h : a.state = s) : KeepsLaws s a.state := by
  rw [h]
  exact .refl s

theorem zoneVolume_keepsLaws (p : List Byte) (s : State) : KeepsLaws s (zoneVolume p s).state := by
  unfold zoneVolume
  split
  · exact .refl s
  · split
    · exact .of (s.setVolumeAndFollow_upholds _ _ (fun _ => Nat.min_le_right _ _))
    · exact .of (s.setVolumeAndFollow_upholds _ _ (fun _ => movedStep_le _ _ _))
    · exact .refl s

theorem zoneBalance_keepsLaws (p : List Byte) (s : State) : KeepsLaws s (zoneBalance p s).state := by
  have b := fit_between (low := -10) (high := 10) (by omega)
  unfold zoneBalance
  split
  · exact .refl s
  · dsimp only
    split
    · exact .settings (fun h => h.setZone (z := .cabin) ⟨h.cabin, b _, b _⟩) id (fun _ => rfl) rfl id
    · exact .settings (fun h => h.setZone (z := .front) ⟨h.front, b _⟩) id (fun _ => rfl) rfl id
    · exact .refl s

theorem forall₂_alters_trans {u : Prop} {st : SupState} {floor : Int} {a b c : List Route}
    (h : List.Forall₂ (Alters u st floor) a b) (k : List.Forall₂ (Alters u st floor) b c) :
    List.Forall₂ (Alters u st floor) a c := by
  induction h generalizing c with
  | nil => cases k; exact .nil
  | cons x _ ih => cases k with | cons y z => exact .cons (x.trans y) (ih z)

theorem State.duckPass_alters {u : Prop} (s : State) (d : Domain) (rs : List Route) :
    List.Forall₂ (Alters u s.sup.state s.mixer.alertFloor) rs (s.duckPass d rs) := by
  refine forall₂_map_of _ _ (fun r _ => ?_)
  split
  · exact s.withDuck_alters _ r
  · exact .refl r

theorem duckDepths_keepsLaws (client : Byte) (p : List Byte) (s : State) :
    KeepsLaws s (duckDepths client p s).state := by
  unfold duckDepths
  split
  · exact .refl s
  · split
    · exact .refl s
    · dsimp only
      refine KeepsLaws.trans (t := { s with mixer.depths :=
          { alert := min 240 (u8At p 0), call := min 240 (u8At p 1), prompt := min 240 (u8At p 2) } }) ?_ (.of ?_)
      · exact .settings (fun h => { h with
          depths := ⟨Nat.min_le_left _ _, Nat.min_le_left _ _, Nat.min_le_left _ _⟩ }) id (fun _ => rfl) rfl id
      · exact State.putRoutes_upholds _ _ (forall₂_alters_trans (forall₂_alters_trans (State.duckPass_alters _ _ _)
          (State.duckPass_alters _ _ _)) (State.duckPass_alters _ _ _))

theorem temperature_keepsLaws (p : List Byte) (s : State) : KeepsLaws s (temperature p s).state := by
  unfold temperature
  split
  · exact .refl s
  · exact .settings id (fun h => { h with external := fit_between (by omega) _ }) (fun _ => rfl) rfl id

theorem derateSet_keepsLaws (client : Byte) (p : List Byte) (s : State) : KeepsLaws s (derateSet client p s).state := by
  unfold derateSet
  split
  · exact .refl s
  · rename_i e
    simp only [Bool.or_eq_true, decide_eq_true_eq, not_or] at e
    obtain ⟨⟨⟨⟨⟨-, -⟩, k1⟩, k2⟩, s1⟩, s2⟩ := e
    split
    · exact .refl s
    · have knee : Between 60 120 (u8At p 1 : Int) := ⟨by omega, by omega⟩
      have slope : 1 ≤ u8At p 2 ∧ u8At p 2 ≤ 15 := ⟨by omega, by omega⟩
      exact .settings id (fun h => { h with knee := knee, slope := slope }) (fun _ => rfl) rfl id

theorem alertLimits_keepsLaws (client : Byte) (p : List Byte) (s : State) :
    KeepsLaws s (alertLimits client p s).state := by
  unfold alertLimits
  split
  · exact .refl s
  · split
    · exact .refl s
    · dsimp only
      refine KeepsLaws.trans ?_ (.of (State.retargetWhere_upholds _ _ _))
      exact .settings (fun h => { h with floor := fit_between (by omega) _ }) id (fun _ => rfl) rfl id

theorem hpCap_keepsLaws (client : Byte) (p : List Byte) (s : State) : KeepsLaws s (hpCap client p s).state := by
  unfold hpCap
  split
  · exact .refl s
  · rename_i z e
    have hp : z = .hp1 ∨ z = .hp2 := by
      split at e
      · unfold hpZoneOf at e
        split at e <;> simp_all
      · simp at e
    split
    · exact .refl s
    · exact .of (s.setCap_upholds z _ hp (Nat.min_le_left _ _))

theorem hpFollow_keepsLaws (p : List Byte) (s : State) : KeepsLaws s (hpFollow p s).state := by
  unfold hpFollow
  split
  · exact .refl s
  · rename_i z e
    refine .settings (fun h => h.setZone ?_) id (fun _ => rfl) rfl id
    have := h.zone z
    cases z <;> exact this

end Sys2Proof.Machine
end

-- ==== support and settled obligations, part 7 ====
section
/-! SUPPORT. What every command keeps of the laws: tuners, calls, supervision, resets and the step. -/

namespace Sys2Proof.Machine

/-! ## Tuners, stations, phone and calls -/

theorem tunerPolicy_keepsLaws (client : Byte) (p : List Byte) (s : State) :
    KeepsLaws s (tunerPolicy client p s).state := by
  unfold tunerPolicy
  split
  · exact .refl s
  · split
    · exact .refl s
    · split
      · exact .refl s
      · rename_i k _ _
        let q : TunerPolicy :=
          { diversity := u8At p 0 = 1, cancel := u8At p 1 = 1, scan := k, interval := u8At p 3, hysteresis := u8At p 4 }
        have f := s.setPolicy_frame q
        have set : KeepsLaws s (s.setPolicy q) :=
          .rest f.mixer f.thermal f.lines (by simp) (congrArg Supervision.state f.sup)
        exact set.trans (.of (State.arbitrate_upholds _))

theorem trafficWatch_keepsLaws (client : Byte) (p : List Byte) (s : State) :
    KeepsLaws s (trafficWatch client p s).state := by
  unfold trafficWatch
  split
  · exact .refl s
  · split
    · exact .refl s
    · exact .of (s.setWatch_upholds _)

theorem qualityLimits_keepsLaws (client : Byte) (p : List Byte) (s : State) :
    KeepsLaws s (qualityLimits client p s).state := by
  unfold qualityLimits
  split
  · exact .refl s
  · split
    · exact .refl s
    · exact .rest rfl rfl rfl rfl rfl

theorem tunerGet_state (p : List Byte) (s : State) : (tunerGet p s).state = s := by
  unfold tunerGet
  split <;> rfl

theorem stationList_state (p : List Byte) (s : State) : (stationList p s).state = s := by
  unfold stationList
  split <;> rfl

theorem stationGet_state (p : List Byte) (s : State) : (stationGet p s).state = s := by
  unfold stationGet
  split
  · rfl
  · split <;> rfl

theorem routeGet_state (p : List Byte) (s : State) : (routeGet p s).state = s := by
  unfold routeGet
  split
  · rfl
  · split <;> rfl

theorem routeList_state (p : List Byte) (s : State) : (routeList p s).state = s := by
  unfold routeList
  split
  · rfl
  · split <;> rfl
  · rfl

theorem zoneGet_state (p : List Byte) (s : State) : (zoneGet p s).state = s := by
  unfold zoneGet
  split
  · rfl
  · split <;> rfl

theorem phoneGet_state (p : List Byte) (s : State) : (phoneGet p s).state = s := by
  unfold phoneGet
  split <;> rfl

theorem legGet_state (p : List Byte) (s : State) : (legGet p s).state = s := by
  unfold legGet
  split
  · rfl
  · split
    · rfl
    · split <;> rfl

theorem directLineGet_state (p : List Byte) (s : State) : (directLineGet p s).state = s := by
  unfold directLineGet
  split
  · rfl
  · split <;> rfl

theorem storeRead_state (p : List Byte) (s : State) : (storeRead p s).state = s := by
  unfold storeRead
  split
  · rfl
  · split <;> rfl

theorem partInfo_state (p : List Byte) (s : State) : (partInfo p s).state = s := by
  unfold partInfo
  split <;> rfl

theorem keepalive_state (p : List Byte) (s : State) : (keepalive p s).state = s := by
  unfold keepalive
  split <;> rfl

theorem stationPin_keepsLaws (p : List Byte) (s : State) : KeepsLaws s (stationPin p s).state := by
  unfold stationPin
  split
  · exact .refl s
  · split
    · exact .refl s
    · exact .rest rfl rfl rfl rfl rfl

theorem stationForget_keepsLaws (p : List Byte) (s : State) : KeepsLaws s (stationForget p s).state := by
  unfold stationForget
  split
  · exact .refl s
  · split
    · exact .refl s
    · split
      · exact .refl s
      · exact .rest rfl rfl rfl rfl rfl

theorem stationAdd_keepsLaws (p : List Byte) (s : State) : KeepsLaws s (stationAdd p s).state := by
  unfold stationAdd
  split
  · exact .refl s
  · dsimp only
    split
    · refine .of (Upholds.trans ?_ (State.arbitrate_upholds _))
      unfold State.addToExisting
      split
      · exact (s.update_upholds _ _).trans (State.giveCode_upholds _ _ _)
      · exact s.giveCode_upholds _ _
    · split
      · exact .refl s
      · refine KeepsLaws.trans ?_ (.of ((State.giveCode_upholds _ _ _).trans (State.arbitrate_upholds _)))
        exact .rest rfl rfl rfl rfl rfl

theorem stationAging_keepsLaws (client : Byte) (p : List Byte) (s : State) :
    KeepsLaws s (stationAging client p s).state := by
  unfold stationAging
  split
  · exact .refl s
  · split
    · exact .refl s
    · exact .rest rfl rfl rfl rfl rfl

theorem announceFollow_keepsLaws (client : Byte) (p : List Byte) (s : State) :
    KeepsLaws s (announceFollow client p s).state := by
  unfold announceFollow
  split
  · exact .refl s
  · split
    · exact .refl s
    · exact .rest rfl rfl rfl rfl rfl

theorem rearLock_keepsLaws (client : Byte) (p : List Byte) (s : State) : KeepsLaws s (rearLock client p s).state := by
  unfold rearLock
  split
  · exact .refl s
  · split
    · exact .refl s
    · exact .rest rfl rfl rfl rfl rfl

theorem phoneAdvertise_keepsLaws (client : Byte) (p : List Byte) (s : State) :
    KeepsLaws s (phoneAdvertise client p s).state := by
  unfold phoneAdvertise
  split
  · exact .refl s
  · split
    · exact .refl s
    · exact .rest rfl rfl rfl rfl rfl

theorem phoneRestart_keepsLaws (client : Byte) (p : List Byte) (s : State) :
    KeepsLaws s (phoneRestart client p s).state := by
  unfold phoneRestart
  split
  · exact .refl s
  · split
    · exact .refl s
    · exact .of (s.setPhone_upholds _)

theorem legOpen_keepsLaws (client : Byte) (p : List Byte) (s : State) : KeepsLaws s (legOpen client p s).state := by
  unfold legOpen
  split
  · exact .refl s
  · split
    · exact .refl s
    · dsimp only
      refine .of (Upholds.trans ?_ (State.arbitrate_upholds _))
      split
      · exact (s.holdActive_upholds.trans (State.calls_upholds _ _)).trans (.rest (.same rfl rfl rfl rfl) rfl)
      · exact s.calls_upholds _

theorem legState_keepsLaws (client : Byte) (p : List Byte) (s : State) : KeepsLaws s (legState client p s).state := by
  unfold legState
  split
  · exact .refl s
  · split
    · exact .refl s
    · dsimp only
      split
      · split
        · exact .refl s
        · exact .of ((s.holdLeg_upholds _).trans (State.arbitrate_upholds _))
      · split
        · exact .refl s
        · exact .of ((s.activateLeg_upholds _).trans (State.arbitrate_upholds _))

theorem legSeats_keepsLaws (client : Byte) (p : List Byte) (s : State) : KeepsLaws s (legSeats client p s).state := by
  unfold legSeats
  split
  · exact .refl s
  · split
    · exact .refl s
    · exact .of (s.setSeats_upholds _ _)

theorem legUplink_keepsLaws (client : Byte) (p : List Byte) (s : State) : KeepsLaws s (legUplink client p s).state := by
  unfold legUplink
  split
  · exact .refl s
  · split
    · exact .refl s
    · exact .of (s.calls_upholds _)

theorem legClose_keepsLaws (client : Byte) (p : List Byte) (s : State) : KeepsLaws s (legClose client p s).state := by
  unfold legClose
  split
  · exact .refl s
  · split
    · exact .refl s
    · exact .of ((s.closeLeg_upholds _).trans (State.arbitrate_upholds _))

theorem echoTarget_keepsLaws (client : Byte) (p : List Byte) (s : State) :
    KeepsLaws s (echoTarget client p s).state := by
  unfold echoTarget
  split
  · exact .refl s
  · split
    · exact .refl s
    · exact .rest rfl rfl rfl rfl rfl

/-! ## Supervision -/

/-- Whether the routes of a class and domain are silent. -/
def SilentIn (d : Domain) (c : RouteClass) (rs : List Route) : Prop :=
  ∀ r ∈ rs, r.zone.domain = d → r.cls = c → r.state.Quiet

theorem RouteState.quiet_of_not_counts {x : RouteState} (h : x.counts = false) : x.Quiet := by
  cases x <;> simp_all [RouteState.counts, RouteState.Quiet]

theorem Each.silentIn {floor : Int} {rs ns : List Route} (e : Each .limp floor rs ns) {d : Domain} {c : RouteClass}
    (k : c.limpSilenced) (h : SilentIn d c rs) : SilentIn d c ns := by
  refine e.forall (fun r => r.zone.domain = d → r.cls = c → r.state.Quiet) _ (fun r n v old x y => ?_) h
  obtain ⟨-, -, -, z, w, -, -⟩ := v.same
  rw [z] at x
  rw [w] at y
  exact v.limp rfl (y ▸ k) (old x y)

/-- In LIMP a class it silences is silent once it is judged (R26). -/
theorem State.judgeClass_silentIn (s : State) (h : s.sup.state = .limp) (d : Domain) (c : RouteClass)
    (k : c.limpSilenced) (rs : List Route) : SilentIn d c (s.judgeClass d c rs) := by
  intro n m x y
  obtain ⟨r, mr, e⟩ := List.mem_map.1 m
  split at e
  · rename_i here
    simp only [Bool.and_eq_true, decide_eq_true_eq] at here
    rw [← e]
    exact RouteState.quiet_of_not_counts (s.judged_outranked rs r (s.outranked_limp rs r h (here.2 ▸ k)))
  · rename_i away
    subst e
    exact absurd y (by simpa [x] using away)

/-- In LIMP a re-run silences its domain (R163). -/
theorem State.rerunRoutes_silentIn (s : State) (h : s.sup.state = .limp) (d : Domain) (c : RouteClass)
    (k : c.limpSilenced) (rs : List Route) : SilentIn d c (s.rerunRoutes d rs) := by
  have judge := fun c rs => s.judgeClass_each d c rs
  have duck := fun rs => s.duckPass_each d rs
  rw [h] at judge duck
  unfold State.rerunRoutes
  refine (duck _).silentIn k ?_
  rcases k with e | e | e
  · subst e
    exact (judge _ _).silentIn (.inl rfl) ((judge _ _).silentIn (.inl rfl) (s.judgeClass_silentIn h d _ (.inl rfl) _))
  · subst e
    exact (judge _ _).silentIn (.inr (.inl rfl)) (s.judgeClass_silentIn h d _ (.inr (.inl rfl)) _)
  · subst e
    exact s.judgeClass_silentIn h d _ (.inr (.inr rfl)) _

theorem State.rerun_silentIn (s : State) (h : s.sup.state = .limp) (d e : Domain) (c : RouteClass) (k : c.limpSilenced)
    (q : e = d ∨ SilentIn e c s.routes) : SilentIn e c (s.rerun d).routes := by
  rcases q with rfl | q
  · rw [s.rerun_routes]; exact s.rerunRoutes_silentIn h e c k _
  · have f := (s.rerun_frame d).each
    rw [h] at f
    exact f.silentIn k q

theorem State.rerunAll_all (s : State) :
    s.rerunAll [.cabinGroup, .hp1, .hp2] = ((s.rerun .cabinGroup).rerun .hp1).rerun .hp2 := by
  simp [State.rerunAll]

/-- In LIMP the re-run of all domains silences the classes LIMP silences (R163). -/
theorem State.rerunAll_limpSilent (s : State) (h : s.sup.state = .limp) :
    (s.rerunAll [.cabinGroup, .hp1, .hp2]).LimpSilent := by
  rw [s.rerunAll_all]
  intro _ r m k
  have h1 : (s.rerun .cabinGroup).sup.state = .limp := by rw [(s.rerun_frame _).sup, h]
  have h2 : ((s.rerun .cabinGroup).rerun .hp1).sup.state = .limp := by rw [(State.rerun_frame _ _).sup, h1]
  have silent : SilentIn r.zone.domain r.cls (((s.rerun .cabinGroup).rerun .hp1).rerun .hp2).routes := by
    cases e : r.zone.domain
    · exact State.rerun_silentIn _ h2 _ _ _ k (.inr (State.rerun_silentIn _ h1 _ _ _ k (.inr
        (s.rerun_silentIn h _ _ _ k (.inl rfl)))))
    · exact State.rerun_silentIn _ h2 _ _ _ k (.inr (State.rerun_silentIn _ h1 _ _ _ k (.inl rfl)))
    · exact State.rerun_silentIn _ h2 _ _ _ k (.inl rfl)
  exact silent r m rfl rfl

theorem KeepsLaws.intoLimp {s t : State} {s1 s2 : State} (a : s1.mixer = s.mixer) (b : s1.thermal = s.thermal)
    (c : s1.lines = s.lines) (d : s1.routes = s.routes) (h : ∀ l, Upholds l s1 s2) (q : s2.LimpSilent)
    (k : ∀ l, Upholds l s2 t) : KeepsLaws s t := by
  have e := KeepsLaws.of ((h (∀ i, Between (-240) 0 (s1.lines.get i).level)).trans (k _))
  refine ⟨?_, ?_, ?_, ?_, ?_, ?_, fun _ => (k True).limp q, ?_, ?_⟩
  · rw [← a]; exact e.mixer
  · rw [← b]; exact e.thermal
  · rw [← c]; exact e.levels
  · rw [← d]; exact e.rising
  · rw [← d]; exact e.consistent
  · rw [← a, ← c, ← d]; exact e.gains
  · rw [← d]; exact e.ranks
  · rw [State.oneWinner_iff, ← d]; exact e.winner

theorem State.enterLimp_keepsLaws (s : State) : KeepsLaws s s.enterLimp := by
  let u : State := { s with sup := { s.sup with state := .limp, left := none } }
  let v := u.rerunAll [.cabinGroup, .hp1, .hp2]
  have low : ∀ l, Upholds l v (((v.lowerZone .cabin).lowerZone .front).lowerZone .driver) := fun l =>
    ((v.lowerZone_upholds _).trans (State.lowerZone_upholds _ _)).trans (State.lowerZone_upholds _ _)
  have judged : ∀ l, Upholds l u v := fun _ => u.rerunAll_upholds [.cabinGroup, .hp1, .hp2]
  have rest : ∀ l, Upholds l v ((((v.lowerZone .cabin).lowerZone .front).lowerZone .driver).raise .limp).arbitrate :=
    fun l => ((low l).trans (State.raise_upholds _ _)).trans (State.arbitrate_upholds _)
  exact KeepsLaws.intoLimp (s1 := u) (s2 := v) rfl rfl rfl rfl judged (u.rerunAll_limpSilent rfl) rest

/-- The supervision record replaced, LIMP not entered. -/
theorem State.sup_keepsLaws (s : State) (u : Supervision) (h : u.state = .limp → s.sup.state = .limp) :
    KeepsLaws s { s with sup := u } := .settings id id (fun _ => rfl) rfl h

theorem setWatchdog_keepsLaws (client : Byte) (p : List Byte) (s : State) :
    KeepsLaws s (setWatchdog client p s).state := by
  unfold setWatchdog
  split
  · exact .refl s
  · split
    · exact .refl s
    · exact s.sup_keepsLaws _ id

theorem State.leaveLimp_keepsLaws (s : State) : KeepsLaws s s.leaveLimp := by
  let u : State := { s with sup.state := .run }
  have run : KeepsLaws s u := s.sup_keepsLaws { s.sup with state := .run } (fun h => nomatch h)
  exact run.trans (.of ((u.rerunAll_upholds _).trans (State.arbitrate_upholds _)))

theorem resumeRun_keepsLaws (client : Byte) (p : List Byte) (s : State) :
    KeepsLaws s (resumeRun client p s).state := by
  unfold resumeRun
  split
  · exact .refl s
  · split
    · exact .refl s
    · unfold Answer.ok
      dsimp only
      split
      · exact s.leaveLimp_keepsLaws
      · exact .refl s

theorem Line.quieted_level (l : Line) : l.quieted.level = l.level := by
  unfold Line.quieted
  split <;> rfl

theorem State.enterQuiet_keepsLaws (s : State) : KeepsLaws s s.enterQuiet := by
  let t : State := { s with sup := { s.sup with state := .quiet, left := none } }
  let u := t.forceRemovals.quietTuners.quietStations
  let v : State := { u with lines := u.lines.map Line.quieted }
  have quiet : KeepsLaws s t := s.sup_keepsLaws { s.sup with state := .quiet, left := none } (fun h => nomatch h)
  have bare : ∀ l, Upholds l t u := fun l =>
    (t.forceRemovals_upholds.trans (.ofTuner (State.quietTuners_frame _) (by simp))).trans
      (.ofTuner (State.quietStations_frame _) (State.quietStations_routes _))
  have same : ∀ i, (v.lines.get i).level = (u.lines.get i).level := fun i => by
    show ((u.lines.map Line.quieted).get i).level = _
    rw [Quad.get_map, Line.quieted_level]
  exact quiet.trans (.of ((bare _).trans ((u.lines_upholds _ same).trans (v.setPhone_upholds u.phone.toDown))))

theorem Answer.ok_state (s : State) (b : List Byte) : (Answer.ok s b).state = s := rfl

theorem quietEnter_keepsLaws (client : Byte) (p : List Byte) (s : State) :
    KeepsLaws s (quietEnter client p s).state := by
  unfold quietEnter
  split
  · exact .refl s
  · split
    · exact .refl s
    · split
      · exact .refl s
      · split
        · exact .refl s
        · rw [Answer.ok_state]
          exact s.enterQuiet_keepsLaws

theorem State.leaveQuiet_keepsLaws (s : State) : KeepsLaws s s.leaveQuiet := by
  let t : State := { s with sup := { s.sup with state := .run } }
  have run : KeepsLaws s t := s.sup_keepsLaws { s.sup with state := .run } (fun h => nomatch h)
  have port : ∀ l, Upholds l t (if s.phone.clock then t.setPhone s.phone.toNegotiating else t) := fun l => by
    split
    · exact t.setPhone_upholds _
    · exact .refl t
  exact run.trans (.of ((port _).trans (State.arbitrate_upholds _)))

theorem quietExit_keepsLaws (client : Byte) (p : List Byte) (s : State) :
    KeepsLaws s (quietExit client p s).state := by
  unfold quietExit
  split
  · exact .refl s
  · split
    · exact .refl s
    · unfold Answer.ok
      dsimp only
      split
      · exact s.leaveQuiet_keepsLaws
      · exact .refl s

/-! ## Events, store and part -/

theorem eventFetch_keepsLaws (p : List Byte) (s : State) : KeepsLaws s (eventFetch p s).state := by
  unfold eventFetch
  split
  · exact .refl s
  · exact .rest rfl rfl rfl rfl rfl

theorem eventRouting_keepsLaws (client : Byte) (p : List Byte) (s : State) :
    KeepsLaws s (eventRouting client p s).state := by
  unfold eventRouting
  split
  · exact .refl s
  · split
    · exact .refl s
    · exact .rest rfl rfl rfl rfl rfl

theorem storeWrite_keepsLaws (client : Byte) (p : List Byte) (s : State) :
    KeepsLaws s (storeWrite client p s).state := by
  unfold storeWrite
  split
  · exact .refl s
  · split
    · exact .refl s
    · split
      · exact .refl s
      · split
        · exact .refl s
        · exact .rest rfl rfl rfl rfl rfl

theorem partReset_keepsLaws (client : Byte) (p : List Byte) (s : State) : KeepsLaws s (partReset client p s).state := by
  unfold partReset
  split
  · exact .refl s
  · split
    · exact .refl s
    · exact .rest rfl rfl rfl rfl rfl

theorem State.storeWriteEnd_keepsLaws (s : State) : KeepsLaws s s.storeWriteEnd := by
  unfold State.storeWriteEnd
  split
  · exact .refl s
  · exact .rest rfl rfl rfl rfl rfl

/-! ## Start-up (R174) -/

theorem fieldOf_of {α : Type} (P : α → Prop) (row : Option (List Byte)) (b : α) (f : List Byte → α) (h : P b)
    (k : ∀ p, P (f p)) : P (fieldOf row b f) := by
  cases row
  · exact h
  · exact k _

theorem weightFor_between {b f : Int} (hb : Between (-10) 10 b) (hf : Between (-10) 10 f) (c : Speaker) :
    Between (-120) 0 (weightFor b f c) := by
  obtain ⟨b1, b2⟩ := hb
  obtain ⟨f1, f2⟩ := hf
  unfold weightFor
  constructor
  · cases c.side <;> cases c.row <;> dsimp only <;> omega
  · cases c.side <;> cases c.row <;> dsimp only <;> omega

theorem Mixer.settleWeights_weights {m : Mixer} (h : Between (-10) 10 m.cabin.balance ∧ Between (-10) 10 m.cabin.fade ∧
    Between (-10) 10 m.front.balance) (z : Zone) (i : Nat) : Between (-120) 0 (m.settleWeights.weight z i) := by
  have zero : Between (-120) 0 0 := ⟨by omega, by omega⟩
  obtain ⟨cb, cf, fb⟩ := h
  cases z
  · unfold Mixer.weight Mixer.settleWeights
    dsimp only
    rw [tabGet_tabOf]
    split
    · exact weightFor_between cb cf _
    · exact zero
  · unfold Mixer.weight Mixer.settleWeights
    dsimp only
    rw [tabGet_tabOf]
    split
    · exact weightFor_between fb ⟨by omega, by omega⟩ _
    · exact zero
  · unfold Mixer.weight Mixer.settleWeights
    dsimp only
    rw [tabGet_tabOf]
    split <;> exact zero
  · exact zero
  · exact zero

theorem loadBalance_between (row : Option (List Byte)) (i : Nat) : Between (-10) 10 (loadBalance row i) :=
  fieldOf_of _ row _ _ ⟨by omega, by omega⟩ (fun _ => fit_between (by omega) _)

theorem loadCap_le (row : Option (List Byte)) (i : Nat) : loadCap row i ≤ 40 :=
  fieldOf_of (· ≤ 40) row _ _ (by omega) (fun _ => Nat.min_le_left _ _)

theorem Store.loadMixer_inRange (t : Store) : t.loadMixer.InRange := by
  have vol : ∀ row i limit, loadVolume row i limit ≤ limit := fun _ _ _ => Nat.min_le_left _ _
  have b := fun i => loadBalance_between (t.goodRow 29) i
  refine ⟨vol _ _ _, vol _ _ _, vol _ _ _, ⟨vol _ _ _, loadCap_le _ _⟩, ⟨vol _ _ _, loadCap_le _ _⟩, ⟨b _, b _, b _⟩, ?_, ?_,
    Mixer.settleWeights_weights ⟨b _, b _, b _⟩⟩
  · exact fieldOf_of (fun d : DuckDepths => d.alert ≤ 240 ∧ d.call ≤ 240 ∧ d.prompt ≤ 240) _ _ _
      ⟨by decide, by decide, by decide⟩
      (fun p => ⟨Nat.min_le_left _ _, Nat.min_le_left _ _, Nat.min_le_left _ _⟩)
  · exact fieldOf_of (Between (-240) 0) _ _ _ ⟨by omega, by omega⟩ (fun _ => fit_between (by omega) _)

theorem fitNat_between {low high : Nat} (h : low ≤ high) (x : Nat) : low ≤ fitNat low high x ∧ fitNat low high x ≤ high := by
  unfold fitNat
  split
  · omega
  · split <;> omega

theorem loadThermal_inRange (row : Option (List Byte)) : (loadThermal row).InRange := by
  refine ⟨(⟨by omega, by omega⟩ : Between (-40) 150 25), (⟨by omega, by omega⟩ : Between (-40) 150 25), ?_, ?_,
    (⟨by omega, by omega⟩ : (0 : Nat) ≤ 72 ∧ (0 : Nat) ≤ 72), (by omega : (0 : Nat) ≤ 9)⟩
  · refine fieldOf_of (fun x : Int => Between 60 120 x) row _ _ ⟨by omega, by omega⟩ (fun p => ?_)
    have := fitNat_between (low := 60) (high := 120) (by omega) (u8At p 1)
    exact ⟨by omega, by omega⟩
  · exact fieldOf_of (fun x => 1 ≤ x ∧ x ≤ 15) row _ _ ⟨by omega, by omega⟩ (fun p => fitNat_between (by omega) _)

theorem loadLine_level (row : Option (List Byte)) (n base : Nat) (level : Bool) :
    Between (-240) 0 (loadLine row n base level).level := by
  unfold loadLine
  dsimp only
  refine fieldOf_of (fun l : Line => Between (-240) 0 l.level) row _ _
    (⟨by omega, by omega⟩ : Between (-240) 0 0) (fun p => ?_)
  have : min 240 (u8At p (base + 4)) ≤ 240 := Nat.min_le_left _ _
  exact ⟨by dsimp only; omega, by dsimp only; omega⟩

theorem Quad.get_ind {α : Type} {P : α → Prop} {a b c d : α} (ha : P a) (hb : P b) (hc : P c) (hd : P d) (i : Fin 4) :
    P (Quad.get ⟨a, b, c, d⟩ i) := by
  match i with
  | 0 => exact ha
  | 1 => exact hb
  | 2 => exact hc
  | 3 => exact hd

theorem State.startingValues_keepsLaws (s : State) (k : ResetKind) (plan : BandPlan) :
    KeepsLaws s (s.startingValues k plan) where
  mixer := fun _ => Store.loadMixer_inRange _
  thermal := fun _ => loadThermal_inRange _
  levels := fun _ => Quad.get_ind (P := fun l : Line => Between (-240) 0 l.level) (loadLine_level _ _ _ _)
    (loadLine_level _ _ _ _) (loadLine_level _ _ _ _) (loadLine_level _ _ _ _)
  rising := fun _ => ⟨.nil, by intro r m; cases m⟩
  consistent := fun _ _ => by intro r m; cases m
  gains := fun _ _ _ => by intro r m; cases m
  limp := fun _ _ => by intro r m; cases m
  ranks := fun _ _ _ => ⟨.nil, by intro r m; cases m⟩
  winner := fun _ _ _ => .nil

theorem State.assertSampled_keepsLaws (s : State) (i : Fin 4) : KeepsLaws s (s.assertSampled i) := by
  unfold State.assertSampled
  split
  · exact .of (s.assertLine_upholds i (fun h => h i))
  · exact .refl s

theorem State.abortWrite_keepsLaws (s : State) : KeepsLaws s s.abortWrite := by
  unfold State.abortWrite
  split
  · exact .refl s
  · exact .rest rfl rfl rfl rfl rfl

/-- A start-up gives every law anew (R174). -/
theorem State.startUp_keepsLaws (s : State) (k : ResetKind) (plan : BandPlan) : KeepsLaws s (s.startUp k plan) := by
  unfold State.startUp
  exact (s.abortWrite_keepsLaws.trans (State.startingValues_keepsLaws _ _ _)).trans
    (((((KeepsLaws.of (State.raiseIf_upholds _ _ _)).trans (State.assertSampled_keepsLaws _ _)).trans
      (State.assertSampled_keepsLaws _ _)).trans (State.assertSampled_keepsLaws _ _)).trans (State.assertSampled_keepsLaws _ _))

theorem State.hold_keepsLaws (s : State) : KeepsLaws s s.hold :=
  s.abortWrite_keepsLaws.trans (.rest rfl rfl rfl rfl rfl)

theorem State.readOut_keepsLaws (s : State) (n : Nat) : KeepsLaws s (s.readOut n) :=
  .rest (by simp) (by simp) (by simp) (by simp) (by simp)

theorem State.readTransfer_keepsLaws (s : State) (n : Nat) : KeepsLaws s (s.readTransfer n) := by
  unfold State.readTransfer
  split
  · exact .refl s
  · split
    · exact s.ignoreTransfer_keepsLaws n
    · split
      · exact (s.readOut_keepsLaws n).trans (State.startUp_keepsLaws _ _ _)
      · exact s.readOut_keepsLaws n

theorem State.resetRelease_keepsLaws (s : State) (plan : BandPlan) : KeepsLaws s (s.resetRelease plan) := by
  have one : KeepsLaws s { s with pins.resetN := true } := .rest rfl rfl rfl rfl rfl
  unfold State.resetRelease
  split
  · exact .refl s
  · dsimp only
    split
    · exact one.trans (State.startUp_keepsLaws _ _ _)
    · exact one

theorem State.supplyApplied_keepsLaws (s : State) (plan : BandPlan) : KeepsLaws s (s.supplyApplied plan) := by
  have one : KeepsLaws s { s with pins.supply := true } := .rest rfl rfl rfl rfl rfl
  unfold State.supplyApplied
  split
  · exact .refl s
  · dsimp only
    split
    · exact one.trans (State.startUp_keepsLaws _ _ _)
    · exact one

theorem State.resetAssert_keepsLaws (s : State) (c : ResetCause) : KeepsLaws s (s.resetAssert c) := by
  cases c
  · exact KeepsLaws.trans (t := { s with pins.resetN := false }) (.rest rfl rfl rfl rfl rfl) (State.hold_keepsLaws _)
  · exact KeepsLaws.trans (t := { s with pins.supply := false }) (.rest rfl rfl rfl rfl rfl) (State.hold_keepsLaws _)

theorem State.startUpEnd_keepsLaws (s : State) : KeepsLaws s s.startUpEnd := by
  unfold State.startUpEnd
  split
  · exact .rest rfl rfl rfl rfl rfl
  · exact .refl s

/-! ## Events of the gain path, pins and time -/

/-- A table of weights after one weight step is in range where it was and its targets are (R39). -/
theorem weightStep_between {f : Nat → Int} {v : Vector Int 20} (hf : ∀ i, Between (-120) 0 (f i))
    (hv : ∀ i, Between (-120) 0 (tabGet v i 0)) (i : Nat) :
    Between (-120) 0 (tabGet (tabOf 20 (fun i => stepToward (f i) (tabGet v i 0))) i 0) := by
  rw [tabGet_tabOf]
  split
  · exact stepToward_between (hf i) (hv i)
  · exact ⟨by omega, by omega⟩

theorem Mixer.InRange.reweighed {m : Mixer} (h : m.InRange) {a b c : Vector Int 20}
    (k : ∀ z i, Between (-120) 0 ({ m with wCabin := a, wFront := b, wDriver := c }.weight z i)) :
    { m with wCabin := a, wFront := b, wDriver := c }.InRange :=
  ⟨h.cabin, h.front, h.driver, h.hp1, h.hp2, h.balances, h.depths, h.floor, k⟩

theorem Mixer.InRange.weightStep {m : Mixer} (h : m.InRange) : m.weightStep.InRange := by
  have zero : Between (-120) 0 0 := ⟨by omega, by omega⟩
  obtain ⟨cb, cf, fb⟩ := h.balances
  have cabin : ∀ i, Between (-120) 0 (m.cabinTarget i) := fun _ => weightFor_between cb cf _
  have front : ∀ i, Between (-120) 0 (m.frontTarget i) := fun _ => weightFor_between fb ⟨by omega, by omega⟩ _
  refine h.reweighed (fun z i => ?_)
  cases z
  · exact weightStep_between cabin (h.weights .cabin) i
  · exact weightStep_between front (h.weights .front) i
  · exact weightStep_between (fun _ => zero) (h.weights .driver) i
  · exact zero
  · exact zero

theorem computedDerate_le (reading knee : Int) (slope : Nat) : computedDerate reading knee slope ≤ 72 := by
  unfold computedDerate
  split
  · exact Nat.min_le_left _ _
  · omega

theorem derateStep_inRange {c d r : Nat} (hc : c ≤ 72) (hd : d ≤ 72) (hr : r ≤ 9) :
    (derateStep c d r).1 ≤ 72 ∧ (derateStep c d r).2 ≤ 9 := by
  unfold derateStep
  split
  · exact ⟨hc, by omega⟩
  · split
    · exact ⟨hd, by omega⟩
    · split
      · exact ⟨hd, by dsimp only; omega⟩
      · exact ⟨by dsimp only; omega, by omega⟩

theorem Thermal.InRange.taken {t : Thermal} (h : t.InRange) (sensor : Int) : (t.taken sensor).InRange := by
  have c := computedDerate_le (fit (-40) 150 (if t.source = .external then t.external else sensor)) t.knee t.slope
  have d := derateStep_inRange c h.derate.2 h.recovery
  exact ⟨h.external, fit_between (by omega) _, h.knee, h.slope, ⟨c, d.1⟩, d.2⟩

theorem State.thermalReading_keepsLaws (s : State) (sensor : Int) : KeepsLaws s (s.thermalReading sensor) := by
  have one : KeepsLaws s { s with thermal := s.thermal.taken sensor } :=
    .settings id (fun h => h.taken sensor) (fun _ => rfl) rfl id
  unfold State.thermalReading
  dsimp only
  split
  · exact one.trans (.of (State.raiseIf_upholds _ _ _))
  · exact one.trans (.of ((State.retargetWhere_upholds _ _ _).trans (State.raiseIf_upholds _ _ _)))

theorem State.hpDetChange_keepsLaws (s : State) (o : HpOut) (level : Bool) : KeepsLaws s (s.hpDetChange o level) := by
  unfold State.hpDetChange
  split
  · exact .refl s
  · dsimp only
    split
    · exact .rest (by simp) (by simp) (by simp) (by simp) (by simp)
    · exact .rest (by simp) (by simp) (by simp) (by simp) (by simp)

theorem State.hpDebounceExpiry_keepsLaws (s : State) (o : HpOut) : KeepsLaws s (s.hpDebounceExpiry o) := by
  unfold State.hpDebounceExpiry
  split
  · exact .of (s.jackChange_upholds o)
  · exact .refl s

theorem State.alertInChange_keepsLaws (s : State) (i : Fin 4) (level : Bool) : KeepsLaws s (s.alertInChange i level) := by
  have one : KeepsLaws s { s with pins.alertIn := s.pins.alertIn.set i level } := .rest rfl rfl rfl rfl rfl
  unfold State.alertInChange
  split
  · exact .refl s
  · dsimp only
    split
    · exact one
    · exact one.trans (.of (State.line_upholds _ i _ rfl))

theorem State.tick_keepsLaws (s : State) : KeepsLaws s s.tick := by
  unfold State.tick
  split
  · exact .refl s
  · refine .of (.each ⟨rfl, rfl, id, rfl, fun i => ?_⟩ (forall₂_map_of _ _ (fun r _ => .field rfl)))
    dsimp only
    rw [Quad.get_map]

theorem State.micCheckEnd_keepsLaws (s : State) (x : Seat) (power : Int) : KeepsLaws s (s.micCheckEnd x power) := by
  unfold State.micCheckEnd
  dsimp only
  split
  · split
    · exact .rest (by simp) (by simp) (by simp) (by simp) (by simp)
    · exact .rest (by simp) (by simp) (by simp) (by simp) (by simp)
  · exact .refl s

theorem State.echoWindowEnd_keepsLaws (s : State) (x : Seat) (d : Int) (m r : Nat) :
    KeepsLaws s (s.echoWindowEnd x d m r) := by
  unfold State.echoWindowEnd
  dsimp only
  split
  · exact .rest (by simp) (by simp) (by simp) (by simp) (by simp)
  · exact .refl s

theorem State.unlessHeld_keepsLaws (s t : State) (h : KeepsLaws s t) : KeepsLaws s (s.unlessHeld t) := by
  unfold State.unlessHeld
  split
  · exact .refl s
  · exact h

end Sys2Proof.Machine
end

-- ==== support and settled obligations, part 8 ====
section
/-! SUPPORT. What every step keeps of the laws, and the invariants of the gain path and of the Route Table. -/

namespace Sys2Proof.Machine

/-! ## Every command -/

section
variable {s t : State}

theorem keeps_of_next {u : State} (h : (.next u : Host.Outcome State Fault Refusal) = .next t) (k : KeepsLaws s u) :
    KeepsLaws s t := by
  cases h
  exact k

theorem keeps_of_event {u : State} (h : (.next (s.unlessHeld u) : Host.Outcome State Fault Refusal) = .next t)
    (k : KeepsLaws s u) : KeepsLaws s t :=
  keeps_of_next h (s.unlessHeld_keepsLaws u k)

theorem keeps_of_request {k : Request} {client : Byte} {p : List Byte} {body : State → Answer}
    (h : (.next (s.request k client p body) : Host.Outcome State Fault Refusal) = .next t)
    (b : ∀ u, KeepsLaws u (body u).state) : KeepsLaws s t :=
  keeps_of_next h (s.request_keepsLaws k client p body (b s))

/-- A query, whose body changes nothing, keeps the laws. -/
theorem keeps_of_query {k : Request} {client : Byte} {p : List Byte} {body : State → Answer}
    (h : (.next (s.request k client p body) : Host.Outcome State Fault Refusal) = .next t)
    (b : ∀ u, (body u).state = u) : KeepsLaws s t :=
  keeps_of_request h (fun u => Answer.query_keepsLaws (b u))

end

theorem State.unknownRequest_keepsLaws (s : State) (code client : Byte) (p : List Byte) :
    KeepsLaws s (s.unknownRequest code client p) := by
  unfold State.unknownRequest
  dsimp only
  split
  · exact s.ignoreTransfer_keepsLaws _
  · split
    · exact s.answered_keepsLaws _ _
    · exact s.validRequest_keepsLaws.trans (State.answered_keepsLaws _ _ _)

theorem State.badFrame_keepsLaws (s : State) (first : Byte) (bytes : List Byte) : KeepsLaws s (s.badFrame first bytes) := by
  unfold State.badFrame
  split
  · exact s.ignoreTransfer_keepsLaws _
  · exact s.answered_keepsLaws _ _

theorem unknownRequest_keepsLaws {s t : State} {code client : Byte} {p : List Byte}
    (h : exec (.unknownRequest code client p) s = .next t) : KeepsLaws s t := by
  change execUnknownRequest code client p s = .next t at h
  unfold execUnknownRequest at h
  split at h
  · cases h
  · exact keeps_of_next h (s.unknownRequest_keepsLaws code client p)

theorem badFrame_keepsLaws {s t : State} {bytes : List Byte} (h : exec (.badFrame bytes) s = .next t) :
    KeepsLaws s t := by
  change execBadFrame bytes s = .next t at h
  cases bytes with
  | nil => exact keeps_of_next h (.refl s)
  | cons b rest =>
    unfold execBadFrame at h
    dsimp only at h
    split at h
    · cases h
    · exact keeps_of_next h (s.badFrame_keepsLaws b _)

theorem clockPresent_keepsLaws {s t : State} (h : exec .clockDetectPresent s = .next t) : KeepsLaws s t := by
  refine keeps_of_event h ?_
  split
  · exact .refl s
  · exact .of (s.setPhone_upholds _)

theorem clockAbsent_keepsLaws {s t : State} (h : exec .clockDetectAbsent s = .next t) : KeepsLaws s t := by
  refine keeps_of_event h ?_
  split
  · exact .of (s.setPhone_upholds _)
  · exact .refl s

theorem silence_keepsLaws {s t : State} (h : exec .silenceTimerExpiry s = .next t) : KeepsLaws s t := by
  refine keeps_of_event h ?_
  split
  · exact .of (s.setPhone_upholds _)
  · exact .refl s

theorem holdOff_keepsLaws {s t : State} (h : exec .holdOffExpiry s = .next t) : KeepsLaws s t := by
  refine keeps_of_event h ?_
  split
  · exact .of (s.setPhone_upholds _)
  · exact .refl s

theorem partnerWord_keepsLaws {s t : State} {word : BitVec 16} (h : exec (.partnerWord word) s = .next t) :
    KeepsLaws s t := by
  refine keeps_of_event h ?_
  split
  · exact .of (s.setPhone_upholds _)
  · exact .refl s

theorem watchdogExpiry_keepsLaws {s t : State} (h : exec .watchdogExpiry s = .next t) : KeepsLaws s t := by
  refine keeps_of_event h ?_
  split
  · exact s.enterLimp_keepsLaws
  · exact .refl s

theorem partResetTimeout_keepsLaws {s t : State} (h : exec .partResetTimeout s = .next t) : KeepsLaws s t := by
  refine keeps_of_next h ?_
  split
  · exact s.startUp_keepsLaws _ _
  · exact .refl s

/-- Every command keeps the laws of the gain path and of the Route Table. -/
theorem exec_keepsLaws (i : Instr) (s t : State) (h : exec i s = .next t) : KeepsLaws s t := by
  cases i with
  | routeOpen client payload => exact keeps_of_request h (fun u => routeOpen_keepsLaws client payload u)
  | routeLevel client payload => exact keeps_of_request h (fun u => routeLevel_keepsLaws client payload u)
  | routeRetire client payload => exact keeps_of_request h (fun u => routeRetire_keepsLaws client payload u)
  | retireOwner client payload => exact keeps_of_request h (fun u => retireOwner_keepsLaws client payload u)
  | routeGet client payload => exact keeps_of_query h (fun u => routeGet_state payload u)
  | routeList client payload => exact keeps_of_query h (fun u => routeList_state payload u)
  | zoneVolume client payload => exact keeps_of_request h (fun u => zoneVolume_keepsLaws payload u)
  | zoneBalance client payload => exact keeps_of_request h (fun u => zoneBalance_keepsLaws payload u)
  | zoneGet client payload => exact keeps_of_query h (fun u => zoneGet_state payload u)
  | duckDepths client payload => exact keeps_of_request h (fun u => duckDepths_keepsLaws client payload u)
  | temperature client payload => exact keeps_of_request h (fun u => temperature_keepsLaws payload u)
  | derateSet client payload => exact keeps_of_request h (fun u => derateSet_keepsLaws client payload u)
  | tunerPolicy client payload => exact keeps_of_request h (fun u => tunerPolicy_keepsLaws client payload u)
  | trafficWatch client payload => exact keeps_of_request h (fun u => trafficWatch_keepsLaws client payload u)
  | qualityLimits client payload => exact keeps_of_request h (fun u => qualityLimits_keepsLaws client payload u)
  | tunerGet client payload => exact keeps_of_query h (fun u => tunerGet_state payload u)
  | stationList client payload => exact keeps_of_query h (fun u => stationList_state payload u)
  | stationGet client payload => exact keeps_of_query h (fun u => stationGet_state payload u)
  | stationPin client payload => exact keeps_of_request h (fun u => stationPin_keepsLaws payload u)
  | stationForget client payload => exact keeps_of_request h (fun u => stationForget_keepsLaws payload u)
  | stationAdd client payload => exact keeps_of_request h (fun u => stationAdd_keepsLaws payload u)
  | stationAging client payload => exact keeps_of_request h (fun u => stationAging_keepsLaws client payload u)
  | announceFollow client payload => exact keeps_of_request h (fun u => announceFollow_keepsLaws client payload u)
  | hpCap client payload => exact keeps_of_request h (fun u => hpCap_keepsLaws client payload u)
  | hpFollow client payload => exact keeps_of_request h (fun u => hpFollow_keepsLaws payload u)
  | rearLock client payload => exact keeps_of_request h (fun u => rearLock_keepsLaws client payload u)
  | phoneAdvertise client payload => exact keeps_of_request h (fun u => phoneAdvertise_keepsLaws client payload u)
  | phoneRestart client payload => exact keeps_of_request h (fun u => phoneRestart_keepsLaws client payload u)
  | phoneGet client payload => exact keeps_of_query h (fun u => phoneGet_state payload u)
  | legOpen client payload => exact keeps_of_request h (fun u => legOpen_keepsLaws client payload u)
  | legState client payload => exact keeps_of_request h (fun u => legState_keepsLaws client payload u)
  | legSeats client payload => exact keeps_of_request h (fun u => legSeats_keepsLaws client payload u)
  | legUplink client payload => exact keeps_of_request h (fun u => legUplink_keepsLaws client payload u)
  | legClose client payload => exact keeps_of_request h (fun u => legClose_keepsLaws client payload u)
  | legGet client payload => exact keeps_of_query h (fun u => legGet_state payload u)
  | echoTarget client payload => exact keeps_of_request h (fun u => echoTarget_keepsLaws client payload u)
  | alertLimits client payload => exact keeps_of_request h (fun u => alertLimits_keepsLaws client payload u)
  | directLineGet client payload => exact keeps_of_query h (fun u => directLineGet_state payload u)
  | watchdog client payload => exact keeps_of_request h (fun u => setWatchdog_keepsLaws client payload u)
  | keepalive client payload => exact keeps_of_query h (fun u => keepalive_state payload u)
  | resume client payload => exact keeps_of_request h (fun u => resumeRun_keepsLaws client payload u)
  | quietEnter client payload => exact keeps_of_request h (fun u => quietEnter_keepsLaws client payload u)
  | quietExit client payload => exact keeps_of_request h (fun u => quietExit_keepsLaws client payload u)
  | eventFetch client payload => exact keeps_of_request h (fun u => eventFetch_keepsLaws payload u)
  | eventRouting client payload => exact keeps_of_request h (fun u => eventRouting_keepsLaws client payload u)
  | storeRead client payload => exact keeps_of_query h (fun u => storeRead_state payload u)
  | storeWrite client payload => exact keeps_of_request h (fun u => storeWrite_keepsLaws client payload u)
  | partInfo client payload => exact keeps_of_query h (fun u => partInfo_state payload u)
  | partReset client payload => exact keeps_of_request h (fun u => partReset_keepsLaws client payload u)
  | rampStep slot => exact keeps_of_event h (.of ((s.rampStepSlot_upholds slot).trans (State.arbitrate_upholds _)))
  | weightRampStep => exact keeps_of_event h (.settings (fun m => m.weightStep) id (fun _ => rfl) rfl id)
  | thermalReading sensor => exact keeps_of_event h (s.thermalReading_keepsLaws sensor)
  | alertCut slot => exact keeps_of_event h (.of (s.alertCut_upholds slot))
  | tonePatternEnd slot => exact keeps_of_event h (.of (s.tonePatternEnd_upholds slot))
  | hpDebounceExpiry out => exact keeps_of_event h (s.hpDebounceExpiry_keepsLaws out)
  | lineDebounceExpiry line => exact keeps_of_event h (.of (s.lineDebounceExpiry_upholds line (fun levels => levels line)))
  | acquisitionSettle tuner => exact keeps_of_event h (.of (s.acquisitionSettle_upholds tuner))
  | programMeasurement tuner field multipath => exact keeps_of_event h (.of (s.programMeasurement_upholds tuner _ _))
  | dataItemDecoded tuner item => exact keeps_of_event h (.of (s.dataItem_upholds tuner item))
  | scanStepBegin tuner => exact keeps_of_event h (.of (.ofTuner (s.scanStepBegin_frame tuner) (by simp)))
  | scanMeasurement tuner field multipath =>
    exact keeps_of_event h (.of (.ofTuner (s.scanMeasurement_frame tuner _ _) (by simp)))
  | scanStepComplete tuner => exact keeps_of_event h (.of (s.scanStepComplete_upholds tuner))
  | scanIntervalExpiry => exact keeps_of_event h (.of (.ofTuner s.scanIntervalExpiry_frame (by simp)))
  | afCheckMeasurement tuner field multipath =>
    exact keeps_of_event h (.of (.ofTuner (s.afCheckMeasurement_frame tuner _ _) (by simp)))
  | afCheckEnd tuner code => exact keeps_of_event h (.of (s.afCheckEnd_upholds tuner code))
  | retuneSettle tuner => exact keeps_of_event h (.of (s.retuneSettle_upholds tuner))
  | selfAfJumpEnd tuner field multipath => exact keeps_of_event h (.of (s.selfAfJumpEnd_upholds tuner _ _))
  | afConfirmTimeout tuner => exact keeps_of_event h (.of (s.afConfirmTimeout_upholds tuner))
  | watchdogExpiry => exact watchdogExpiry_keepsLaws h
  | clockDetectPresent => exact clockPresent_keepsLaws h
  | clockDetectAbsent => exact clockAbsent_keepsLaws h
  | rateSpanEnd rate => exact keeps_of_event h (.of (s.setPhone_upholds _))
  | partnerWord word => exact partnerWord_keepsLaws h
  | silenceTimerExpiry => exact silence_keepsLaws h
  | holdOffExpiry => exact holdOff_keepsLaws h
  | micCheckEnd seat power => exact keeps_of_event h (s.micCheckEnd_keepsLaws seat power)
  | echoWindowEnd seat downlink micPower residualPower =>
    exact keeps_of_event h (s.echoWindowEnd_keepsLaws seat downlink micPower residualPower)
  | storeWriteEnd => exact keeps_of_event h (s.storeWriteEnd_keepsLaws)
  | readTransfer clocked => exact keeps_of_next h (s.readTransfer_keepsLaws clocked)
  | partResetTimeout => exact partResetTimeout_keepsLaws h
  | resetNAssert cause => exact keeps_of_next h (s.resetAssert_keepsLaws cause)
  | resetNRelease straps => exact keeps_of_next h (s.resetRelease_keepsLaws straps)
  | startUpEnd => exact keeps_of_next h (s.startUpEnd_keepsLaws)
  | supplyApplication straps => exact keeps_of_next h (s.supplyApplied_keepsLaws straps)
  | hpDetChange out level => exact keeps_of_next h (s.hpDetChange_keepsLaws out level)
  | alertInChange line level => exact keeps_of_next h (s.alertInChange_keepsLaws line level)
  | unknownRequest code client payload => exact unknownRequest_keepsLaws h
  | badFrame bytes => exact badFrame_keepsLaws h

/-- Every step keeps them. -/
theorem step_keepsLaws {s t : State} (h : step s = .next t) : KeepsLaws s t := by
  unfold step at h
  split at h
  · exact keeps_of_next h s.tick_keepsLaws
  · rename_i c rest _
    have popped : KeepsLaws s { s with pending := rest } := .rest rfl rfl rfl rfl rfl
    exact popped.trans (exec_keepsLaws c _ _ h)

/-! ## The invariants -/

/-- Settles O10: every step keeps the laws of the gain path, command by command. -/
theorem gainPathStaysInRange : Obligations.GainPathStaysInRange := by
  intro s t mixer thermal levels gains h
  have k := step_keepsLaws h
  exact ⟨k.mixer mixer, k.thermal thermal, k.levels levels, k.gains mixer levels gains⟩

/-- Settles O11: every step keeps the table in slot order and its routes consistent. -/
theorem routeTableStaysConsistent : Obligations.RouteTableStaysConsistent := by
  intro s t ordered consistent h
  have k := step_keepsLaws h
  exact ⟨k.rising ordered, k.consistent ordered consistent⟩

/-- Settles O12: every step keeps the ranks of a domain a permutation of 1 to their number, so the newest is one route, and
the precedence judged by it leaves one winner. -/
theorem ranksAndWinnersStayUnique : Obligations.RanksAndWinnersStayUnique := by
  intro s t ordered ranked h
  have k := step_keepsLaws h
  have ranks := s.ranked_iff.1 ranked
  exact ⟨t.ranked_iff.2 (k.ranks ordered ranks), k.winner ordered ranks⟩

/-- Settles O13: LIMP is entered by a re-run of all domains, which silences its classes, and kept silent by every step. -/
theorem limpStaysSilent : Obligations.LimpStaysSilent := fun _ _ silent h => (step_keepsLaws h).limp silent

end Sys2Proof.Machine
end

-- ==== support and settled obligations, part 9 ====
section
/-! SUPPORT. The arbiter where nothing waits for it, and QUIET: what its commands leave standing. -/

namespace Sys2Proof.Machine

/-! ## The arbiter (3.5, 3.6) -/

section
variable {s : State}

theorem State.setTuner_self (s : State) (x : TunerId) : s.setTuner x (s.tuner x) = s := by
  cases x <;> rfl

theorem State.NoRetune.tuner (h : s.NoRetune) (x : TunerId) : (s.tuner x).retune = none := by
  obtain ⟨h1, h2⟩ := h
  cases x
  · exact h1
  · exact h2

theorem State.endFade_of_none {x : TunerId} (h : (s.tuner x).retune = none) : s.endFade x = s := by
  unfold State.endFade
  rw [h]

/-- Without a retune no fade phase ends (R77). -/
theorem State.NoRetune.endFades (h : s.NoRetune) : s.endFades = s := by
  unfold State.endFades
  rw [State.endFade_of_none (h.tuner .t1), State.endFade_of_none (h.tuner .t2), State.endFade_of_none (h.tuner .t1)]

/-- A watch that does not wait is not attached again (R70). -/
theorem State.WatchSettled.reattachWatch (h : s.WatchSettled) : s.reattachWatch = s := by
  unfold State.reattachWatch
  rcases h with h | h | h
  · rw [h]
  · cases s.tuners.watch <;> simp [h]
  · cases s.tuners.watch <;> simp [h]

/-- In QUIET the watch waits (R69, R70). -/
theorem State.reattachWatch_quiet (h : s.sup.state = .quiet) : s.reattachWatch = s := by
  unfold State.reattachWatch
  cases s.tuners.watch <;> simp [h]

theorem State.beginCheck_of_none {x : TunerId} (h : (s.tuner x).search = none) : s.beginCheck x = s := by
  unfold State.beginCheck
  rw [h]

/-- In QUIET no pairing is made (R74). -/
theorem State.settlePairing_quiet (h : s.sup.state = .quiet) (k : s.tuners.link = .none) : s.settlePairing = s := by
  unfold State.settlePairing
  rw [k]
  simp [State.pairReady, h]

end

/-! ## A part in QUIET -/

/-- A part in QUIET in which nothing stands but the routes of direct lines (R166). -/
def State.Bare (s : State) : Prop := s.sup.state = .quiet ∧ s.QuietBare

namespace State.Bare

variable {s t : State}

theorem tuner (b : s.Bare) (x : TunerId) : s.tuner x = .free := by
  obtain ⟨-, k⟩ := b
  cases x
  · exact k.tuners.1
  · exact k.tuners.2

/-- Changes that leave tuners, stations' uses, legs and link alone, the routes being direct lines'. -/
theorem of (b : s.Bare) (sup : t.sup.state = s.sup.state) (owners : ∀ r ∈ t.routes, r.owner = 7)
    (tuners : t.tuners = s.tuners)
    (stations : t.stations.inUse = s.stations.inUse ∧ t.stations.watch = s.stations.watch ∧
      t.stations.announcing = s.stations.announcing)
    (legs : t.calls.legs = s.calls.legs) (phone : t.phone.link = s.phone.link ∧ t.phone.silence = s.phone.silence) :
    t.Bare := by
  obtain ⟨q, k⟩ := b
  obtain ⟨used, watch, announcing⟩ := stations
  obtain ⟨link, silence⟩ := phone
  refine ⟨sup.trans q, owners, ?_, ?_, ?_, legs.trans k.legs, link.trans k.link.1, silence.trans k.link.2⟩
  · rw [tuners]; exact k.tuners
  · rw [tuners]; exact k.pairing
  · rw [used, watch, announcing]; exact k.stations

/-- Changes of settings only. -/
theorem rest (b : s.Bare) (sup : t.sup.state = s.sup.state) (routes : t.routes = s.routes)
    (tuners : t.tuners = s.tuners)
    (stations : t.stations.inUse = s.stations.inUse ∧ t.stations.watch = s.stations.watch ∧
      t.stations.announcing = s.stations.announcing)
    (legs : t.calls.legs = s.calls.legs) (phone : t.phone.link = s.phone.link ∧ t.phone.silence = s.phone.silence) :
    t.Bare :=
  b.of sup (by rw [routes]; exact b.2.owners) tuners stations legs phone

/-- Work on routes in place. -/
theorem route (b : s.Bare) (f : RouteFrame s t) : t.Bare := by
  refine b.of (by rw [f.sup]) ?_ f.tuners (by rw [f.stations]; exact ⟨rfl, rfl, rfl⟩) f.legs (by rw [f.phone]; exact ⟨rfl, rfl⟩)
  refine f.each.forall (fun r => r.owner = 7) _ (fun r n v old => ?_) b.2.owners
  obtain ⟨-, -, owner, -⟩ := v.same
  exact owner.trans old

theorem volume (b : s.Bare) (f : VolumeFrame s t) : t.Bare :=
  (b.rest (t := { s with mixer := t.mixer }) rfl rfl rfl ⟨rfl, rfl, rfl⟩ rfl ⟨rfl, rfl⟩).route f.frame

/-! ### What does nothing in QUIET -/

theorem noRetune (b : s.Bare) : s.NoRetune := ⟨by rw [b.2.tuners.1]; rfl, by rw [b.2.tuners.2]; rfl⟩

theorem arbitrate (b : s.Bare) : s.arbitrate = s := by
  have search : ∀ x, (s.tuner x).search = none := fun x => by rw [b.tuner x]; rfl
  unfold State.arbitrate
  dsimp only
  rw [b.noRetune.endFades, State.reattachWatch_quiet b.1, State.beginCheck_of_none (search .t1),
    State.beginCheck_of_none (search .t2), State.settlePairing_quiet b.1 b.2.pairing.1]

theorem leaveTuner (b : s.Bare) (x : TunerId) : s.leaveTuner x = s := by
  have same : ({ s.tuner x with users := (s.tuner x).users - 1 } : Tuner) = s.tuner x := by rw [b.tuner x]; rfl
  unfold State.leaveTuner State.freeIfUnheld
  dsimp only at same ⊢
  rw [same, s.setTuner_self, b.tuner x]
  rfl

theorem releaseRoute (b : s.Bare) (r : Route) : s.releaseRoute r = s := by
  unfold State.releaseRoute
  split
  · exact b.leaveTuner _
  · exact b.leaveTuner _
  · unfold State.dropWaiting
    rw [b.2.pairing.2, List.filter_nil, ← b.2.pairing.2]
  · rfl

theorem notifyCode (b : s.Bare) (c : Nat) : s.notifyCode c = s := by
  unfold State.notifyCode
  rw [b.2.pairing.2]
  rfl

theorem followCode (b : s.Bare) (x : TunerId) (f c : Nat) : s.followCode x f c = s := by
  unfold State.followCode
  rw [b.tuner x]
  rfl

theorem holdStreak (b : s.Bare) (x : TunerId) : s.holdStreak x = s := by
  unfold State.holdStreak
  rw [b.tuner x]
  rfl

/-! ### Routes removed and opened -/

theorem removeRoute (b : s.Bare) (slot : Nat) (mark : Bool) : (s.removeRoute slot mark).Bare := by
  unfold State.removeRoute
  split
  · exact b
  · rename_i r h
    dsimp only
    have gone : { s with
        routes := withoutRoute r s.routes
        reuse := tabSet s.reuse (slot - 1) (tabGet s.reuse (slot - 1) 0 + 1) }.Bare := by
      refine b.of rfl (fun n m => ?_) rfl ⟨rfl, rfl, rfl⟩ rfl ⟨rfl, rfl⟩
      obtain ⟨x, mx, -, e⟩ := withoutRoute_mem m
      rw [e]
      exact b.2.owners x mx
    obtain ⟨-, rfl⟩ := s.routeIn_mem h
    have released := gone.releaseRoute r
    unfold withoutRoute at gone released
    unfold fallRank at gone released
    split
    · rw [released]; exact gone.route (State.markSlots_frame _ _)
    · rw [released]; exact gone

theorem putRoutes (b : s.Bare) (rs : List Route) (h : ∀ r ∈ rs, r.owner = 7) : (s.putRoutes rs).Bare := by
  have put : { s with routes := rs }.Bare := b.of rfl h rfl ⟨rfl, rfl, rfl⟩ rfl ⟨rfl, rfl⟩
  unfold State.putRoutes
  dsimp only
  split
  · exact put.route (State.referenceChange_frame _)
  · exact put

theorem onSlot (b : s.Bare) (slot : Nat) (f : Route → Route) (h : ∀ r, (f r).owner = r.owner) :
    ∀ n ∈ onSlot slot f s.routes, n.owner = 7 := by
  intro n m
  obtain ⟨r, mr, e⟩ := List.mem_map.1 m
  subst e
  split
  · rw [h]; exact b.2.owners r mr
  · exact b.2.owners r mr

theorem retireSlot (b : s.Bare) (auto own : Bool) (slot : Nat) : (s.retireSlot auto own slot).Bare := by
  have close : (s.putRoutes (Machine.onSlot slot Route.close s.routes)).Bare :=
    b.putRoutes _ (b.onSlot slot _ (fun r => r.close_keeps.owner))
  have marked : ∀ c : Bool, (if c then (s.putRoutes (Machine.onSlot slot Route.close s.routes)).markSlots (slotBit slot)
      else s.putRoutes (Machine.onSlot slot Route.close s.routes)).Bare := fun c => by
    split
    · exact close.route (State.markSlots_frame _ _)
    · exact close
  unfold State.retireSlot
  split
  · exact b
  · split
    · exact b
    · exact b.removeRoute _ _
    · exact b.removeRoute _ _
    · dsimp only
      split
      · exact (marked auto).removeRoute _ _
      · exact marked auto

theorem folded {α : Type} (f : State → α → State) (h : ∀ (t : State) (a : α), t.Bare → (f t a).Bare) (xs : List α)
    (b : s.Bare) : (xs.foldl f s).Bare := by
  induction xs generalizing s with
  | nil => exact b
  | cons a as ih => exact ih (h s a b)

theorem retireSlots (b : s.Bare) (auto own : Bool) (slots : List Nat) : (s.retireSlots auto own slots).Bare :=
  (b.folded _ (fun _ k c => c.retireSlot auto own k) slots).route (State.rerunAll_frame _ _)

theorem rampStepSlot (b : s.Bare) (slot : Nat) : (s.rampStepSlot slot).Bare := by
  have stepped : (s.putRoutes (Machine.onSlot slot Route.rampStep s.routes)).Bare :=
    b.putRoutes _ (b.onSlot slot _ (fun r => r.rampStep_keeps.owner))
  unfold State.rampStepSlot
  split
  · exact b
  · split
    · dsimp only
      split
      · exact (stepped.removeRoute _ _).route (State.rerun_frame _ _)
      · exact stepped
    · exact b

theorem openRoute (b : s.Bare) (r : Route) (h : r.owner = 7) : (s.openRoute r).Bare := by
  have placed : { s with routes := insertRoute (s.firstEntry r) s.routes }.Bare := by
    refine b.of rfl (fun n m => ?_) rfl ⟨rfl, rfl, rfl⟩ rfl ⟨rfl, rfl⟩
    rcases (mem_insertRoute _ _ _).1 m with rfl | m
    · exact (s.firstEntry_keeps r).owner.trans h
    · exact b.2.owners n m
  unfold State.openRoute
  dsimp only
  split
  · exact (placed.route (State.referenceChange_frame _)).route (State.rerun_frame _ _)
  · exact placed.route (State.rerun_frame _ _)

theorem openAlert (b : s.Bare) (i : Fin 4) (z : Zone) (pattern : Nat) (level : Int) :
    (s.openAlert i z pattern level).1.Bare := by
  unfold State.openAlert
  split
  · exact b.route (State.raise_frame _ _)
  · exact ((b.openRoute _ rfl).route (State.markSlots_frame _ _)).route (State.raise_frame _ _)

theorem assertLine (b : s.Bare) (i : Fin 4) : (s.assertLine i).Bare := by
  unfold State.assertLine
  dsimp only
  split
  · refine folded _ (fun t z c => ?_) _ (b.rest rfl rfl rfl ⟨rfl, rfl, rfl⟩ rfl ⟨rfl, rfl⟩)
    exact (c.openAlert i z _ _).rest rfl rfl rfl ⟨rfl, rfl, rfl⟩ rfl ⟨rfl, rfl⟩
  · exact b.rest rfl rfl rfl ⟨rfl, rfl, rfl⟩ rfl ⟨rfl, rfl⟩

theorem lineDebounceExpiry (b : s.Bare) (i : Fin 4) : (s.lineDebounceExpiry i).Bare := by
  unfold State.lineDebounceExpiry
  split
  · split
    · exact (b.retireSlots true false _).rest rfl rfl rfl ⟨rfl, rfl, rfl⟩ rfl ⟨rfl, rfl⟩
    · exact b.assertLine i
  · exact b

theorem alertCut (b : s.Bare) (slot : Nat) : (s.alertCut slot).Bare := by
  have cut : { s with routes := Machine.onSlot slot (fun r => { r with cut := true }) s.routes }.Bare :=
    b.of rfl (b.onSlot slot _ (fun _ => rfl)) rfl ⟨rfl, rfl, rfl⟩ rfl ⟨rfl, rfl⟩
  unfold State.alertCut
  split
  · exact b
  · split
    · have raised := (cut.retireSlots true false [slot]).route (State.raise_frame _ .alertCut)
      dsimp only
      split
      · exact raised.rest rfl rfl rfl ⟨rfl, rfl, rfl⟩ rfl ⟨rfl, rfl⟩
      · exact raised
    · exact b

theorem tonePatternEnd (b : s.Bare) (slot : Nat) : (s.tonePatternEnd slot).Bare := by
  have ended : { s with routes := Machine.onSlot slot (fun r => { r with play := none }) s.routes }.Bare :=
    b.of rfl (b.onSlot slot _ (fun _ => rfl)) rfl ⟨rfl, rfl, rfl⟩ rfl ⟨rfl, rfl⟩
  unfold State.tonePatternEnd
  split
  · exact b
  · split
    · split
      · exact b
      · exact ended.retireSlots _ _ _
    · exact b

end State.Bare

end Sys2Proof.Machine
end

-- ==== support and settled obligations, part 10 ====
section
/-! SUPPORT. What the commands of a part in QUIET leave standing, and the invariant of QUIET. -/

namespace Sys2Proof.Machine

/-- Work that stays in the supervision state and keeps a bare QUIET bare. -/
structure KeepsBare (s t : State) : Prop where
  sup : t.sup.state = s.sup.state
  bare : s.Bare → t.Bare

namespace KeepsBare

variable {s t u : State}

theorem trans (h : KeepsBare s t) (k : KeepsBare t u) : KeepsBare s u := ⟨k.sup.trans h.sup, fun b => k.bare (h.bare b)⟩

theorem refl (s : State) : KeepsBare s s := ⟨rfl, id⟩

/-- Settings changed that QUIET does not name. -/
theorem rest (sup : t.sup.state = s.sup.state) (routes : t.routes = s.routes) (tuners : t.tuners = s.tuners)
    (stations : t.stations.inUse = s.stations.inUse ∧ t.stations.watch = s.stations.watch ∧
      t.stations.announcing = s.stations.announcing)
    (legs : t.calls.legs = s.calls.legs) (phone : t.phone.link = s.phone.link ∧ t.phone.silence = s.phone.silence) :
    KeepsBare s t :=
  ⟨sup, fun b => b.rest sup routes tuners stations legs phone⟩

theorem route (f : RouteFrame s t) : KeepsBare s t := ⟨by rw [f.sup], fun b => b.route f⟩

theorem volume (f : VolumeFrame s t) : KeepsBare s t := ⟨by rw [f.frame.rest], fun b => b.volume f⟩

/-- Work that does nothing where the tuners are FREE. -/
theorem idle (h : Upholds True s t) (k : s.Bare → t = s) : KeepsBare s t :=
  ⟨h.settings.sup, fun b => by rw [k b]; exact b⟩

theorem work (h : Upholds True s t) (k : s.Bare → t.Bare) : KeepsBare s t := ⟨h.settings.sup, k⟩

theorem query {a : Answer} (h : a.state = s) : KeepsBare s a.state := by rw [h]; exact .refl s

/-- Work after other work. -/
theorem arbitrated (h : KeepsBare s t) : KeepsBare s t.arbitrate :=
  h.trans (.idle t.arbitrate_upholds (fun b => b.arbitrate))

end KeepsBare

/-! ## Requests -/

theorem routeRetire_keepsBare (client : Byte) (p : List Byte) (s : State) :
    KeepsBare s (routeRetire client p s).state := by
  unfold routeRetire
  split
  · exact .refl s
  · split
    · exact .refl s
    · exact KeepsBare.arbitrated (.work (s.retireSlots_upholds _ _ _) (fun b => b.retireSlots _ _ _))

theorem retireOwner_keepsBare (client : Byte) (p : List Byte) (s : State) :
    KeepsBare s (retireOwner client p s).state := by
  unfold retireOwner
  split
  · exact .refl s
  · split
    · exact .refl s
    · exact KeepsBare.arbitrated (.work (s.retireSlots_upholds _ _ _) (fun b => b.retireSlots _ _ _))

theorem zoneVolume_keepsBare (p : List Byte) (s : State) : KeepsBare s (zoneVolume p s).state := by
  unfold zoneVolume
  split
  · exact .refl s
  · split
    · exact .volume (s.setVolumeAndFollow_frame _ _)
    · exact .volume (s.setVolumeAndFollow_frame _ _)
    · exact .refl s

theorem zoneBalance_keepsBare (p : List Byte) (s : State) : KeepsBare s (zoneBalance p s).state := by
  unfold zoneBalance
  split
  · exact .refl s
  · dsimp only
    split
    · exact .rest rfl rfl rfl ⟨rfl, rfl, rfl⟩ rfl ⟨rfl, rfl⟩
    · exact .rest rfl rfl rfl ⟨rfl, rfl, rfl⟩ rfl ⟨rfl, rfl⟩
    · exact .refl s

theorem duckDepths_keepsBare (client : Byte) (p : List Byte) (s : State) :
    KeepsBare s (duckDepths client p s).state := by
  unfold duckDepths
  split
  · exact .refl s
  · split
    · exact .refl s
    · dsimp only
      refine KeepsBare.trans (t := { s with mixer.depths :=
          { alert := min 240 (u8At p 0), call := min 240 (u8At p 1), prompt := min 240 (u8At p 2) } })
        (.rest rfl rfl rfl ⟨rfl, rfl, rfl⟩ rfl ⟨rfl, rfl⟩) (.route (State.putRoutes_frame _ _ ?_))
      exact ((State.duckPass_each _ _ _).trans (State.duckPass_each _ _ _)).trans (State.duckPass_each _ _ _)

theorem temperature_keepsBare (p : List Byte) (s : State) : KeepsBare s (temperature p s).state := by
  unfold temperature
  split
  · exact .refl s
  · exact .rest rfl rfl rfl ⟨rfl, rfl, rfl⟩ rfl ⟨rfl, rfl⟩

theorem derateSet_keepsBare (client : Byte) (p : List Byte) (s : State) : KeepsBare s (derateSet client p s).state := by
  unfold derateSet
  split
  · exact .refl s
  · split
    · exact .refl s
    · exact .rest rfl rfl rfl ⟨rfl, rfl, rfl⟩ rfl ⟨rfl, rfl⟩

/-- A policy on a part without a pairing is put in force and changes nothing else (R85). -/
theorem State.setPolicy_unpaired {s : State} (h : s.tuners.link = .none) (q : TunerPolicy) :
    s.setPolicy q = { s with tuners.policy := q } := by
  unfold State.setPolicy
  dsimp only
  rw [h]
  rfl

theorem State.setPolicy_keepsBare (s : State) (q : TunerPolicy) : KeepsBare s (s.setPolicy q) := by
  refine ⟨congrArg Supervision.state (s.setPolicy_frame q).sup, fun b => ?_⟩
  rw [State.setPolicy_unpaired b.2.pairing.1]
  exact ⟨b.1, b.2.owners, b.2.tuners, b.2.pairing, b.2.stations, b.2.legs, b.2.link⟩

theorem tunerPolicy_keepsBare (client : Byte) (p : List Byte) (s : State) :
    KeepsBare s (tunerPolicy client p s).state := by
  unfold tunerPolicy
  split
  · exact .refl s
  · split
    · exact .refl s
    · split
      · exact .refl s
      · exact (s.setPolicy_keepsBare _).arbitrated

theorem State.Bare.watchSet {s : State} (b : s.Bare) (w : Option Nat) : { s with tuners.watch := w }.Bare :=
  ⟨b.1, b.2.owners, b.2.tuners, b.2.pairing, b.2.stations, b.2.legs, b.2.link⟩

theorem State.Bare.endWatch {s : State} (b : s.Bare) : s.endWatch.Bare := by
  have none : s.watchTuner = none := by
    unfold State.watchTuner
    rw [b.2.tuners.1, b.2.tuners.2]
    rfl
  unfold State.endWatch
  rw [none]
  exact b.watchSet _

theorem State.Bare.takeWatch {s : State} (b : s.Bare) (f : Nat) : (s.takeWatch f).Bare := by
  unfold State.takeWatch
  dsimp only
  rw [if_pos b.1]
  exact b.watchSet _

theorem State.setWatch_keepsBare (s : State) (w : Option Nat) : KeepsBare s (s.setWatch w) := by
  refine .work (s.setWatch_upholds w) (fun b => ?_)
  unfold State.setWatch
  split
  · exact b
  · split
    · rw [b.endWatch.arbitrate]; exact b.endWatch
    · rw [(b.endWatch.takeWatch _).arbitrate]; exact b.endWatch.takeWatch _

theorem trafficWatch_keepsBare (client : Byte) (p : List Byte) (s : State) :
    KeepsBare s (trafficWatch client p s).state := by
  unfold trafficWatch
  split
  · exact .refl s
  · split
    · exact .refl s
    · exact s.setWatch_keepsBare _

theorem qualityLimits_keepsBare (client : Byte) (p : List Byte) (s : State) :
    KeepsBare s (qualityLimits client p s).state := by
  unfold qualityLimits
  split
  · exact .refl s
  · split
    · exact .refl s
    · exact ⟨rfl, fun b => ⟨b.1, b.2.owners, b.2.tuners, b.2.pairing, b.2.stations, b.2.legs, b.2.link⟩⟩

theorem stationPin_keepsBare (p : List Byte) (s : State) : KeepsBare s (stationPin p s).state := by
  unfold stationPin
  split
  · exact .refl s
  · split
    · exact .refl s
    · exact .rest rfl rfl rfl ⟨rfl, rfl, rfl⟩ rfl ⟨rfl, rfl⟩

theorem stationForget_keepsBare (p : List Byte) (s : State) : KeepsBare s (stationForget p s).state := by
  unfold stationForget
  split
  · exact .refl s
  · split
    · exact .refl s
    · split
      · exact .refl s
      · exact .rest rfl rfl rfl ⟨rfl, rfl, rfl⟩ rfl ⟨rfl, rfl⟩

theorem State.giveCode_keepsBare (s : State) (f c : Nat) : KeepsBare s (s.giveCode f c) := by
  refine .work (s.giveCode_upholds f c) (fun b => ?_)
  unfold State.giveCode
  split
  · exact b
  · unfold State.applyCode
    split
    · exact b
    · split
      · exact b
      · have coded : { s with stations := s.stations.update f (Station.withCode c) }.Bare :=
          b.rest rfl rfl rfl ⟨rfl, rfl, rfl⟩ rfl ⟨rfl, rfl⟩
        dsimp only
        rw [coded.notifyCode, coded.followCode, coded.followCode, coded.holdStreak, coded.holdStreak]
        exact coded

theorem stationAdd_keepsBare (p : List Byte) (s : State) : KeepsBare s (stationAdd p s).state := by
  unfold stationAdd
  split
  · exact .refl s
  · dsimp only
    split
    · refine KeepsBare.arbitrated ?_
      unfold State.addToExisting
      refine KeepsBare.trans ?_ (State.giveCode_keepsBare _ _ _)
      split
      · exact .rest rfl rfl rfl ⟨rfl, rfl, rfl⟩ rfl ⟨rfl, rfl⟩
      · exact .refl s
    · split
      · exact .refl s
      · refine KeepsBare.arbitrated (KeepsBare.trans ?_ (State.giveCode_keepsBare _ _ _))
        exact .rest rfl rfl rfl ⟨rfl, rfl, rfl⟩ rfl ⟨rfl, rfl⟩

theorem stationAging_keepsBare (client : Byte) (p : List Byte) (s : State) :
    KeepsBare s (stationAging client p s).state := by
  unfold stationAging
  split
  · exact .refl s
  · split
    · exact .refl s
    · exact .rest rfl rfl rfl ⟨rfl, rfl, rfl⟩ rfl ⟨rfl, rfl⟩

theorem announceFollow_keepsBare (client : Byte) (p : List Byte) (s : State) :
    KeepsBare s (announceFollow client p s).state := by
  unfold announceFollow
  split
  · exact .refl s
  · split
    · exact .refl s
    · exact .rest rfl rfl rfl ⟨rfl, rfl, rfl⟩ rfl ⟨rfl, rfl⟩

theorem State.setCap_keepsBare (s : State) (z : Zone) (cap : Nat) : KeepsBare s (s.setCap z cap) := by
  have capped : KeepsBare s { s with mixer := s.mixer.setZone z { s.mixer.zone z with cap := cap } } :=
    .rest rfl rfl rfl ⟨rfl, rfl, rfl⟩ rfl ⟨rfl, rfl⟩
  unfold State.setCap
  dsimp only
  split
  · exact capped.trans (.volume (State.setVolume_frame _ _ _))
  · exact capped

theorem hpCap_keepsBare (client : Byte) (p : List Byte) (s : State) : KeepsBare s (hpCap client p s).state := by
  unfold hpCap
  split
  · exact .refl s
  · split
    · exact .refl s
    · exact s.setCap_keepsBare _ _

theorem hpFollow_keepsBare (p : List Byte) (s : State) : KeepsBare s (hpFollow p s).state := by
  unfold hpFollow
  split
  · exact .refl s
  · exact .rest rfl rfl rfl ⟨rfl, rfl, rfl⟩ rfl ⟨rfl, rfl⟩

theorem rearLock_keepsBare (client : Byte) (p : List Byte) (s : State) : KeepsBare s (rearLock client p s).state := by
  unfold rearLock
  split
  · exact .refl s
  · split
    · exact .refl s
    · exact .rest rfl rfl rfl ⟨rfl, rfl, rfl⟩ rfl ⟨rfl, rfl⟩

theorem phoneAdvertise_keepsBare (client : Byte) (p : List Byte) (s : State) :
    KeepsBare s (phoneAdvertise client p s).state := by
  unfold phoneAdvertise
  split
  · exact .refl s
  · split
    · exact .refl s
    · exact .rest rfl rfl rfl ⟨rfl, rfl, rfl⟩ rfl ⟨rfl, rfl⟩

/-- In QUIET no leg is there to be named (R166). -/
theorem State.Bare.namedLeg {s : State} (b : s.Bare) (client : Byte) (p : List Byte) :
    ∃ e, s.namedLeg client p = .error e := by
  unfold State.namedLeg
  split
  · exact ⟨_, rfl⟩
  · have none : s.leg (u8At p 0) (p.getD 1 0) = none := by
      unfold State.leg
      rw [b.2.legs]
      rfl
    rw [none]
    exact ⟨_, rfl⟩

theorem LegFrame.sup {s t : State} (h : LegFrame s t) : t.sup = s.sup := h.frame.sup

theorem legState_keepsBare (client : Byte) (p : List Byte) (s : State) : KeepsBare s (legState client p s).state := by
  refine ⟨congrArg Supervision.state (legState_frame client p s).sup, fun b => ?_⟩
  obtain ⟨e, none⟩ := b.namedLeg client p
  unfold legState
  rw [none]
  split <;> exact b

theorem legSeats_keepsBare (client : Byte) (p : List Byte) (s : State) : KeepsBare s (legSeats client p s).state := by
  refine ⟨congrArg Supervision.state (legSeats_frame client p s).sup, fun b => ?_⟩
  obtain ⟨e, none⟩ := b.namedLeg client p
  unfold legSeats
  rw [none]
  split <;> exact b

theorem legUplink_keepsBare (client : Byte) (p : List Byte) (s : State) : KeepsBare s (legUplink client p s).state := by
  refine ⟨congrArg Supervision.state (legUplink_frame client p s).sup, fun b => ?_⟩
  obtain ⟨e, none⟩ := b.namedLeg client p
  unfold legUplink
  rw [none]
  split <;> exact b

theorem legClose_keepsBare (client : Byte) (p : List Byte) (s : State) : KeepsBare s (legClose client p s).state := by
  refine ⟨?_, fun b => ?_⟩
  · unfold legClose
    split
    · rfl
    · split
      · rfl
      · exact ((s.closeLeg_upholds (l := True) _).trans (State.arbitrate_upholds _)).settings.sup
  · obtain ⟨e, none⟩ := b.namedLeg client p
    unfold legClose
    rw [none]
    split <;> exact b

theorem echoTarget_keepsBare (client : Byte) (p : List Byte) (s : State) :
    KeepsBare s (echoTarget client p s).state := by
  unfold echoTarget
  split
  · exact .refl s
  · split
    · exact .refl s
    · exact .rest rfl rfl rfl ⟨rfl, rfl, rfl⟩ rfl ⟨rfl, rfl⟩

theorem alertLimits_keepsBare (client : Byte) (p : List Byte) (s : State) :
    KeepsBare s (alertLimits client p s).state := by
  unfold alertLimits
  split
  · exact .refl s
  · split
    · exact .refl s
    · refine KeepsBare.trans ?_ (.route (State.retargetWhere_frame _ _ _))
      exact .rest rfl rfl rfl ⟨rfl, rfl, rfl⟩ rfl ⟨rfl, rfl⟩

theorem setWatchdog_keepsBare (client : Byte) (p : List Byte) (s : State) :
    KeepsBare s (setWatchdog client p s).state := by
  unfold setWatchdog
  split
  · exact .refl s
  · split
    · exact .refl s
    · exact .rest rfl rfl rfl ⟨rfl, rfl, rfl⟩ rfl ⟨rfl, rfl⟩

theorem eventFetch_keepsBare (p : List Byte) (s : State) : KeepsBare s (eventFetch p s).state := by
  unfold eventFetch
  split
  · exact .refl s
  · exact .rest rfl rfl rfl ⟨rfl, rfl, rfl⟩ rfl ⟨rfl, rfl⟩

theorem eventRouting_keepsBare (client : Byte) (p : List Byte) (s : State) :
    KeepsBare s (eventRouting client p s).state := by
  unfold eventRouting
  split
  · exact .refl s
  · split
    · exact .refl s
    · exact .rest rfl rfl rfl ⟨rfl, rfl, rfl⟩ rfl ⟨rfl, rfl⟩

theorem storeWrite_keepsBare (client : Byte) (p : List Byte) (s : State) :
    KeepsBare s (storeWrite client p s).state := by
  unfold storeWrite
  split
  · exact .refl s
  · split
    · exact .refl s
    · split
      · exact .refl s
      · split
        · exact .refl s
        · exact .rest rfl rfl rfl ⟨rfl, rfl, rfl⟩ rfl ⟨rfl, rfl⟩

theorem partReset_keepsBare (client : Byte) (p : List Byte) (s : State) : KeepsBare s (partReset client p s).state := by
  unfold partReset
  split
  · exact .refl s
  · split
    · exact .refl s
    · exact .rest rfl rfl rfl ⟨rfl, rfl, rfl⟩ rfl ⟨rfl, rfl⟩

/-! ## The phone port -/

/-- The phone port's record replaced by one whose link is DOWN: a link that was UP tells the legs' routes (R132). -/
theorem State.Bare.setPhone {s : State} {p : Phone} (b : { s with phone := p }.Bare) : (s.setPhone p).Bare := by
  have down : p.link = .down := b.2.link.1
  have raised : ∀ c, (State.raiseIf { s with phone := p } c .phoneLink).Bare := fun c => b.route (State.raiseIf_frame _ _ _)
  unfold State.setPhone
  dsimp only
  split
  · rename_i up; simp [down] at up
  · split
    · have told : ∀ t : State, t.Bare → t.callsLinkDown.routesLink.arbitrate.Bare := fun t c => by
        have d := (c.route t.callsLinkDown_frame).route (State.routesLink_frame _)
        rw [d.arbitrate]; exact d
      have told' : ∀ t : State, t.Bare → t.routesLink.callsLinkDown.arbitrate.Bare := fun t c => by
        have d := (c.route t.routesLink_frame).route (State.callsLinkDown_frame _)
        rw [d.arbitrate]; exact d
      unfold State.noticeNotUp State.eitherOrder
      dsimp only
      split
      · exact told _ ((raised _).rest rfl rfl rfl ⟨rfl, rfl, rfl⟩ rfl ⟨rfl, rfl⟩)
      · exact told' _ ((raised _).rest rfl rfl rfl ⟨rfl, rfl, rfl⟩ rfl ⟨rfl, rfl⟩)
    · exact raised _

theorem State.setPhone_keepsBare (s : State) (p : Phone)
    (h : s.sup.state = .quiet → s.phone.link = .down ∧ s.phone.silence = none → p.link = .down ∧ p.silence = none) :
    KeepsBare s (s.setPhone p) := by
  refine .work (s.setPhone_upholds p) (fun b => State.Bare.setPhone ?_)
  exact ⟨b.1, b.2.owners, b.2.tuners, b.2.pairing, b.2.stations, b.2.legs, h b.1 b.2.link⟩

theorem Phone.clockPresent_down {p : Phone} (h : p.link = .down ∧ p.silence = none) :
    (p.clockPresent true).link = .down ∧ (p.clockPresent true).silence = none := by
  unfold Phone.clockPresent
  simp [h]

theorem Phone.clockAbsent_down {p : Phone} (h : p.link = .down ∧ p.silence = none) :
    p.clockAbsent.link = .down ∧ p.clockAbsent.silence = none := by
  unfold Phone.clockAbsent
  simp [h]

theorem Phone.spanEnd_down {p : Phone} (h : p.link = .down ∧ p.silence = none) (rate : Nat) :
    (p.spanEnd rate).link = .down ∧ (p.spanEnd rate).silence = none := by
  obtain ⟨link, silence⟩ := h
  unfold Phone.spanEnd
  extract_lets c q
  split
  · exact ⟨link, silence⟩
  · rw [link]
    exact ⟨link, silence⟩

theorem Phone.word_down {p : Phone} (h : p.link = .down) (w : ControlWord) : p.word w = p := by
  unfold Phone.word
  rw [h]

/-! ## Events -/

theorem State.tunerEvent_keepsBare {s t : State} (u : Upholds True s t) (h : (∀ x, s.tuner x = .free) → t = s) :
    KeepsBare s t := .idle u (fun b => h b.tuner)

theorem State.acquisitionSettle_keepsBare (s : State) (x : TunerId) : KeepsBare s (s.acquisitionSettle x) := by
  refine tunerEvent_keepsBare (s.acquisitionSettle_upholds x) (fun free => ?_)
  unfold State.acquisitionSettle
  rw [free x]
  rfl

theorem State.programMeasurement_keepsBare (s : State) (x : TunerId) (f m : Nat) :
    KeepsBare s (s.programMeasurement x f m) := by
  refine tunerEvent_keepsBare (s.programMeasurement_upholds x f m) (fun free => ?_)
  unfold State.programMeasurement
  rw [free x]
  rfl

theorem State.dataItem_keepsBare (s : State) (x : TunerId) (i : DataItem) : KeepsBare s (s.dataItem x i) := by
  refine tunerEvent_keepsBare (s.dataItem_upholds x i) (fun free => ?_)
  unfold State.dataItem
  rw [free x]
  rfl

theorem State.scanStepBegin_keepsBare (s : State) (x : TunerId) : KeepsBare s (s.scanStepBegin x) := by
  refine .idle (.ofTuner (s.scanStepBegin_frame x) (by simp)) (fun b => ?_)
  unfold State.scanStepBegin State.mayScan
  rw [b.1]
  simp

theorem State.scanMeasurement_keepsBare (s : State) (x : TunerId) (f m : Nat) : KeepsBare s (s.scanMeasurement x f m) := by
  refine tunerEvent_keepsBare (.ofTuner (s.scanMeasurement_frame x f m) (by simp)) (fun free => ?_)
  unfold State.scanMeasurement
  rw [free x]
  rfl

theorem State.scanStepComplete_keepsBare (s : State) (x : TunerId) : KeepsBare s (s.scanStepComplete x) := by
  refine tunerEvent_keepsBare (s.scanStepComplete_upholds x) (fun free => ?_)
  unfold State.scanStepComplete
  rw [free x]
  rfl

theorem State.scanIntervalExpiry_keepsBare (s : State) : KeepsBare s s.scanIntervalExpiry := by
  refine .idle (.ofTuner s.scanIntervalExpiry_frame (by simp)) (fun b => ?_)
  unfold State.scanIntervalExpiry
  rw [b.2.pairing.1]
  rfl

theorem State.afCheckMeasurement_keepsBare (s : State) (x : TunerId) (f m : Nat) :
    KeepsBare s (s.afCheckMeasurement x f m) := by
  refine tunerEvent_keepsBare (.ofTuner (s.afCheckMeasurement_frame x f m) (by simp)) (fun free => ?_)
  unfold State.afCheckMeasurement
  rw [free x]
  rfl

theorem State.afCheckEnd_keepsBare (s : State) (x : TunerId) (code : Option (BitVec 16)) :
    KeepsBare s (s.afCheckEnd x code) := by
  refine tunerEvent_keepsBare (s.afCheckEnd_upholds x code) (fun free => ?_)
  unfold State.afCheckEnd
  dsimp only
  rw [free x]
  rfl

theorem State.retuneSettle_keepsBare (s : State) (x : TunerId) : KeepsBare s (s.retuneSettle x) := by
  refine tunerEvent_keepsBare (s.retuneSettle_upholds x) (fun free => ?_)
  unfold State.retuneSettle
  dsimp only
  rw [free x]
  rfl

theorem State.selfAfJumpEnd_keepsBare (s : State) (x : TunerId) (f m : Nat) : KeepsBare s (s.selfAfJumpEnd x f m) := by
  refine tunerEvent_keepsBare (s.selfAfJumpEnd_upholds x f m) (fun free => ?_)
  unfold State.selfAfJumpEnd
  dsimp only
  rw [free x]
  rfl

theorem State.afConfirmTimeout_keepsBare (s : State) (x : TunerId) : KeepsBare s (s.afConfirmTimeout x) := by
  refine tunerEvent_keepsBare (s.afConfirmTimeout_upholds x) (fun free => ?_)
  unfold State.afConfirmTimeout
  rw [free x]
  rfl

theorem State.thermalReading_keepsBare (s : State) (sensor : Int) : KeepsBare s (s.thermalReading sensor) :=
  KeepsBare.trans (t := { s with thermal := s.thermal.taken sensor }) (.rest rfl rfl rfl ⟨rfl, rfl, rfl⟩ rfl ⟨rfl, rfl⟩)
    (.route (s.thermalReading_frame sensor))

theorem State.hpDetChange_keepsBare (s : State) (o : HpOut) (level : Bool) : KeepsBare s (s.hpDetChange o level) := by
  unfold State.hpDetChange
  split
  · exact .refl s
  · dsimp only
    split
    · exact .rest (by simp) (by simp) (by simp) (by simp) (by simp) (by simp)
    · exact .rest (by simp) (by simp) (by simp) (by simp) (by simp) (by simp)

theorem State.jackChange_keepsBare (s : State) (o : HpOut) : KeepsBare s (s.jackChange o) := by
  unfold State.jackChange
  dsimp only
  refine KeepsBare.arbitrated (KeepsBare.trans (KeepsBare.trans ?_ (.route (State.notice_frame _ _ _ (State.refresh_evolves _))))
    (.route (State.raise_frame _ _)))
  have set : KeepsBare s (s.setJack o { present := !(s.jack o).present, timer := none }) :=
    .rest (by simp) (by simp) (by simp) (by simp) (by simp) (by simp)
  split
  · refine set.trans ?_
    unfold State.safeStart
    split
    · exact .volume (State.setVolume_frame _ _ _)
    · exact .refl _
  · exact set

theorem State.hpDebounceExpiry_keepsBare (s : State) (o : HpOut) : KeepsBare s (s.hpDebounceExpiry o) := by
  unfold State.hpDebounceExpiry
  split
  · exact s.jackChange_keepsBare o
  · exact .refl s

theorem State.alertInChange_keepsBare (s : State) (i : Fin 4) (level : Bool) : KeepsBare s (s.alertInChange i level) := by
  unfold State.alertInChange
  split
  · exact .refl s
  · dsimp only
    split
    · exact .rest rfl rfl rfl ⟨rfl, rfl, rfl⟩ rfl ⟨rfl, rfl⟩
    · exact .rest rfl rfl rfl ⟨rfl, rfl, rfl⟩ rfl ⟨rfl, rfl⟩

theorem State.micCheckEnd_keepsBare (s : State) (x : Seat) (power : Int) : KeepsBare s (s.micCheckEnd x power) := by
  unfold State.micCheckEnd
  dsimp only
  split
  · split
    · exact .rest rfl rfl rfl ⟨rfl, rfl, rfl⟩ rfl ⟨rfl, rfl⟩
    · exact .rest rfl rfl rfl ⟨rfl, rfl, rfl⟩ rfl ⟨rfl, rfl⟩
  · exact .refl s

theorem State.echoWindowEnd_keepsBare (s : State) (x : Seat) (d : Int) (m r : Nat) :
    KeepsBare s (s.echoWindowEnd x d m r) := by
  unfold State.echoWindowEnd
  dsimp only
  split
  · exact KeepsBare.trans (t := s.setMic x _) (.rest rfl rfl rfl ⟨rfl, rfl, rfl⟩ rfl ⟨rfl, rfl⟩)
      (.route (State.raiseIf_frame _ _ _))
  · exact .refl s

theorem State.storeWriteEnd_keepsBare (s : State) : KeepsBare s s.storeWriteEnd := by
  unfold State.storeWriteEnd
  split
  · exact .refl s
  · exact .rest rfl rfl rfl ⟨rfl, rfl, rfl⟩ rfl ⟨rfl, rfl⟩

theorem State.tick_keepsBare (s : State) : KeepsBare s s.tick := by
  unfold State.tick
  split
  · exact .refl s
  · refine ⟨rfl, fun b => ⟨b.1, ?_, b.2.tuners, b.2.pairing, b.2.stations, b.2.legs, ?_⟩⟩
    · intro n m
      obtain ⟨r, mr, rfl⟩ := List.mem_map.1 m
      exact b.2.owners r mr
    · unfold Phone.framesOn
      obtain ⟨link, silence⟩ := b.2.link
      split
      · exact ⟨link, by dsimp only; rw [silence]; rfl⟩
      · exact ⟨link, by dsimp only; rw [silence]; rfl⟩

end Sys2Proof.Machine
end

-- ==== support and settled obligations, part 11 ====
section
/-! SUPPORT. The entry into QUIET, and the invariant of QUIET over every command. -/

namespace Sys2Proof.Machine

/-! ## The entry into QUIET (R166) -/

/-- What removals make of the table: no route is new. -/
def StaysFrom (rs ns : List Route) : Prop := ∀ n ∈ ns, ∃ r ∈ rs, r.Same n

theorem StaysFrom.refl (rs : List Route) : StaysFrom rs rs := fun r m => ⟨r, m, .refl r⟩

theorem StaysFrom.trans {a b c : List Route} (h : StaysFrom a b) (k : StaysFrom b c) : StaysFrom a c := by
  intro n m
  obtain ⟨r, mr, e⟩ := k n m
  obtain ⟨q, mq, f⟩ := h r mr
  exact ⟨q, mq, f.trans e⟩

theorem StaysFrom.each {st : SupState} {floor : Int} {rs ns : List Route} (e : Each st floor rs ns) : StaysFrom rs ns :=
  e.forall (fun r => r ∈ rs) (fun n => ∃ r ∈ rs, r.Same n) (fun r _ v m => ⟨r, m, v.same⟩) (fun _ m => m)

theorem State.removeRoute_staysFrom (s : State) (slot : Nat) (mark : Bool) :
    StaysFrom s.routes (s.removeRoute slot mark).routes := by
  cases h : s.routeIn slot with
  | none =>
    unfold State.removeRoute
    rw [h]
    exact .refl _
  | some r =>
    rw [s.removeRoute_routes h]
    intro n m
    obtain ⟨x, mx, -, e⟩ := withoutRoute_mem m
    exact ⟨x, mx, by rw [e]; exact ⟨rfl, rfl, rfl, rfl, rfl, rfl, rfl⟩⟩

/-- A slot is empty once the route in it is removed (R14). -/
theorem State.removeRoute_empties (s : State) (slot : Nat) (mark : Bool) :
    ∀ n ∈ (s.removeRoute slot mark).routes, n.slot ≠ slot := by
  cases h : s.routeIn slot with
  | none =>
    unfold State.removeRoute
    rw [h]
    exact fun n m => by simpa using List.find?_eq_none.1 h n m
  | some r =>
    obtain ⟨-, e⟩ := s.routeIn_mem h
    rw [s.removeRoute_routes h]
    intro n m
    obtain ⟨x, -, ne, f⟩ := withoutRoute_mem m
    rw [f, ← e]
    exact ne

/-- Removals of the routes of some slots: what is left stood before, in other slots. -/
theorem State.removeSlots_routes (slots : List Nat) (s : State) :
    StaysFrom s.routes (slots.foldl (fun u k => u.removeRoute k true) s).routes ∧
      ∀ n ∈ (slots.foldl (fun u k => u.removeRoute k true) s).routes, n.slot ∉ slots := by
  induction slots generalizing s with
  | nil => exact ⟨.refl _, fun _ _ => by simp⟩
  | cons k ks ih =>
    obtain ⟨from', out⟩ := ih (s.removeRoute k true)
    refine ⟨(s.removeRoute_staysFrom k true).trans from', fun n m => ?_⟩
    obtain ⟨r, mr, same⟩ := from' n m
    have away := s.removeRoute_empties k true r mr
    rw [← same.1] at away
    rw [List.mem_cons, not_or]
    exact ⟨away, out n m⟩

/-- After the forced removals of QUIET entry only direct lines' routes are left (R31). -/
theorem State.forceRemovals_owners (s : State) : ∀ n ∈ s.forceRemovals.routes, n.owner = 7 := by
  let gone := s.routes.filter (fun r => !s.keptInQuiet r)
  let t := (gone.map (fun r => r.slot)).foldl (fun u k => u.removeRoute k true) s
  let u := if gone.any (fun r => r.zone.domain = .cabinGroup && r.state.sounding) then t.referenceChange else t
  have same : u.routes = t.routes := by
    show (if _ then _ else _ : State).routes = _
    split
    · simp [State.referenceChange]
    · rfl
  have left := State.removeSlots_routes (gone.map (fun r => r.slot)) s
  intro n m
  have f := StaysFrom.each (u.rerunAll_frame [.cabinGroup, .hp1, .hp2]).each
  rw [same] at f
  obtain ⟨x, mx, sx⟩ := f n m
  obtain ⟨r, mr, sr⟩ := left.1 x mx
  have out := left.2 x mx
  have kept : s.keptInQuiet r = true := by
    by_contra not
    refine out (List.mem_map.2 ⟨r, List.mem_filter.2 ⟨mr, by simpa using not⟩, sr.1.symm⟩)
  have owner : r.owner = 7 := by
    unfold State.keptInQuiet at kept
    simp only [Bool.and_eq_true, decide_eq_true_eq] at kept
    exact kept.1
  obtain ⟨-, -, ox, -⟩ := sx
  obtain ⟨-, -, o, -⟩ := sr
  rw [ox, o, owner]

/-- Direct lines' routes and no leg: with tuners, stations, lines and port told of QUIET, the part is bare (R166). -/
theorem State.quieted_bare (u : State) (sup : u.sup.state = .quiet) (owners : ∀ n ∈ u.routes, n.owner = 7)
    (legs : u.calls.legs = []) :
    (State.setPhone { u.quietTuners.quietStations with lines := u.quietTuners.quietStations.lines.map Line.quieted }
      u.quietTuners.quietStations.phone.toDown).Bare := by
  have f := u.quietTuners_frame
  have tuned : u.quietTuners.sup.state = .quiet := by rw [f.sup, sup]
  have bareLegs : u.quietTuners.calls.legs = [] := f.legs.trans legs
  have routes : u.quietTuners.routes = u.routes := by simp
  refine State.Bare.setPhone ⟨tuned, ?_, ⟨rfl, rfl⟩, ⟨rfl, rfl⟩, ⟨rfl, rfl, rfl⟩, bareLegs, rfl, rfl⟩
  intro n m
  exact owners n (routes ▸ m)

/-- The entry into QUIET of a part without a leg leaves nothing but the routes of direct lines (R166). -/
theorem State.enterQuiet_bare (s : State) (h : s.calls.legs = []) : s.enterQuiet.Bare := by
  let t : State := { s with sup := { s.sup with state := .quiet, left := none } }
  have removed := t.forceRemovals_frame (fun _ => True) True stays_true
  have sup : t.forceRemovals.sup.state = .quiet := by rw [removed.sup]
  have bare := t.forceRemovals.quieted_bare sup t.forceRemovals_owners (removed.legs.trans h)
  exact bare

/-! ## Every command -/

/-- The law of QUIET, step by step. -/
def QuietLaw (s t : State) : Prop :=
  (s.sup.state = .quiet → s.QuietBare) → t.sup.state = .quiet → t.QuietBare

section
variable {s t u : State}

theorem KeepsBare.quietLaw (h : KeepsBare s t) : QuietLaw s t := by
  intro b q
  have quiet : s.sup.state = .quiet := h.sup.symm.trans q
  exact (h.bare ⟨quiet, b quiet⟩).2

/-- A command that leaves the part out of QUIET. -/
theorem quietLaw_of_out (h : t.sup.state ≠ .quiet) : QuietLaw s t := fun _ q => absurd q h

theorem quietLaw_of_next (h : (.next u : Host.Outcome State Fault Refusal) = .next t) (k : QuietLaw s u) :
    QuietLaw s t := by
  cases h
  exact k

theorem quietLaw_of_event (h : (.next (s.unlessHeld u) : Host.Outcome State Fault Refusal) = .next t)
    (k : QuietLaw s u) : QuietLaw s t := by
  refine quietLaw_of_next h ?_
  unfold State.unlessHeld
  split
  · exact id
  · exact k

theorem bare_of_event (h : (.next (s.unlessHeld u) : Host.Outcome State Fault Refusal) = .next t)
    (k : KeepsBare s u) : QuietLaw s t := quietLaw_of_event h k.quietLaw

theorem State.answered_keepsBare (s : State) (a b : List Byte) : KeepsBare s (s.answered a b) :=
  .rest rfl rfl rfl ⟨rfl, rfl, rfl⟩ rfl ⟨rfl, rfl⟩

theorem State.ignoreTransfer_keepsBare (s : State) (n : Nat) : KeepsBare s (s.ignoreTransfer n) :=
  .rest rfl rfl rfl ⟨rfl, rfl, rfl⟩ rfl ⟨rfl, rfl⟩

theorem State.validRequest_keepsBare (s : State) : KeepsBare s s.validRequest :=
  .rest (by simp) (by simp) (by simp) (by simp) (by simp) (by simp)

theorem State.watchdogAfter_keepsBare (s t : State) : KeepsBare t (s.watchdogAfter t) := by
  unfold State.watchdogAfter
  split
  · exact .refl t
  · exact t.validRequest_keepsBare

/-- A request keeps the law of QUIET where its owning block does in the states its checks let through (R172). -/
theorem quietLaw_of_request {k : Request} {client : Byte} {p : List Byte} {body : State → Answer}
    (h : (.next (s.request k client p body) : Host.Outcome State Fault Refusal) = .next t)
    (b : s.gate k client p = none → QuietLaw s (body s).state) : QuietLaw s t := by
  refine quietLaw_of_next h ?_
  unfold State.request
  dsimp only
  split
  · exact (s.ignoreTransfer_keepsBare _).quietLaw
  · split
    · exact (s.answered_keepsBare _ _).quietLaw
    · split
      · exact (s.validRequest_keepsBare.trans (State.answered_keepsBare _ _ _)).quietLaw
      · rename_i pass
        intro before after
        have kept := (s.watchdogAfter_keepsBare (body s).state).trans (State.answered_keepsBare _
          (requestFrame k.code client p) (response k.code (body s).result ((body s).reply (s.watchdogAfter (body s).state))))
        exact kept.quietLaw (b pass before) after

theorem bare_of_request {k : Request} {client : Byte} {p : List Byte} {body : State → Answer}
    (h : (.next (s.request k client p body) : Host.Outcome State Fault Refusal) = .next t)
    (b : ∀ v, KeepsBare v (body v).state) : QuietLaw s t := quietLaw_of_request h (fun _ => (b s).quietLaw)

theorem bare_of_query {k : Request} {client : Byte} {p : List Byte} {body : State → Answer}
    (h : (.next (s.request k client p body) : Host.Outcome State Fault Refusal) = .next t)
    (b : ∀ v, (body v).state = v) : QuietLaw s t := bare_of_request h (fun v => .query (b v))

theorem State.gate_quiet {k : Request} {client : Byte} {p : List Byte} (h : s.gate k client p = none)
    (q : s.sup.state = .quiet) : k.quiet = true := by
  by_contra not
  unfold State.gate at h
  rw [Bool.not_eq_true] at not
  simp only [q, not] at h
  split at h <;> simp at h

/-- A request the port refuses in QUIET (R172). -/
theorem out_of_request {k : Request} {client : Byte} {p : List Byte} {body : State → Answer}
    (h : (.next (s.request k client p body) : Host.Outcome State Fault Refusal) = .next t) (q : k.quiet = false)
    (b : ∀ v, (body v).state.sup.state = .quiet → v.sup.state = .quiet) : QuietLaw s t := by
  refine quietLaw_of_request h (fun pass _ after => ?_)
  have := State.gate_quiet pass (b s after)
  rw [q] at this
  cases this

end

theorem State.startUp_run (s : State) (k : ResetKind) (plan : BandPlan) : (s.startUp k plan).sup.state = .run := by
  have sampled : ∀ (t : State) (i : Fin 4), (t.assertSampled i).sup.state = t.sup.state := fun t i => by
    unfold State.assertSampled
    split
    · exact (t.assertLine_upholds (l := False) i (fun h => h.elim)).settings.sup
    · rfl
  unfold State.startUp
  dsimp only
  rw [sampled, sampled, sampled, sampled, State.raiseIf_sup]
  rfl

theorem State.startUp_quietLaw (s t : State) (k : ResetKind) (plan : BandPlan) : QuietLaw t (s.startUp k plan) :=
  quietLaw_of_out (by rw [s.startUp_run]; simp)

theorem routeOpen_sup (client : Byte) (p : List Byte) (s : State) : (routeOpen client p s).state.sup = s.sup :=
  (routeOpen_frame client p s).sup

theorem legOpen_sup (client : Byte) (p : List Byte) (s : State) : (legOpen client p s).state.sup = s.sup :=
  (legOpen_frame client p s).sup

theorem phoneRestart_sup (client : Byte) (p : List Byte) (s : State) :
    (phoneRestart client p s).state.sup.state = s.sup.state := by
  unfold phoneRestart
  split
  · rfl
  · split
    · rfl
    · exact (s.setPhone_upholds (l := True) _).settings.sup

theorem resumeRun_sup (client : Byte) (p : List Byte) (s : State) (h : (resumeRun client p s).state.sup.state = .quiet) :
    s.sup.state = .quiet := by
  unfold resumeRun at h
  split at h
  · exact h
  · split at h
    · exact h
    · rw [Answer.ok_state] at h
      split at h
      · rw [s.leaveLimp_frame.sup] at h
        cases h
      · exact h

theorem quietEnter_quietLaw (client : Byte) (p : List Byte) (s : State) : QuietLaw s (quietEnter client p s).state := by
  unfold quietEnter
  split
  · exact id
  · split
    · exact id
    · split
      · exact id
      · split
        · exact id
        · rename_i none
          rw [Answer.ok_state]
          exact fun _ _ => (s.enterQuiet_bare (by simpa using none)).2

theorem State.leaveQuiet_run (s : State) : s.leaveQuiet.sup.state = .run := by
  have f := s.leaveQuiet_frame.frame.sup
  rw [f]

theorem quietExit_quietLaw (client : Byte) (p : List Byte) (s : State) : QuietLaw s (quietExit client p s).state := by
  unfold quietExit
  split
  · exact id
  · split
    · exact id
    · rw [Answer.ok_state]
      split
      · exact quietLaw_of_out (by rw [s.leaveQuiet_run]; simp)
      · exact id

theorem unknownRequest_quietLaw {s t : State} {code client : Byte} {p : List Byte}
    (h : exec (.unknownRequest code client p) s = .next t) : QuietLaw s t := by
  change execUnknownRequest code client p s = .next t at h
  unfold execUnknownRequest at h
  split at h
  · cases h
  · refine quietLaw_of_next h (KeepsBare.quietLaw ?_)
    unfold State.unknownRequest
    dsimp only
    split
    · exact s.ignoreTransfer_keepsBare _
    · split
      · exact s.answered_keepsBare _ _
      · exact s.validRequest_keepsBare.trans (State.answered_keepsBare _ _ _)

theorem badFrame_quietLaw {s t : State} {bytes : List Byte} (h : exec (.badFrame bytes) s = .next t) : QuietLaw s t := by
  change execBadFrame bytes s = .next t at h
  cases bytes with
  | nil => exact quietLaw_of_next h id
  | cons b rest =>
    unfold execBadFrame at h
    dsimp only at h
    split at h
    · cases h
    · refine quietLaw_of_next h (KeepsBare.quietLaw ?_)
      unfold State.badFrame
      split
      · exact s.ignoreTransfer_keepsBare _
      · exact s.answered_keepsBare _ _

/-! ## Events of the port, the clock and the lines -/

theorem State.readTransfer_quietLaw (s : State) (n : Nat) : QuietLaw s (s.readTransfer n) := by
  have out : KeepsBare s (s.readOut n) := .rest (by simp) (by simp) (by simp) (by simp) (by simp) (by simp)
  unfold State.readTransfer
  split
  · exact id
  · split
    · exact (s.ignoreTransfer_keepsBare n).quietLaw
    · split
      · exact State.startUp_quietLaw _ _ _ _
      · exact out.quietLaw

theorem State.abortWrite_keepsBare (s : State) : KeepsBare s s.abortWrite := by
  unfold State.abortWrite
  split
  · exact .refl s
  · exact .rest rfl rfl rfl ⟨rfl, rfl, rfl⟩ rfl ⟨rfl, rfl⟩

theorem State.hold_keepsBare (s : State) : KeepsBare s s.hold :=
  s.abortWrite_keepsBare.trans (.rest rfl rfl rfl ⟨rfl, rfl, rfl⟩ rfl ⟨rfl, rfl⟩)

theorem State.resetAssert_quietLaw (s : State) (c : ResetCause) : QuietLaw s (s.resetAssert c) := by
  refine KeepsBare.quietLaw ?_
  cases c
  · exact KeepsBare.trans (t := { s with pins.resetN := false }) (.rest rfl rfl rfl ⟨rfl, rfl, rfl⟩ rfl ⟨rfl, rfl⟩)
      (State.hold_keepsBare _)
  · exact KeepsBare.trans (t := { s with pins.supply := false }) (.rest rfl rfl rfl ⟨rfl, rfl, rfl⟩ rfl ⟨rfl, rfl⟩)
      (State.hold_keepsBare _)

theorem State.resetRelease_quietLaw (s : State) (plan : BandPlan) : QuietLaw s (s.resetRelease plan) := by
  unfold State.resetRelease
  split
  · exact id
  · dsimp only
    split
    · exact State.startUp_quietLaw _ _ _ _
    · exact KeepsBare.quietLaw (.rest rfl rfl rfl ⟨rfl, rfl, rfl⟩ rfl ⟨rfl, rfl⟩)

theorem State.supplyApplied_quietLaw (s : State) (plan : BandPlan) : QuietLaw s (s.supplyApplied plan) := by
  unfold State.supplyApplied
  split
  · exact id
  · dsimp only
    split
    · exact State.startUp_quietLaw _ _ _ _
    · exact KeepsBare.quietLaw (.rest rfl rfl rfl ⟨rfl, rfl, rfl⟩ rfl ⟨rfl, rfl⟩)

theorem State.startUpEnd_quietLaw (s : State) : QuietLaw s s.startUpEnd := by
  unfold State.startUpEnd
  split
  · exact KeepsBare.quietLaw (.rest rfl rfl rfl ⟨rfl, rfl, rfl⟩ rfl ⟨rfl, rfl⟩)
  · exact id

theorem partResetTimeout_quietLaw {s t : State} (h : exec .partResetTimeout s = .next t) : QuietLaw s t := by
  refine quietLaw_of_next h ?_
  split
  · exact s.startUp_quietLaw _ _ _
  · exact id

theorem watchdogExpiry_quietLaw {s t : State} (h : exec .watchdogExpiry s = .next t) : QuietLaw s t := by
  refine quietLaw_of_event h ?_
  split
  · exact quietLaw_of_out (by rw [s.enterLimp_frame.1.sup]; simp)
  · exact id

theorem clockPresent_quietLaw {s t : State} (h : exec .clockDetectPresent s = .next t) : QuietLaw s t := by
  refine bare_of_event h ?_
  split
  · exact .refl s
  · refine s.setPhone_keepsBare _ (fun quiet down => ?_)
    rw [decide_eq_true quiet]
    exact Phone.clockPresent_down down

theorem clockAbsent_quietLaw {s t : State} (h : exec .clockDetectAbsent s = .next t) : QuietLaw s t := by
  refine bare_of_event h ?_
  split
  · exact s.setPhone_keepsBare _ (fun _ down => Phone.clockAbsent_down down)
  · exact .refl s

theorem rateSpanEnd_quietLaw {s t : State} {rate : Nat} (h : exec (.rateSpanEnd rate) s = .next t) : QuietLaw s t :=
  bare_of_event h (s.setPhone_keepsBare _ (fun _ down => Phone.spanEnd_down down rate))

theorem partnerWord_quietLaw {s t : State} {word : BitVec 16} (h : exec (.partnerWord word) s = .next t) :
    QuietLaw s t := by
  refine bare_of_event h ?_
  split
  · exact s.setPhone_keepsBare _ (fun _ down => by rw [Phone.word_down down.1]; exact down)
  · exact .refl s

/-- In QUIET no silence timer runs and no hold-off (R133). -/
theorem silence_quietLaw {s t : State} (h : exec .silenceTimerExpiry s = .next t) : QuietLaw s t := by
  refine bare_of_event h ?_
  split
  · rename_i runs
    exact s.setPhone_keepsBare _ (fun _ down => by rw [down.2] at runs; cases runs)
  · exact .refl s

theorem holdOff_quietLaw {s t : State} (h : exec .holdOffExpiry s = .next t) : QuietLaw s t := by
  refine bare_of_event h ?_
  split
  · rename_i holds
    exact s.setPhone_keepsBare _ (fun _ down => by rw [down.1] at holds; cases holds)
  · exact .refl s

theorem State.lineDebounceExpiry_quiet (s : State) (i : Fin 4) :
    (s.lineDebounceExpiry i).sup.state = s.sup.state :=
  (s.lineDebounceExpiry_upholds (l := False) i (fun h => h.elim)).settings.sup

/-- Every command keeps the law of QUIET. -/
theorem exec_quietLaw (i : Instr) (s t : State) (h : exec i s = .next t) : QuietLaw s t := by
  cases i with
  | routeOpen client payload => exact out_of_request h rfl (fun u q => routeOpen_sup client payload u ▸ q)
  | routeLevel client payload => exact bare_of_request h (fun u => .route (routeLevel_frame client payload u))
  | routeRetire client payload => exact bare_of_request h (fun u => routeRetire_keepsBare client payload u)
  | retireOwner client payload => exact bare_of_request h (fun u => retireOwner_keepsBare client payload u)
  | routeGet client payload => exact bare_of_query h (fun u => routeGet_state payload u)
  | routeList client payload => exact bare_of_query h (fun u => routeList_state payload u)
  | zoneVolume client payload => exact bare_of_request h (fun u => zoneVolume_keepsBare payload u)
  | zoneBalance client payload => exact bare_of_request h (fun u => zoneBalance_keepsBare payload u)
  | zoneGet client payload => exact bare_of_query h (fun u => zoneGet_state payload u)
  | duckDepths client payload => exact bare_of_request h (fun u => duckDepths_keepsBare client payload u)
  | temperature client payload => exact bare_of_request h (fun u => temperature_keepsBare payload u)
  | derateSet client payload => exact bare_of_request h (fun u => derateSet_keepsBare client payload u)
  | tunerPolicy client payload => exact bare_of_request h (fun u => tunerPolicy_keepsBare client payload u)
  | trafficWatch client payload => exact bare_of_request h (fun u => trafficWatch_keepsBare client payload u)
  | qualityLimits client payload => exact bare_of_request h (fun u => qualityLimits_keepsBare client payload u)
  | tunerGet client payload => exact bare_of_query h (fun u => tunerGet_state payload u)
  | stationList client payload => exact bare_of_query h (fun u => stationList_state payload u)
  | stationGet client payload => exact bare_of_query h (fun u => stationGet_state payload u)
  | stationPin client payload => exact bare_of_request h (fun u => stationPin_keepsBare payload u)
  | stationForget client payload => exact bare_of_request h (fun u => stationForget_keepsBare payload u)
  | stationAdd client payload => exact bare_of_request h (fun u => stationAdd_keepsBare payload u)
  | stationAging client payload => exact bare_of_request h (fun u => stationAging_keepsBare client payload u)
  | announceFollow client payload => exact bare_of_request h (fun u => announceFollow_keepsBare client payload u)
  | hpCap client payload => exact bare_of_request h (fun u => hpCap_keepsBare client payload u)
  | hpFollow client payload => exact bare_of_request h (fun u => hpFollow_keepsBare payload u)
  | rearLock client payload => exact bare_of_request h (fun u => rearLock_keepsBare client payload u)
  | phoneAdvertise client payload => exact bare_of_request h (fun u => phoneAdvertise_keepsBare client payload u)
  | phoneRestart client payload => exact out_of_request h rfl (fun u q => phoneRestart_sup client payload u ▸ q)
  | phoneGet client payload => exact bare_of_query h (fun u => phoneGet_state payload u)
  | legOpen client payload => exact out_of_request h rfl (fun u q => legOpen_sup client payload u ▸ q)
  | legState client payload => exact bare_of_request h (fun u => legState_keepsBare client payload u)
  | legSeats client payload => exact bare_of_request h (fun u => legSeats_keepsBare client payload u)
  | legUplink client payload => exact bare_of_request h (fun u => legUplink_keepsBare client payload u)
  | legClose client payload => exact bare_of_request h (fun u => legClose_keepsBare client payload u)
  | legGet client payload => exact bare_of_query h (fun u => legGet_state payload u)
  | echoTarget client payload => exact bare_of_request h (fun u => echoTarget_keepsBare client payload u)
  | alertLimits client payload => exact bare_of_request h (fun u => alertLimits_keepsBare client payload u)
  | directLineGet client payload => exact bare_of_query h (fun u => directLineGet_state payload u)
  | watchdog client payload => exact bare_of_request h (fun u => setWatchdog_keepsBare client payload u)
  | keepalive client payload => exact bare_of_query h (fun u => keepalive_state payload u)
  | resume client payload => exact out_of_request h rfl (fun u q => resumeRun_sup client payload u q)
  | quietEnter client payload => exact quietLaw_of_request h (fun _ => quietEnter_quietLaw client payload s)
  | quietExit client payload => exact quietLaw_of_request h (fun _ => quietExit_quietLaw client payload s)
  | eventFetch client payload => exact bare_of_request h (fun u => eventFetch_keepsBare payload u)
  | eventRouting client payload => exact bare_of_request h (fun u => eventRouting_keepsBare client payload u)
  | storeRead client payload => exact bare_of_query h (fun u => storeRead_state payload u)
  | storeWrite client payload => exact bare_of_request h (fun u => storeWrite_keepsBare client payload u)
  | partInfo client payload => exact bare_of_query h (fun u => partInfo_state payload u)
  | partReset client payload => exact bare_of_request h (fun u => partReset_keepsBare client payload u)
  | rampStep slot =>
    exact bare_of_event h (.arbitrated (.work (s.rampStepSlot_upholds slot) (fun b => b.rampStepSlot slot)))
  | weightRampStep => exact bare_of_event h (.rest rfl rfl rfl ⟨rfl, rfl, rfl⟩ rfl ⟨rfl, rfl⟩)
  | thermalReading sensor => exact bare_of_event h (s.thermalReading_keepsBare sensor)
  | alertCut slot => exact bare_of_event h (.work (s.alertCut_upholds slot) (fun b => b.alertCut slot))
  | tonePatternEnd slot => exact bare_of_event h (.work (s.tonePatternEnd_upholds slot) (fun b => b.tonePatternEnd slot))
  | hpDebounceExpiry out => exact bare_of_event h (s.hpDebounceExpiry_keepsBare out)
  | lineDebounceExpiry line =>
    exact bare_of_event h ⟨s.lineDebounceExpiry_quiet line, fun b => b.lineDebounceExpiry line⟩
  | acquisitionSettle tuner => exact bare_of_event h (s.acquisitionSettle_keepsBare tuner)
  | programMeasurement tuner field multipath => exact bare_of_event h (s.programMeasurement_keepsBare tuner _ _)
  | dataItemDecoded tuner item => exact bare_of_event h (s.dataItem_keepsBare tuner item)
  | scanStepBegin tuner => exact bare_of_event h (s.scanStepBegin_keepsBare tuner)
  | scanMeasurement tuner field multipath => exact bare_of_event h (s.scanMeasurement_keepsBare tuner _ _)
  | scanStepComplete tuner => exact bare_of_event h (s.scanStepComplete_keepsBare tuner)
  | scanIntervalExpiry => exact bare_of_event h s.scanIntervalExpiry_keepsBare
  | afCheckMeasurement tuner field multipath => exact bare_of_event h (s.afCheckMeasurement_keepsBare tuner _ _)
  | afCheckEnd tuner code => exact bare_of_event h (s.afCheckEnd_keepsBare tuner code)
  | retuneSettle tuner => exact bare_of_event h (s.retuneSettle_keepsBare tuner)
  | selfAfJumpEnd tuner field multipath => exact bare_of_event h (s.selfAfJumpEnd_keepsBare tuner _ _)
  | afConfirmTimeout tuner => exact bare_of_event h (s.afConfirmTimeout_keepsBare tuner)
  | watchdogExpiry => exact watchdogExpiry_quietLaw h
  | clockDetectPresent => exact clockPresent_quietLaw h
  | clockDetectAbsent => exact clockAbsent_quietLaw h
  | rateSpanEnd rate => exact rateSpanEnd_quietLaw h
  | partnerWord word => exact partnerWord_quietLaw h
  | silenceTimerExpiry => exact silence_quietLaw h
  | holdOffExpiry => exact holdOff_quietLaw h
  | micCheckEnd seat power => exact bare_of_event h (s.micCheckEnd_keepsBare seat power)
  | echoWindowEnd seat downlink micPower residualPower =>
    exact bare_of_event h (s.echoWindowEnd_keepsBare seat downlink micPower residualPower)
  | storeWriteEnd => exact bare_of_event h (s.storeWriteEnd_keepsBare)
  | readTransfer clocked => exact quietLaw_of_next h (s.readTransfer_quietLaw clocked)
  | partResetTimeout => exact partResetTimeout_quietLaw h
  | resetNAssert cause => exact quietLaw_of_next h (s.resetAssert_quietLaw cause)
  | resetNRelease straps => exact quietLaw_of_next h (s.resetRelease_quietLaw straps)
  | startUpEnd => exact quietLaw_of_next h s.startUpEnd_quietLaw
  | supplyApplication straps => exact quietLaw_of_next h (s.supplyApplied_quietLaw straps)
  | hpDetChange out level => exact quietLaw_of_next h (s.hpDetChange_keepsBare out level).quietLaw
  | alertInChange line level => exact quietLaw_of_next h (s.alertInChange_keepsBare line level).quietLaw
  | unknownRequest code client payload => exact unknownRequest_quietLaw h
  | badFrame bytes => exact badFrame_quietLaw h

/-- Settles O14: each command of a part in QUIET leaves it bare, and only QUIET_ENTER, which bares it, enters QUIET. -/
theorem quietStaysBare : Obligations.QuietStaysBare := by
  intro s t before h
  unfold step at h
  split at h
  · exact quietLaw_of_next h s.tick_keepsBare.quietLaw before
  · rename_i c rest _
    have popped : KeepsBare s { s with pending := rest } := .rest rfl rfl rfl ⟨rfl, rfl, rfl⟩ rfl ⟨rfl, rfl⟩
    exact exec_quietLaw c _ _ h (popped.quietLaw before)

end Sys2Proof.Machine
end

-- ==== support and settled obligations, part 12 ====
section
/-! SUPPORT. Requests that reach their owning block, and the statements on targets, duck depths and levels. -/

namespace Sys2Proof.Machine

/-! ## Requests (R168 to R173) -/

section
variable {s t : State} {k : Request} {c : Byte} {p reply : List Byte} {body : State → Answer}

/-- A request its owning block carries out (R173). -/
theorem State.Accepts.ok (h : s.Accepts k c p) (b : body s = .ok t reply) :
    s.request k c p body = s.served t k c p reply := by
  obtain ⟨takes, fits, pass⟩ := h
  have short : ¬60 < p.length := by omega
  unfold State.request
  dsimp only
  simp only [takes, Bool.not_true, Bool.false_eq_true, if_false, short, pass, b]
  rfl

/-- A request its owning block refuses (R172). -/
theorem State.Accepts.refused {r : Result} (h : s.Accepts k c p) (b : body s = .refuse s r) :
    s.request k c p body = s.declined k c p r := by
  obtain ⟨takes, fits, pass⟩ := h
  have short : ¬60 < p.length := by omega
  have same : s.watchdogAfter s = s.validRequest := by
    unfold State.watchdogAfter
    split
    · rename_i both
      simp at both
    · rfl
  unfold State.request
  dsimp only
  simp only [takes, Bool.not_true, Bool.false_eq_true, if_false, short, pass, b]
  unfold Answer.refuse
  dsimp only
  rw [same]
  rfl

end

/-! ## Targets (R49, R50) -/

/-- A route outside the states that re-aim, or whose target stands, stays as it is (R50). -/
theorem State.retarget_unchanged (s : State) (k : RampClass) (r : Route)
    (h : (r.state ≠ .rising ∧ r.state ≠ .playing) ∨ r.fadeMark = true ∨ r.target = some (s.computedTarget r)) :
    s.retarget k r = r := by
  unfold State.retarget
  refine if_neg ?_
  rcases h with ⟨nr, np⟩ | marked | there
  · simp [RouteState.sounding, nr, np]
  · simp [marked]
  · simp [there]

/-- A sounding route without the fade mark, aimed: the ramp goes on from the applied gain, or from -384 q out of MUTE, and ends
at once at its target (R8, R51, R52). -/
theorem Route.aim_sounding_eq (r : Route) (goal : Gain) (k : RampClass) (h : r.state = .rising ∨ r.state = .playing)
    (m : r.fadeMark = false) :
    let start := if r.applied = .mute ∧ goal ≠ .mute then .q (-384) else r.applied
    r.aim goal k =
      { r with
        target := some goal, step := k, applied := start, running := decide (start ≠ goal)
        state := if start = goal then .playing else r.state } := by
  intro start
  have ended : ∀ n : Route, n.state = r.state → n.fadeMark = false → n.rampEnded = { n with state := .playing } := by
    intro n e f
    unfold Route.rampEnded
    rcases h with h | h
    · simp [e, h, f]
    · rw [e, h]
      cases n
      simp only at e
      simp [e, h]
  unfold Route.aim
  cases applied : r.applied with
  | mute =>
    cases goal with
    | mute =>
      have e : start = .mute := by simp [start, applied]
      dsimp only
      refine (ended _ (by rfl) (by exact m)).trans ?_
      rw [e]
      simp
    | q v =>
      have e : start = .q (-384) := by simp [start, applied]
      dsimp only
      split
      · rename_i low
        refine (ended _ (by rfl) (by exact m)).trans ?_
        rw [e, low]
        simp
      · rename_i high
        have ne : Gain.q (-384) ≠ Gain.q v := fun x => high (by injection x with x; exact x.symm)
        rw [e]
        simp [ne]
  | q a =>
    have e : start = .q a := by simp [start, applied]
    cases goal with
    | mute =>
      rw [e]
      simp
    | q v =>
      dsimp only
      split
      · rename_i there
        refine (ended _ (by rfl) (by exact m)).trans ?_
        rw [e, there]
        simp
      · rename_i away
        have ne : Gain.q a ≠ Gain.q v := fun x => away (by injection x)
        rw [e]
        simp [ne]

theorem State.retarget_eq_aim (s : State) (k : RampClass) (r : Route) (h : r.state = .rising ∨ r.state = .playing)
    (m : r.fadeMark = false) (t : r.target ≠ some (s.computedTarget r)) :
    s.retarget k r = r.aim (s.computedTarget r) k := by
  unfold State.retarget
  refine if_pos ?_
  rcases h with h | h <;> simp [RouteState.sounding, h, m, t]

/-- Settles O22: a re-aim by the states and gains it starts from, and the sum of the target by class. -/
theorem recomputedTargetsReAim : Obligations.RecomputedTargetsReAim := by
  intro s k r
  refine ⟨s.retarget_unchanged k r, ?_, ?_, ?_⟩
  · intro sounding unmarked moved
    rw [s.retarget_eq_aim k r sounding unmarked moved]
    exact r.aim_sounding_eq _ k sounding unmarked
  · intro other
    have e : s.computedTarget r = if (s.mixer.zone r.zone).volume = 0 then .mute else
        gainOf (r.level + s.mixer.attenuation (s.mixer.zone r.zone).volume - (r.duck : Int) - s.derateTerm r.zone) := by
      unfold State.computedTarget
      cases cls : r.cls <;> simp_all
    rw [e]
    unfold gainOf Mixer.attenuation State.derateTerm
    dsimp only
    by_cases silent : (s.mixer.zone r.zone).volume = 0
    · simp [silent]
    · simp only [silent, if_false, false_or]
      rfl
  · intro alert
    unfold State.computedTarget gainOf Mixer.attenuation State.derateTerm
    rw [alert]
    dsimp only
    rw [Int.neg_mul]

end Sys2Proof.Machine
end

-- ==== support and settled obligations, part 13 ====
section
/-! SUPPORT. Changes of routes that make no reference change, and the statements on duck depths, alert limits and levels. -/

namespace Sys2Proof.Machine

/-! ## Routes changed in place without a reference change (R147) -/

/-- Where no route starts or stops sounding there is no reference change (R147). -/
theorem referenceMoved_of_sounding {rs ns : List Route}
    (h : List.Forall₂ (fun r n => n.state.sounding = r.state.sounding) rs ns) : referenceMoved rs ns = false := by
  unfold referenceMoved
  induction h with
  | nil => rfl
  | cons e _ ih => simp [e, ih]

theorem State.putRoutes_same (s : State) (ns : List Route)
    (h : List.Forall₂ (fun r n => n.state.sounding = r.state.sounding) s.routes ns) :
    s.putRoutes ns = { s with routes := ns } := by
  unfold State.putRoutes
  rw [referenceMoved_of_sounding h]
  rfl

/-- A re-aim of some routes changes the routes alone (R50). -/
theorem State.retargetWhere_eq (s : State) (p : Route → Bool) (k : RampClass) :
    s.retargetWhere p k = { s with routes := s.routes.map (fun r => if p r then s.retarget k r else r) } := by
  unfold State.retargetWhere
  refine s.putRoutes_same _ (forall₂_map_of _ _ (fun r _ => ?_))
  split
  · exact s.retarget_sounding k r
  · rfl

/-! ## Duck attenuations (R28) -/

section
variable (s : State)

/-- The duck attenuations read of the table only what they do not change. -/
theorem State.duckOf_duckPass (d : Domain) (rs : List Route) (r : Route) :
    s.duckOf (s.duckPass d rs) r = s.duckOf rs r := by
  unfold State.duckOf State.duckPass
  rw [List.foldl_map]
  congr 1
  funext m x
  split
  · rw [(s.withDuck_keeps _ x).zone, (s.withDuck_keeps _ x).cls, s.withDuck_sounding]
  · rfl

/-- The passes over the three domains recompute each route's attenuation once. -/
theorem State.duckPasses (rs : List Route) :
    s.duckPass .hp2 (s.duckPass .hp1 (s.duckPass .cabinGroup rs)) = rs.map (fun r => s.withDuck (s.duckOf rs r) r) := by
  have pass : ∀ (d : Domain) (ns : List Route), (∀ r, s.duckOf ns r = s.duckOf rs r) →
      s.duckPass d ns = ns.map (fun r => if r.zone.domain = d then s.withDuck (s.duckOf rs r) r else r) := by
    intro d ns e
    unfold State.duckPass
    simp only [e]
  have one := fun r => s.duckOf_duckPass .cabinGroup rs r
  have two := fun r => (s.duckOf_duckPass .hp1 (s.duckPass .cabinGroup rs) r).trans (one r)
  rw [pass .hp2 _ two, pass .hp1 _ one, pass .cabinGroup _ (fun _ => rfl), List.map_map, List.map_map]
  refine List.map_congr_left (fun r _ => ?_)
  have zone := (s.withDuck_keeps (s.duckOf rs r) r).zone
  cases e : r.zone.domain <;> simp [e, zone]

/-- The largest value among those of a list a test picks, from a start. -/
def topOf (p : Route → Bool) (f : Route → Nat) (rs : List Route) (m : Nat) : Nat :=
  rs.foldl (fun m x => if p x then max m (f x) else m) m

theorem topOf_spec (p : Route → Bool) (f : Route → Nat) (rs : List Route) (m : Nat) :
    m ≤ topOf p f rs m ∧ (∀ x ∈ rs, p x = true → f x ≤ topOf p f rs m) ∧
      (topOf p f rs m ≠ m → ∃ x ∈ rs, p x = true ∧ f x = topOf p f rs m) := by
  induction rs generalizing m with
  | nil => exact ⟨le_refl m, fun _ i => (List.not_mem_nil i).elim, fun h => absurd rfl h⟩
  | cons y ys ih =>
    by_cases d : p y = true
    · have e : topOf p f (y :: ys) m = topOf p f ys (max m (f y)) := by simp [topOf, d]
      obtain ⟨low, all, found⟩ := ih (max m (f y))
      rw [e]
      generalize topOf p f ys (max m (f y)) = top at *
      refine ⟨by omega, fun x i dx => ?_, fun ne => ?_⟩
      · rcases List.mem_cons.1 i with rfl | i
        · omega
        · exact all x i dx
      · by_cases same : top = max m (f y)
        · exact ⟨y, by simp, d, by
            rw [same] at ne ⊢
            exact (max_eq_right (le_of_not_ge (fun le => ne (max_eq_left le)))).symm⟩
        · obtain ⟨x, i, rest⟩ := found same
          exact ⟨x, by simp [i], rest⟩
    · have e : topOf p f (y :: ys) m = topOf p f ys m := by simp [topOf, d]
      obtain ⟨low, all, found⟩ := ih m
      rw [e]
      refine ⟨low, fun x i dx => ?_, fun ne => ?_⟩
      · rcases List.mem_cons.1 i with rfl | i
        · exact absurd dx d
        · exact all x i dx
      · obtain ⟨x, i, rest⟩ := found ne
        exact ⟨x, by simp [i], rest⟩

theorem State.duckOf_eq_topOf (rs : List Route) (r : Route) :
    s.duckOf rs r = topOf (fun x => x.zone.domain = r.zone.domain && x.state.sounding)
      (fun x => s.mixer.depths.depth x.cls r.cls) rs 0 := rfl

theorem DuckDepths.depth_eq (d : DuckDepths) (ducker ducked : RouteClass) : d.depth ducker ducked =
    if ducker = .alert ∧ ducked ≠ .alert then d.alert
    else if ducker = .call ∧ ducked = .prompt then d.call
    else if ducker = .prompt ∧ (ducked = .announcement ∨ ducked = .media) then d.prompt
    else 0 := by
  cases ducker <;> cases ducked <;> simp [DuckDepths.depth]

end

theorem exec_duckDepths (s : State) (c : Byte) (p : List Byte) (h : s.Accepts .duckDepths c p) :
    (p.length = 3 → c = 0 →
      let d : DuckDepths := { alert := min 240 (u8At p 0), call := min 240 (u8At p 1), prompt := min 240 (u8At p 2) }
      let t := { s with mixer.depths := d }
      exec (.duckDepths c p) s =
        .next (s.served
          { t with
            routes := s.routes.map (fun r =>
              if t.duckOf s.routes r = r.duck then r
              else t.retarget .normal { r with duck := t.duckOf s.routes r }) }
          .duckDepths c p (u8 d.alert ++ u8 d.call ++ u8 d.prompt))) ∧
    (p.length ≠ 3 → exec (.duckDepths c p) s = .next (s.declined .duckDepths c p .badArgument)) ∧
    (p.length = 3 → c ≠ 0 → exec (.duckDepths c p) s = .next (s.declined .duckDepths c p .notPermitted)) := by
  refine ⟨fun l z => ?_, fun l => ?_, fun l z => ?_⟩
  · intro d t
    have body : duckDepths c p s =
        .ok (t.putRoutes (t.duckPass .hp2 (t.duckPass .hp1 (t.duckPass .cabinGroup s.routes))))
          (u8 d.alert ++ u8 d.call ++ u8 d.prompt) := by
      unfold duckDepths
      rw [if_neg (by simpa using l), if_neg (by simpa using z)]
    have routes : t.putRoutes (s.routes.map (fun r => t.withDuck (t.duckOf s.routes r) r)) =
        { t with routes := s.routes.map (fun r => t.withDuck (t.duckOf s.routes r) r) } :=
      t.putRoutes_same _ (forall₂_map_of _ _ (fun r _ => t.withDuck_sounding _ r))
    rw [t.duckPasses, routes] at body
    show Host.Outcome.next _ = _
    rw [h.ok body]
    unfold State.withDuck
    simp only [eq_comm]
  · exact congrArg _ (h.refused (if_pos l))
  · exact congrArg _ (h.refused (by unfold duckDepths; rw [if_neg (by simpa using l), if_pos z]))

theorem exec_alertLimits (s : State) (c : Byte) (p : List Byte) (h : s.Accepts .alertLimits c p) :
    (p.length = 3 → c = 0 →
      let floor := fit (-240) 0 (i16At p 0)
      let d := max 1 (min 120 (u8At p 2))
      let t := { s with mixer.alertFloor := floor, alertMax := d }
      exec (.alertLimits c p) s =
        .next (s.served
          { t with routes := s.routes.map (fun r => if r.cls = .alert then t.retarget .normal r else r) }
          .alertLimits c p (i16 floor ++ u8 d))) ∧
    (p.length ≠ 3 → exec (.alertLimits c p) s = .next (s.declined .alertLimits c p .badArgument)) ∧
    (p.length = 3 → c ≠ 0 → exec (.alertLimits c p) s = .next (s.declined .alertLimits c p .notPermitted)) := by
  refine ⟨fun l z => ?_, fun l => ?_, fun l z => ?_⟩
  · intro floor d t
    have body : alertLimits c p s =
        .ok (t.retargetWhere (fun r => r.cls = RouteClass.alert) .normal) (i16 floor ++ u8 d) := by
      unfold alertLimits
      rw [if_neg (by simpa using l), if_neg (by simpa using z), fitNat_eq (by omega)]
    rw [t.retargetWhere_eq] at body
    simp only [decide_eq_true_eq] at body
    exact congrArg _ (h.ok body)
  · exact congrArg _ (h.refused (if_pos l))
  · exact congrArg _ (h.refused (by unfold alertLimits; rw [if_neg (by simpa using l), if_pos z]))

/-- Settles O21: the passes over the domains touch each route once and no reference, and the attenuation is a maximum. -/
theorem duckDepthsAndAlertLimits : Obligations.DuckDepthsAndAlertLimits := by
  refine ⟨fun s c p => ⟨exec_duckDepths s c p, exec_alertLimits s c p⟩, fun s rs r => ?_, DuckDepths.depth_eq⟩
  obtain ⟨-, all, found⟩ := topOf_spec (fun x => x.zone.domain = r.zone.domain && x.state.sounding)
    (fun x => s.mixer.depths.depth x.cls r.cls) rs 0
  rw [s.duckOf_eq_topOf]
  simp only [Bool.and_eq_true, decide_eq_true_eq, RouteState.sounding_iff] at all found
  exact ⟨all, found⟩

/-! ## ROUTE_LEVEL (R20) -/

theorem State.routeOf_mem {s : State} {h : Handle} {r : Route} (e : s.routeOf h = some r) :
    r ∈ s.routes ∧ r.slot = h.slot ∧ r.reuse = h.reuse := by
  have found := List.find?_some e
  rw [Bool.and_eq_true, decide_eq_true_eq, decide_eq_true_eq] at found
  exact ⟨List.mem_of_find?_eq_some e, found⟩

theorem State.relevel_sounding (s : State) (level : Int) (ramp : RampClass) (r : Route) :
    (s.relevel level ramp r).state.sounding = r.state.sounding := by
  unfold State.relevel
  dsimp only
  split
  · exact Route.aim_sounding _ _ _
  · rfl

/-- A change of the route in one slot of an ordered table. -/
theorem onSlot_eq {rs : List Route} (o : Rising rs) {r : Route} (m : r ∈ rs) (f : Route → Route) :
    onSlot r.slot f rs = rs.map (fun x => if x.slot = r.slot then f r else x) := by
  refine List.map_congr_left (fun x mx => ?_)
  split
  · rename_i e
    rw [o.unique x mx r m e]
  · rfl

theorem Handle.inRange_iff (h : Handle) : h.inRange = true ↔ 1 ≤ h.slot ∧ h.slot ≤ 24 := by
  unfold Handle.inRange
  rw [Bool.and_eq_true, decide_eq_true_eq, decide_eq_true_eq]

theorem mayChange_iff (c : Byte) (owner : Nat) : mayChange c owner = true ↔ c = 0 ∨ c.toNat = owner := by
  unfold mayChange
  rw [Bool.or_eq_true, decide_eq_true_eq, decide_eq_true_eq]

theorem handleAt_inRange {p : List Byte} {i : Nat} (h : 1 ≤ u8At p i ∧ u8At p i ≤ 24) :
    ¬(!(handleAt p i).inRange) = true := by
  have e : (handleAt p i).inRange = true := (Handle.inRange_iff _).2 h
  simp [e]

theorem State.namedRoute_bad {s : State} {c : Byte} {p : List Byte} (h : ¬(1 ≤ u8At p 0 ∧ u8At p 0 ≤ 24)) :
    s.namedRoute c p = .error .badArgument := by
  unfold State.namedRoute
  refine if_pos ?_
  rw [Bool.not_eq_true', ← Bool.not_eq_true, Handle.inRange_iff]
  exact h

theorem State.namedRoute_none {s : State} {c : Byte} {p : List Byte} (h : 1 ≤ u8At p 0 ∧ u8At p 0 ≤ 24)
    (n : s.routeOf (handleAt p 0) = none) : s.namedRoute c p = .error .notFound := by
  unfold State.namedRoute
  rw [if_neg (handleAt_inRange h), n]

theorem State.namedRoute_other {s : State} {c : Byte} {p : List Byte} {r : Route} (h : 1 ≤ u8At p 0 ∧ u8At p 0 ≤ 24)
    (n : s.routeOf (handleAt p 0) = some r) (a : c ≠ 0) (b : c.toNat ≠ r.owner) :
    s.namedRoute c p = .error .notPermitted := by
  unfold State.namedRoute
  rw [if_neg (handleAt_inRange h), n]
  exact if_neg (fun may => ((mayChange_iff _ _).1 may).elim a b)

theorem State.namedRoute_ok {s : State} {c : Byte} {p : List Byte} {r : Route} (h : 1 ≤ u8At p 0 ∧ u8At p 0 ≤ 24)
    (n : s.routeOf (handleAt p 0) = some r) (a : c = 0 ∨ c.toNat = r.owner) : s.namedRoute c p = .ok r := by
  unfold State.namedRoute
  rw [if_neg (handleAt_inRange h), n]
  exact if_pos ((mayChange_iff _ _).2 a)

/-- Settles O33: a level is set on the one route of the slot, whose sounding stands, so nothing else changes. -/
theorem routeLevelReAimsARoute : Obligations.RouteLevelReAimsARoute := by
  intro s c p acc ordered good
  have form : good → ¬(p.length ≠ 5 || 3 < u8At p 4) = true := fun ⟨l, x, _⟩ => by simp [l]; omega
  have body : ∀ e, good → s.namedRoute c p = .error e → routeLevel c p s = .refuse s e := fun e g n => by
    unfold routeLevel
    rw [if_neg (form g), n]
  refine ⟨fun bad => ?_, fun g none => ?_, fun r g found => ⟨fun a b => ?_, fun a closing => ?_, fun a open' => ?_⟩⟩
  · refine congrArg _ (acc.refused ?_)
    unfold routeLevel
    by_cases l : (p.length ≠ 5 || 3 < u8At p 4) = true
    · exact if_pos l
    · rw [if_neg l, State.namedRoute_bad]
      intro slots
      simp at l
      exact bad ⟨l.1, by omega, slots⟩
  · exact congrArg _ (acc.refused (body _ g (State.namedRoute_none g.2.2 none)))
  · exact congrArg _ (acc.refused (body _ g (State.namedRoute_other g.2.2 found a b)))
  · refine congrArg _ (acc.refused ?_)
    unfold routeLevel
    rw [if_neg (form g), State.namedRoute_ok g.2.2 found a]
    exact if_pos closing
  · intro level ramp
    obtain ⟨m, -⟩ := State.routeOf_mem found
    have done : routeLevel c p s =
        .ok (s.putRoutes (onSlot r.slot (s.relevel level ramp) s.routes)) (i16 level ++ u8 ramp.code) := by
      unfold routeLevel
      rw [if_neg (form g), State.namedRoute_ok g.2.2 found a]
      exact if_neg open'
    rw [s.putRoutes_same _ (onSlot_forall₂ _ _ _ (fun x _ _ => s.relevel_sounding level ramp x) (fun _ => rfl)),
      onSlot_eq ordered m] at done
    refine ⟨_, s.relevel level ramp r, congrArg _ (acc.ok done), rfl, rfl, fun sounds unmarked => ?_, fun silent => ?_⟩
    · intro goal start
      have sounding := (RouteState.sounding_iff r.state).2 sounds
      unfold State.relevel
      rw [if_pos (by simp [sounding, unmarked])]
      exact Route.aim_sounding_eq { r with level := level, ramp := ramp } goal ramp sounds unmarked
    · unfold State.relevel
      refine if_neg ?_
      rcases silent with ⟨nr, np⟩ | marked
      · simp [RouteState.sounding, nr, np]
      · simp [marked]

end Sys2Proof.Machine
end

-- ==== support and settled obligations, part 14 ====
section
/-! SUPPORT. The queries: what each reports of its record, and the statement on them. -/

namespace Sys2Proof.Machine

/-! ## Bytes read and written -/

theorem u8_u8At {p : List Byte} (h : p.length = 1) : u8 (u8At p 0) = p := by
  obtain ⟨b, rfl⟩ := List.length_eq_one_iff.1 h
  simp [u8, u8At]

theorem u16_u16At {p : List Byte} (h : p.length = 2) : u16 (u16At p 0) = p := by
  obtain ⟨a, b, rfl⟩ := List.length_eq_two.1 h
  have fa := a.isLt
  have fb := b.isLt
  have high : (256 * a.toNat + b.toNat) / 256 = a.toNat := by omega
  have low : BitVec.ofNat 8 (256 * a.toNat + b.toNat) = b := by
    apply BitVec.eq_of_toNat_eq
    rw [BitVec.toNat_ofNat]
    omega
  simp [u16, u16At, u8At, high, low]

theorem zoneOf_code {n : Nat} {z : Zone} (h : zoneOf n = some z) : n = z.code := by
  unfold zoneOf at h
  split at h <;> cases h <;> rfl

theorem zoneOf_none {n : Nat} (h : 5 ≤ n) : zoneOf n = none := by
  obtain ⟨k, rfl⟩ := Nat.exists_eq_add_of_le' h
  rfl

/-! ## Routes and zones (R23, R24, R60) -/

section
variable {s : State} {c : Byte} {p : List Byte}

theorem exec_routeGet (acc : s.Accepts .routeGet c p) :
    (∀ r, p.length = 2 → 1 ≤ u8At p 0 → u8At p 0 ≤ 24 → s.routeOf (handleAt p 0) = some r →
      exec (.routeGet c p) s = .next (s.served s .routeGet c p (s.routeFields r))) ∧
    (p.length = 2 → 1 ≤ u8At p 0 → u8At p 0 ≤ 24 → s.routeOf (handleAt p 0) = none →
      exec (.routeGet c p) s = .next (s.declined .routeGet c p .notFound)) ∧
    (p.length ≠ 2 ∨ u8At p 0 = 0 ∨ 25 ≤ u8At p 0 →
      exec (.routeGet c p) s = .next (s.declined .routeGet c p .badArgument)) := by
  have form : p.length = 2 → 1 ≤ u8At p 0 → u8At p 0 ≤ 24 →
      ¬(p.length ≠ 2 || !(handleAt p 0).inRange) = true := fun l a b => by
    have e : (handleAt p 0).inRange = true := (Handle.inRange_iff _).2 ⟨a, b⟩
    simp [l, e]
  refine ⟨fun r l a b found => congrArg _ (acc.ok ?_), fun l a b none => congrArg _ (acc.refused ?_),
    fun bad => congrArg _ (acc.refused ?_)⟩
  · unfold routeGet
    rw [if_neg (form l a b), found]
  · unfold routeGet
    rw [if_neg (form l a b), none]
  · unfold routeGet
    refine if_pos ?_
    rw [Bool.or_eq_true, decide_eq_true_eq, Bool.not_eq_true', ← Bool.not_eq_true, Handle.inRange_iff]
    refine bad.imp_right (fun out slots => ?_)
    have low : 1 ≤ u8At p 0 := slots.1
    have high : u8At p 0 ≤ 24 := slots.2
    omega

theorem exec_routeList (acc : s.Accepts .routeList c p) :
    (p = [] → exec (.routeList c p) s = .next (s.served s .routeList c p (handleList s.routes))) ∧
    (p.length = 1 → u8At p 0 ≤ 7 →
      exec (.routeList c p) s =
        .next (s.served s .routeList c p (handleList (s.routes.filter (fun r => r.owner = u8At p 0))))) ∧
    (2 ≤ p.length ∨ 8 ≤ u8At p 0 → exec (.routeList c p) s = .next (s.declined .routeList c p .badArgument)) := by
  refine ⟨fun e => congrArg _ (acc.ok (by rw [e]; rfl)), fun l a => congrArg _ (acc.ok ?_),
    fun bad => congrArg _ (acc.refused ?_)⟩
  · obtain ⟨o, rfl⟩ := List.length_eq_one_iff.1 l
    have low : ¬7 < o.toNat := Nat.not_lt.2 a
    exact if_neg low
  · rcases p with _ | ⟨o, _ | ⟨x, xs⟩⟩
    · simp [u8At] at bad
    · have high : 7 < o.toNat := Nat.lt_of_succ_le (by simpa [u8At] using bad)
      exact if_pos high
    · rfl

theorem exec_zoneGet (acc : s.Accepts .zoneGet c p) :
    (∀ z, p.length = 1 → zoneOf (u8At p 0) = some z →
      let r := s.mixer.zone z
      exec (.zoneGet c p) s = .next (s.served s .zoneGet c p
        (p ++ u8 r.volume ++ i16 (if r.volume = 0 then -32768 else s.mixer.attenuation r.volume) ++
          i8 r.balance ++ i8 r.fade ++ u8 r.cap ++ flag r.follow ++ flag (s.jackReport z) ++ i16 (s.derateTerm z) ++
          i16 s.thermal.reading))) ∧
    (p.length ≠ 1 ∨ 5 ≤ u8At p 0 → exec (.zoneGet c p) s = .next (s.declined .zoneGet c p .badArgument)) := by
  refine ⟨fun z l found => congrArg _ (acc.ok ?_), fun bad => congrArg _ (acc.refused ?_)⟩
  · have code : u8 z.code = p := by rw [← zoneOf_code found, u8_u8At l]
    unfold zoneGet
    rw [if_neg (by simpa using l), found]
    dsimp only
    rw [code]
  · unfold zoneGet
    rcases bad with l | high
    · exact if_pos l
    · rw [zoneOf_none high, ite_self]

/-! ## Tuners, stations and the phone port (R87, R103, R104, R135) -/

/-- A query that no check refuses is taken in every state, LIMP, QUIET and locked rear seats included (R172). -/
theorem accepts_query {k : Request} (takes : s.takesRequests = true) (fits : p.length ≤ 60) (client : c.toNat ≤ 5)
    (limp : k.limp = true) (quiet : k.quiet = true) (query : k.query = true) (rear : k.rear = .free) :
    s.Accepts k c p := by
  refine ⟨takes, fits, ?_⟩
  have free : k.rearRefuses s.port.rearLock c p = false := by
    unfold Request.rearRefuses
    rw [rear, query]
    simp
  unfold State.gate
  rw [if_neg (by omega), limp, quiet, free]
  simp

theorem exec_tunerGet (acc : s.Accepts .tunerGet c p) :
    (∀ x, p = [BitVec.ofNat 8 (tunerCode (some x))] →
      exec (.tunerGet c p) s = .next (s.served s .tunerGet c p (s.tunerFields x))) ∧
    (p ≠ [1#8] → p ≠ [2#8] → exec (.tunerGet c p) s = .next (s.declined .tunerGet c p .badArgument)) := by
  refine ⟨fun x e => congrArg _ (acc.ok ?_), fun one two => congrArg _ (acc.refused ?_)⟩
  · rw [e]
    cases x <;> rfl
  · unfold tunerGet
    split
    · exact absurd rfl one
    · exact absurd rfl two
    · rfl

theorem exec_stationList (acc : s.Accepts .stationList c p) :
    (p.length = 4 →
      let matching := s.stations.records.filter (fun r => u16At p 2 = 0 || r.code = some (u16At p 2))
      let listed := (matching.filter (fun r => u16At p 0 ≤ r.frequency)).take 16
      exec (.stationList c p) s = .next (s.served s .stationList c p
        ([s.stations.round] ++ u8 matching.length ++ u8 listed.length ++
          listed.flatMap (fun r => u16 r.frequency ++ u8 r.areaByte)))) ∧
    (p.length ≠ 4 → exec (.stationList c p) s = .next (s.declined .stationList c p .badArgument)) :=
  ⟨fun l => congrArg _ (acc.ok (if_neg (by simpa using l))), fun l => congrArg _ (acc.refused (if_pos l))⟩

theorem exec_stationGet (acc : s.Accepts .stationGet c p) :
    (∀ r, p.length = 2 → s.stations.find (u16At p 0) = some r →
      exec (.stationGet c p) s = .next (s.served s .stationGet c p (s.stationFields r)) ∧ u16 r.frequency = p) ∧
    (p.length = 2 → s.stations.find (u16At p 0) = none →
      exec (.stationGet c p) s = .next (s.declined .stationGet c p .notFound)) ∧
    (p.length ≠ 2 → exec (.stationGet c p) s = .next (s.declined .stationGet c p .badArgument)) := by
  refine ⟨fun r l found => ⟨congrArg _ (acc.ok ?_), ?_⟩, fun l none => congrArg _ (acc.refused ?_),
    fun l => congrArg _ (acc.refused (if_pos l))⟩
  · unfold stationGet
    rw [if_neg (by simpa using l), found]
  · have f : r.frequency = u16At p 0 := by simpa using List.find?_some found
    rw [f, u16_u16At l]
  · unfold stationGet
    rw [if_neg (by simpa using l), none]

theorem exec_phoneGet (acc : s.Accepts .phoneGet c p) :
    (p = [] → exec (.phoneGet c p) s = .next (s.served s .phoneGet c p s.phone.fields)) ∧
    (p ≠ [] → exec (.phoneGet c p) s = .next (s.declined .phoneGet c p .badArgument)) := by
  refine ⟨fun e => congrArg _ (acc.ok ?_), fun ne => congrArg _ (acc.refused ?_)⟩
  · rw [e]
    rfl
  · exact if_pos (by simpa using ne)

end

/-! ## The fields in the order of the rules -/

theorem State.tunerFields_eq (s : State) (x : TunerId) :
    let t := s.tuner x
    s.tunerFields x =
      [BitVec.ofNat 8 (tunerCode (some x))] ++ u8 t.role.code ++ u16 (t.frequency.getD 0) ++ u16 (t.code.getD 0) ++
        u8 t.users ++ flag t.watch ++ u8 t.activity.code ++ u8 (tunerCode t.partnerOf) ++ u8 t.af.code ++ u8 t.streak ++
        measurementBytes t.measurement ++ u8 (bandCode s.tuners.plan) ++ u8 s.tuners.link.code ++
        flag s.tuners.policy.diversity ++ flag s.tuners.policy.cancel ++ u8 s.tuners.policy.scan.code ++
        u8 s.tuners.policy.interval ++ u8 s.tuners.policy.hysteresis ++ u8 s.stations.bLow ++ u8 s.stations.bHigh ++
        u8 s.tuners.report.code ++ u16 (s.tuners.watch.getD 0) ++
        (if s.tuners.watch = none then [0#8]
          else if s.tuners.t1.watch = true ∨ s.tuners.t2.watch = true then [1#8] else [2#8]) := by
  intro t
  have watch : u8 s.watchState = if s.tuners.watch = none then [0#8]
      else if s.tuners.t1.watch = true ∨ s.tuners.t2.watch = true then [1#8] else [2#8] := by
    unfold State.watchState State.watchTuner
    cases s.tuners.watch with
    | none => rfl
    | some f => cases s.tuners.t1.watch <;> cases s.tuners.t2.watch <;> rfl
  unfold State.tunerFields TunerPolicy.bytes
  dsimp only
  rw [watch]
  simp only [List.append_assoc]
  rfl

/-- Settles O36: each query finds its record and reports it field by field. -/
theorem recordQueries : Obligations.RecordQueries := by
  refine ⟨fun s c p => ⟨exec_routeGet, exec_routeList, exec_zoneGet⟩, fun s c p => ⟨fun takes fits client => ?_, fun acc => ?_,
    exec_stationList, fun acc => ?_, fun acc => ?_⟩⟩
  · exact ⟨accepts_query takes fits client rfl rfl rfl rfl, accepts_query takes fits client rfl rfl rfl rfl,
      accepts_query takes fits client rfl rfl rfl rfl, accepts_query takes fits client rfl rfl rfl rfl⟩
  · obtain ⟨found, other⟩ := exec_tunerGet acc
    refine ⟨fun x e => ?_, other⟩
    rw [found x e, s.tunerFields_eq x, e]
    unfold measurementBytes
    dsimp only
    cases (s.tuner x).measurement with
    | none => rfl
    | some m => cases tag : m.tag <;> simp [tag, Tag.tunerCode, u8]
  · obtain ⟨found, other⟩ := exec_stationGet acc
    refine ⟨fun r l e => ?_, other⟩
    obtain ⟨reported, frequency⟩ := found r l e
    rw [reported]
    unfold State.stationFields Station.areaByte
    rw [frequency]
    cases r.last with
    | none => simp [orZero, u8, Stations.isInUse]
    | some m => simp [orZero, Stations.isInUse]
  · obtain ⟨empty, other⟩ := exec_phoneGet acc
    refine ⟨fun e => ?_, other⟩
    rw [empty e]
    unfold Phone.fields partnerBytes
    dsimp only
    cases s.phone.partner <;> rfl

end Sys2Proof.Machine
end

-- ==== support and settled obligations, part 15 ====
section
/-! SUPPORT. What re-runs, notices and the arbiter make of each route, and what the work of the blocks is. -/

namespace Sys2Proof.Machine

/-! ## Frames as work -/

theorem Route.Same.identity {r n : Route} (h : r.Same n) : n.identity = r.identity := by
  obtain ⟨h1, h2, h3, h4, h5, h6, h7⟩ := h
  simp [Route.identity, Route.handle, h1, h2, h3, h4, h5, h6, h7]

theorem Each.names {st : SupState} {floor : Int} {rs ns : List Route} (h : Each st floor rs ns) :
    ns.map Route.identity = rs.map Route.identity := h.map_eq _ (fun _ _ k => k.identity)

theorem TunerFrame.work {s t : State} (h : TunerFrame s t) : s.TunerWork t := ⟨h.rest, h.flags, h.each.names⟩

theorem TableFrame.work {p : Route → Prop} {l : Prop} {s t : State} (h : TableFrame p l s t) : s.TableWork t :=
  ⟨h.rest, h.flags⟩

/-! ## One relation through re-runs, notices and the arbiter -/

section
variable {R : Route → Route → Prop} {C : State → Prop}

theorem forall₂_refl (refl : ∀ r, R r r) (rs : List Route) : List.Forall₂ R rs rs := List.forall₂_same.2 (fun r _ => refl r)

theorem forall₂_trans (trans : ∀ a b c, R a b → R b c → R a c) {as bs cs : List Route} (h : List.Forall₂ R as bs)
    (k : List.Forall₂ R bs cs) : List.Forall₂ R as cs := by
  induction h generalizing cs with
  | nil => cases k; exact .nil
  | cons x _ ih => cases k with | cons y z => exact .cons (trans _ _ _ x y) (ih z)

/-- A relation that re-runs respect: a preorder that judging a route and ducking it satisfy, in the states of a kind. -/
structure Judges (C : State → Prop) (R : Route → Route → Prop) : Prop where
  stays : ∀ s t, TunerFrame s t → C s → C t
  refl : ∀ r, R r r
  trans : ∀ a b c, R a b → R b c → R a c
  judged : ∀ s rs r, C s → R r (s.judged rs r)
  ducked : ∀ s d r, C s → R r (s.withDuck d r)

/-- One that the arbiter's notices respect too. -/
structure Arbitrates (C : State → Prop) (R : Route → Route → Prop) : Prop extends Judges C R where
  notified : ∀ s c r, C s → R r (s.notified c r)

theorem Judges.rerun (h : Judges C R) (s : State) (c : C s) (d : Domain) : List.Forall₂ R s.routes (s.rerun d).routes := by
  have class' : ∀ k rs, List.Forall₂ R rs (s.judgeClass d k rs) := fun k rs => forall₂_map_of _ _ (fun r _ => by
    split
    · exact h.judged s rs r c
    · exact h.refl r)
  have duck : ∀ rs, List.Forall₂ R rs (s.duckPass d rs) := fun rs => forall₂_map_of _ _ (fun r _ => by
    split
    · exact h.ducked s _ r c
    · exact h.refl r)
  rw [s.rerun_routes]
  unfold State.rerunRoutes
  exact forall₂_trans h.trans (forall₂_trans h.trans (forall₂_trans h.trans (forall₂_trans h.trans
    (forall₂_trans h.trans (class' _ _) (class' _ _)) (class' _ _)) (class' _ _)) (class' _ _)) (duck _)

theorem Judges.rerunAll (h : Judges C R) (s : State) (c : C s) (ds : List Domain) :
    List.Forall₂ R s.routes (s.rerunAll ds).routes := by
  have fold : ∀ (es : List Domain) (t : State), C t →
      List.Forall₂ R t.routes (es.foldl (fun t d => if d ∈ ds then t.rerun d else t) t).routes := by
    intro es
    induction es with
    | nil => exact fun t _ => forall₂_refl h.refl _
    | cons d es ih =>
      intro t ct
      by_cases k : d ∈ ds
      · have ran := h.stays _ _ (.ofRoute (t.rerun_frame d)) ct
        simp only [List.foldl_cons, k, if_true]
        exact forall₂_trans h.trans (h.rerun t ct d) (ih _ ran)
      · simp only [List.foldl_cons, k, if_false]
        exact ih t ct
  exact fold _ s c

/-- A notice: the routes selected are told, then their domains are judged. -/
theorem Judges.notice (h : Judges C R) (s : State) (c : C s) (p : Route → Bool) (f : Route → Route)
    (k : ∀ r, Evolves s.sup.state s.mixer.alertFloor r (f r)) (told : ∀ r ∈ s.routes, p r = true → R r (f r)) :
    List.Forall₂ R s.routes (s.notice p f).routes := by
  have put : List.Forall₂ R s.routes (s.routes.map (fun r => if p r then f r else r)) := forall₂_map_of _ _ (fun r m => by
    split
    · rename_i e; exact told r m e
    · exact h.refl r)
  have frame := s.commitRoutes_frame (s.routes.map (fun r => if p r then f r else r)) (Each.map _ _ (fun r _ => by
    split
    · exact k r
    · exact .refl r))
  have ran := h.rerunAll _ (h.stays _ _ (.ofRoute frame) c) (domainsOf p s.routes)
  rw [State.commitRoutes_routes] at ran
  exact forall₂_trans h.trans put ran

namespace Arbitrates

variable (h : Arbitrates C R)
include h

theorem notifyTuner (s : State) (c : C s) (x : TunerId) (cond : Condition) :
    List.Forall₂ R s.routes (s.notifyTuner x cond).routes :=
  h.toJudges.notice s c _ _ (s.notified_evolves cond) (fun r _ _ => h.notified s cond r c)

theorem abandonRetune (s : State) (c : C s) (x : TunerId) : List.Forall₂ R s.routes (s.abandonRetune x).routes := by
  have set := h.stays _ _ (s.setTuner_frame x { s.tuner x with retune := none }) c
  have told := h.notifyTuner _ set x .available
  rw [State.setTuner_routes] at told
  exact told

theorem beginTuning (s : State) (c : C s) (x : TunerId) (k : RetuneKind) :
    List.Forall₂ R s.routes (s.beginTuning x k).routes := by
  have ended : ∀ t : Tuner, List.Forall₂ R s.routes ((s.setTuner x t).abandonRetune x).routes := fun t => by
    have told := h.abandonRetune _ (h.stays _ _ (s.setTuner_frame x t) c) x
    rw [State.setTuner_routes] at told
    exact told
  unfold State.beginTuning
  cases k with
  | jump f =>
    dsimp only
    rw [State.setTuner_routes]
    exact h.notifyTuner s c x _
  | switch dest confirm =>
    dsimp only
    split
    · exact ended _
    · rw [State.moveProgram_routes]
      exact h.notifyTuner s c x _
  | revert dest decoded =>
    dsimp only
    split
    · exact ended _
    · rw [State.moveProgram_routes]
      exact h.notifyTuner s c x _

theorem endFade (s : State) (c : C s) (x : TunerId) : List.Forall₂ R s.routes (s.endFade x).routes := by
  unfold State.endFade
  split
  · split
    · exact h.beginTuning s c x _
    · exact forall₂_refl h.refl _
  · exact forall₂_refl h.refl _

theorem endFades (s : State) (c : C s) : List.Forall₂ R s.routes s.endFades.routes := by
  have one := h.stays _ _ (s.endFade_frame .t1) c
  have two := h.stays _ _ ((s.endFade .t1).endFade_frame .t2) one
  exact forall₂_trans h.trans (forall₂_trans h.trans (h.endFade s c .t1) (h.endFade _ one .t2)) (h.endFade _ two .t1)

end Arbitrates

/-- After the fade phases that have ended the arbiter changes no route. -/
theorem State.arbitrate_routes (s : State) : s.arbitrate.routes = s.endFades.routes := by
  unfold State.arbitrate
  simp

theorem Arbitrates.arbitrate (h : Arbitrates C R) (s : State) (c : C s) :
    List.Forall₂ R s.routes s.arbitrate.routes := by
  rw [s.arbitrate_routes]
  exact h.endFades s c

end

/-- What the arbiter changes of a route leaves its fields, and a CLOSING route as it is but for condition and duck attenuation. -/
structure Route.Settles (r n : Route) : Prop where
  keeps : r.Keeps n
  closing : r.state = .closing → n = { r with condition := n.condition, duck := n.duck }

theorem Route.Settles.refl (r : Route) : r.Settles r := ⟨.refl r, fun _ => rfl⟩

theorem Route.Settles.trans {a b c : Route} (h : a.Settles b) (k : b.Settles c) : a.Settles c := by
  refine ⟨h.keeps.trans k.keeps, fun e => ?_⟩
  have first := h.closing e
  have second := k.closing (by rw [first]; exact e)
  rw [second, first]

theorem State.refresh_closing (s : State) (r : Route) (e : r.state = .closing) : s.refresh r = r := by
  unfold State.refresh
  rw [e]
  split <;> rfl

theorem State.withDuck_closing (s : State) (d : Nat) (r : Route) (e : r.state = .closing) :
    s.withDuck d r = { r with condition := (s.withDuck d r).condition, duck := (s.withDuck d r).duck } := by
  unfold State.withDuck
  split
  · rfl
  · rw [s.retarget_unchanged _ _ (.inl (by simp [e]))]

theorem State.notified_closing (s : State) (c : Condition) (r : Route) (e : r.state = .closing) :
    s.notified c r = { r with condition := (s.notified c r).condition, duck := (s.notified c r).duck } := by
  unfold State.notified
  dsimp only
  rw [if_neg (by simp [e, RouteState.sounding]), s.refresh_closing { r with condition := c } e]

theorem settles_arbitrates : Arbitrates (fun _ => True) Route.Settles where
  stays := fun _ _ _ _ => trivial
  refl := .refl
  trans := fun _ _ _ => .trans
  judged := fun s rs r _ => ⟨s.judged_keeps rs r, fun e => by
    unfold State.judged
    rw [if_pos e]⟩
  ducked := fun s d r _ => ⟨s.withDuck_keeps d r, s.withDuck_closing d r⟩
  notified := fun s c r _ => ⟨s.notified_keeps c r, s.notified_closing c r⟩

end Sys2Proof.Machine
end

-- ==== support and settled obligations, part 16 ====
section
/-! SUPPORT. What retirements make of the Route Table: which routes are removed, which are left CLOSING, which stay. -/

namespace Sys2Proof.Machine

/-! ## One route retired (R21) -/

/-- What retirement leaves of a route: nothing of one that is PENDING, SUSPENDED or at MUTE, else a route in CLOSING (R21). -/
def Route.retired (r : Route) : Option Route :=
  match r.state with
  | .closing => some r
  | .pending => none
  | .suspended => none
  | _ =>
    if r.applied = .mute then none
    else some { r with state := .closing, fadeMark := false, target := some .mute, step := r.ramp, running := true }

/-- A route without its rank. -/
def Route.unranked (r : Route) : Route := { r with rank := 0 }

theorem Route.retired_closing {r : Route} (h : r.state = .closing) : r.retired = some r := by
  unfold Route.retired
  rw [h]

theorem Route.retired_atOnce {r : Route} (h : r.state = .pending ∨ r.state = .suspended) : r.retired = none := by
  unfold Route.retired
  rcases h with h | h <;> rw [h]

theorem Route.retired_sounding {r : Route} (a : r.state ≠ .closing) (b : r.state ≠ .pending) (c : r.state ≠ .suspended) :
    r.retired = if r.applied = .mute then none
      else some { r with state := .closing, fadeMark := false, target := some .mute, step := r.ramp, running := true } := by
  unfold Route.retired
  cases e : r.state <;> simp_all

theorem Route.retired_none_iff (r : Route) : r.retired = none ↔
    r.state = .pending ∨ r.state = .suspended ∨ (r.state ≠ .closing ∧ r.applied = .mute) := by
  by_cases a : r.state = .closing
  · simp [Route.retired_closing a, a]
  · by_cases b : r.state = .pending
    · simp [Route.retired_atOnce (.inl b), b]
    · by_cases c : r.state = .suspended
      · simp [Route.retired_atOnce (.inr c), c]
      · rw [Route.retired_sounding a b c]
        by_cases m : r.applied = .mute <;> simp [m, a, b, c]

/-- The route a retirement leaves is CLOSING, and the route it was. -/
theorem Route.retired_some {r n : Route} (h : r.retired = some n) :
    n.state = .closing ∧ r.Same n ∧ n.cut = r.cut ∧ n.play = r.play := by
  by_cases a : r.state = .closing
  · rw [Route.retired_closing a] at h
    cases h
    exact ⟨a, .refl r, rfl, rfl⟩
  · by_cases b : r.state = .pending
    · rw [Route.retired_atOnce (.inl b)] at h
      cases h
    · by_cases c : r.state = .suspended
      · rw [Route.retired_atOnce (.inr c)] at h
        cases h
      · rw [Route.retired_sounding a b c] at h
        split at h
        · cases h
        · cases h
          exact ⟨rfl, ⟨rfl, rfl, rfl, rfl, rfl, rfl, rfl⟩, rfl, rfl⟩

theorem Route.retired_unranked (r : Route) : r.unranked.retired = r.retired.map Route.unranked := by
  unfold Route.retired Route.unranked
  cases e : r.state <;> simp [e] <;> split <;> simp_all

/-- A sounding or yielding route sent into CLOSING ramps toward MUTE (R21, R51). -/
theorem Route.close_audible {r : Route} (h : r.applied ≠ .mute) :
    r.close = { r with state := .closing, fadeMark := false, target := some .mute, step := r.ramp, running := true } := by
  unfold Route.close Route.aim
  cases e : r.applied with
  | mute => exact absurd e h
  | q a => simp

/-! ## The table, ranks aside -/

/-- The routes without their ranks. -/
def unranked (rs : List Route) : List Route := rs.map Route.unranked

theorem unranked_withoutRoute (r : Route) (rs : List Route) :
    unranked (withoutRoute r rs) = (unranked rs).filter (fun x => x.slot ≠ r.slot) := by
  unfold unranked withoutRoute
  rw [List.map_map, List.filter_map]
  refine List.map_congr_left (fun x _ => ?_)
  show (fallRank _ _ x).unranked = x.unranked
  rw [fallRank_rest]
  rfl

theorem State.removeRoute_unranked (s : State) (slot : Nat) (mark : Bool) :
    unranked (s.removeRoute slot mark).routes = (unranked s.routes).filter (fun x => x.slot ≠ slot) := by
  cases h : s.routeIn slot with
  | none =>
    have absent : ∀ x ∈ s.routes, x.slot ≠ slot := fun x m => by simpa using List.find?_eq_none.1 h x m
    unfold State.removeRoute
    rw [h]
    symm
    rw [List.filter_eq_self]
    intro x m
    obtain ⟨y, my, rfl⟩ := List.mem_map.1 m
    exact decide_eq_true (absent y my)
  | some r =>
    obtain ⟨-, e⟩ := s.routeIn_mem h
    rw [s.removeRoute_routes h, unranked_withoutRoute, e]

/-- What the retirement of one slot makes of a route. -/
def retiredIn (slots : List Nat) (x : Route) : Option Route := if x.slot ∈ slots then x.retired else some x

/-- The retirement of one slot, on the table without ranks. -/
theorem State.retireSlot_unranked (s : State) (o : Rising s.routes) (auto own : Bool) (slot : Nat) :
    unranked (s.retireSlot auto own slot).routes = (unranked s.routes).filterMap (retiredIn [slot]) := by
  have here : ∀ r x, s.routeIn slot = some r → x ∈ unranked s.routes → x.slot = slot → x = r.unranked := by
    intro r x h m e
    obtain ⟨mr, er⟩ := s.routeIn_mem h
    obtain ⟨y, my, rfl⟩ := List.mem_map.1 m
    rw [o.unique y my r mr (Eq.trans e er.symm)]
  have removed : ∀ r, s.routeIn slot = some r → r.retired = none →
      (unranked s.routes).filter (fun x => x.slot ≠ slot) = (unranked s.routes).filterMap (retiredIn [slot]) := by
    intro r h gone
    rw [← List.filterMap_eq_filter]
    refine List.filterMap_congr (fun x m => ?_)
    unfold retiredIn Option.guard
    by_cases e : x.slot = slot
    · obtain rfl := here r x h m e
      simp [e, Route.retired_unranked, gone]
    · simp [e]
  unfold State.retireSlot
  cases h : s.routeIn slot with
  | none =>
    have absent : ∀ x ∈ unranked s.routes, x.slot ≠ slot := fun x m => by
      obtain ⟨y, my, rfl⟩ := List.mem_map.1 m
      have away : y.slot ≠ slot := by simpa using List.find?_eq_none.1 h y my
      exact away
    symm
    refine (List.filterMap_congr (g := some) (fun x m => ?_)).trans List.filterMap_some
    simp [retiredIn, absent x m]
  | some r =>
    dsimp only
    split
    · rename_i closing
      symm
      refine (List.filterMap_congr (g := some) (fun x m => ?_)).trans List.filterMap_some
      unfold retiredIn
      by_cases e : x.slot = slot
      · rw [here r x h m e, Route.retired_unranked, Route.retired_closing closing]
        split <;> rfl
      · simp [e]
    · rename_i pending
      rw [s.removeRoute_unranked]
      exact removed r h (Route.retired_atOnce (.inl pending))
    · rename_i suspended
      rw [s.removeRoute_unranked]
      exact removed r h (Route.retired_atOnce (.inr suspended))
    · rename_i nc np ns
      have put : ∀ b : Bool, (if b then (s.putRoutes (onSlot slot Route.close s.routes)).markSlots (slotBit slot)
          else s.putRoutes (onSlot slot Route.close s.routes)).routes = onSlot slot Route.close s.routes := fun b => by
        cases b <;> simp
      split
      · rename_i mute
        rw [State.removeRoute_unranked, put auto]
        have gone := Route.retired_sounding nc np ns
        rw [if_pos mute] at gone
        rw [← removed r h gone]
        unfold unranked onSlot
        rw [List.map_map, List.filter_map, List.filter_map]
        have same : s.routes.filter ((fun x : Route => decide (x.slot ≠ slot)) ∘ Route.unranked ∘
            fun r => if r.slot = slot then r.close else r) =
            s.routes.filter ((fun x : Route => decide (x.slot ≠ slot)) ∘ Route.unranked) := by
          refine List.filter_congr (fun x _ => ?_)
          dsimp only [Function.comp, Route.unranked]
          split
          · rw [x.close_keeps.slot]
            rfl
          · rfl
        rw [same]
        refine List.map_congr_left (fun x m => ?_)
        have away : x.slot ≠ slot := of_decide_eq_true (List.mem_filter.1 m).2
        dsimp only [Function.comp]
        rw [if_neg away]
      · rename_i audible
        rw [put auto]
        obtain ⟨mr, er⟩ := s.routeIn_mem h
        unfold unranked onSlot
        rw [List.map_map, List.filterMap_map, ← List.filterMap_eq_map]
        refine List.filterMap_congr (fun x m => ?_)
        dsimp only [Function.comp]
        unfold retiredIn
        by_cases e : x.slot = slot
        · have xr : x = r := o.unique x m r mr (e.trans er.symm)
          subst xr
          have left := Route.retired_sounding nc np ns
          rw [if_neg audible] at left
          rw [if_pos e, if_pos (by simpa [Route.unranked] using e), Route.retired_unranked, left, Route.close_audible audible]
          rfl
        · rw [if_neg e, if_neg (by simpa [Route.unranked] using e)]

/-- Retirements one after another, on the table without ranks: each route of the slots is retired, the others stand. -/
theorem State.retireFold_unranked (auto own : Bool) (slots : List Nat) (s : State) (o : Rising s.routes) :
    unranked (slots.foldl (State.retireSlot · auto own) s).routes = (unranked s.routes).filterMap (retiredIn slots) := by
  induction slots generalizing s with
  | nil =>
    symm
    exact (List.filterMap_congr (g := some) (fun x _ => by simp [retiredIn])).trans List.filterMap_some
  | cons k ks ih =>
    rw [List.foldl_cons, ih _ ((s.retireSlot_upholds (l := True) auto own k).rising o), s.retireSlot_unranked o,
      List.filterMap_filterMap]
    refine List.filterMap_congr (fun x _ => ?_)
    unfold retiredIn
    by_cases e : x.slot = k
    · simp only [e, if_true, List.mem_cons, true_or]
      cases left : x.retired with
      | none => rfl
      | some y =>
        obtain ⟨closing, same, -⟩ := Route.retired_some left
        rw [Option.bind_some, Route.retired_closing closing]
        split <;> rfl
    · simp [e]

end Sys2Proof.Machine
end

-- ==== support and settled obligations, part 17 ====
section
/-! SUPPORT. Retirements with their re-runs, and the statements on retirements, alert cuts and tones. -/

namespace Sys2Proof.Machine

theorem forall₂_right {R : Route → Route → Prop} {rs ns : List Route} (h : List.Forall₂ R rs ns) :
    ∀ n ∈ ns, ∃ r ∈ rs, R r n := by
  induction h with
  | nil => exact fun n m => (List.not_mem_nil m).elim
  | cons e _ ih =>
    intro n m
    rcases List.mem_cons.1 m with rfl | m
    · exact ⟨_, by simp, e⟩
    · obtain ⟨r, mr, k⟩ := ih n m
      exact ⟨r, by simp [mr], k⟩

theorem forall₂_left {R : Route → Route → Prop} {rs ns : List Route} (h : List.Forall₂ R rs ns) :
    ∀ r ∈ rs, ∃ n ∈ ns, R r n := by
  induction h with
  | nil => exact fun r m => (List.not_mem_nil m).elim
  | cons e _ ih =>
    intro r m
    rcases List.mem_cons.1 m with rfl | m
    · exact ⟨_, by simp, e⟩
    · obtain ⟨n, mn, k⟩ := ih r m
      exact ⟨n, by simp [mn], k⟩

/-- The identities of some routes, picked by what an identity says. -/
theorem names_filter {p : Route → Bool} {q : RouteIdentity → Bool} (h : ∀ r, p r = q r.identity) (rs : List Route) :
    (rs.filter p).map Route.identity = (rs.map Route.identity).filter q := by
  rw [List.filter_map]
  congr 1
  exact List.filter_congr (fun r _ => h r)

theorem unranked_names (rs : List Route) : (unranked rs).map Route.identity = rs.map Route.identity := by
  unfold unranked
  rw [List.map_map]
  rfl

theorem Route.unranked_eq {x m : Route} (h : x.unranked = m.unranked) : m = { x with rank := m.rank } := by
  cases x
  cases m
  simp only [Route.unranked, Route.mk.injEq] at h ⊢
  simp [h]

/-- The route in a slot of an ordered table. -/
theorem State.routeIn_eq {s : State} (o : Rising s.routes) {r : Route} (m : r ∈ s.routes) : s.routeIn r.slot = some r := by
  cases e : s.routeIn r.slot with
  | none => simpa using List.find?_eq_none.1 e r m
  | some x =>
    obtain ⟨mx, ex⟩ := s.routeIn_mem e
    rw [o.unique x mx r m ex]

theorem State.routeIn_none {s : State} {slot : Nat} (h : ∀ n ∈ s.routes, n.slot ≠ slot) : s.routeIn slot = none :=
  List.find?_eq_none.2 (fun n m => by simpa using h n m)

/-! ## Retirements with their re-runs (R21, R22, R30) -/

section
variable {s : State} {auto own : Bool} {slots : List Nat}

theorem State.retireSlots_settles :
    List.Forall₂ Route.Settles (slots.foldl (State.retireSlot · auto own) s).routes (s.retireSlots auto own slots).routes :=
  settles_arbitrates.toJudges.rerunAll _ trivial _

/-- A route that retirements leave is one that stood, CLOSING where it was retired. -/
theorem State.retireSlots_from (o : Rising s.routes) :
    ∀ n ∈ (s.retireSlots auto own slots).routes, ∃ r ∈ s.routes, r.Same n ∧ n.cut = r.cut ∧
      (r.slot ∈ slots → r.retired ≠ none ∧ n.state = .closing ∧ n.play = r.play) := by
  intro n mn
  obtain ⟨m, mm, settles⟩ := forall₂_right State.retireSlots_settles n mn
  have there : m.unranked ∈ (unranked s.routes).filterMap (retiredIn slots) := by
    rw [← s.retireFold_unranked auto own slots o]
    exact List.mem_map.2 ⟨m, mm, rfl⟩
  obtain ⟨y, my, e⟩ := List.mem_filterMap.1 there
  obtain ⟨r, mr, rfl⟩ := List.mem_map.1 my
  unfold retiredIn at e
  by_cases k : r.slot ∈ slots
  · rw [if_pos (show r.unranked.slot ∈ slots from k), Route.retired_unranked] at e
    obtain ⟨x, left, ex⟩ := Option.map_eq_some_iff.1 e
    obtain ⟨closing, sx, cx, px⟩ := Route.retired_some left
    have mx := Route.unranked_eq ex
    have frozen := settles.closing (by rw [mx]; exact closing)
    have same : x.Same n := Route.Same.trans (by rw [mx]; exact ⟨rfl, rfl, rfl, rfl, rfl, rfl, rfl⟩) settles.keeps.same
    refine ⟨r, mr, sx.trans same, by rw [settles.keeps.cut, mx]; exact cx, fun _ => ⟨by rw [left]; simp, ?_, ?_⟩⟩
    · rw [frozen, mx]
      exact closing
    · rw [frozen, mx]
      exact px
  · rw [if_neg (show ¬r.unranked.slot ∈ slots from k)] at e
    have mr' := Route.unranked_eq (Option.some.inj e)
    have same : r.Same n := Route.Same.trans (by rw [mr']; exact ⟨rfl, rfl, rfl, rfl, rfl, rfl, rfl⟩) settles.keeps.same
    exact ⟨r, mr, same, by rw [settles.keeps.cut, mr'], fun i => absurd i k⟩

/-- A route that retirements do not remove goes on to stand, CLOSING where it was CLOSING or is retired. -/
theorem State.retireSlots_stays (o : Rising s.routes) {r : Route} (m : r ∈ s.routes)
    (h : r.slot ∉ slots ∨ r.retired ≠ none) :
    ∃ n ∈ (s.retireSlots auto own slots).routes, r.Same n ∧ (r.slot ∈ slots ∨ r.state = .closing → n.state = .closing) := by
  have stands : ∃ x, retiredIn slots r.unranked = some x ∧ r.Same x ∧
      (r.slot ∈ slots ∨ r.state = .closing → x.state = .closing) := by
    unfold retiredIn
    by_cases k : r.slot ∈ slots
    · rw [if_pos (show r.unranked.slot ∈ slots from k), Route.retired_unranked]
      cases left : r.retired with
      | none => exact absurd left (h.resolve_left (not_not.2 k))
      | some y =>
        obtain ⟨closing, same, -⟩ := Route.retired_some left
        exact ⟨y.unranked, rfl, same, fun _ => closing⟩
    · rw [if_neg (show ¬r.unranked.slot ∈ slots from k)]
      exact ⟨r.unranked, rfl, ⟨rfl, rfl, rfl, rfl, rfl, rfl, rfl⟩, fun c => c.resolve_left k⟩
  obtain ⟨x, ex, sx, cx⟩ := stands
  have there : x ∈ unranked (slots.foldl (State.retireSlot · auto own) s).routes := by
    rw [s.retireFold_unranked auto own slots o]
    exact List.mem_filterMap.2 ⟨r.unranked, List.mem_map.2 ⟨r, m, rfl⟩, ex⟩
  obtain ⟨y, my, rfl⟩ := List.mem_map.1 there
  obtain ⟨n, mn, settles⟩ := forall₂_left (State.retireSlots_settles (s := s) (auto := auto) (own := own)) y my
  refine ⟨n, mn, Route.Same.trans (a := r) (b := y) sx settles.keeps.same, fun c => ?_⟩
  have closing : y.state = .closing := cx c
  rw [settles.closing closing]
  exact closing

/-- The routes retirements do not name stay the routes they are, in order. -/
theorem State.retireSlots_names (o : Rising s.routes) {q : RouteIdentity → Bool}
    (h : ∀ r ∈ s.routes, r.slot ∈ slots → q r.identity = false) :
    ((s.retireSlots auto own slots).routes.map Route.identity).filter q = (s.routes.map Route.identity).filter q := by
  have settled : (s.retireSlots auto own slots).routes.map Route.identity =
      (slots.foldl (State.retireSlot · auto own) s).routes.map Route.identity :=
    forall₂_map_eq State.retireSlots_settles Route.identity (fun _ _ k => k.keeps.same.identity)
  rw [settled, ← unranked_names, s.retireFold_unranked auto own slots o, ← unranked_names s.routes]
  have h' : ∀ x ∈ unranked s.routes, x.slot ∈ slots → q x.identity = false := by
    intro x mx k
    obtain ⟨r, mr, rfl⟩ := List.mem_map.1 mx
    exact h r mr k
  generalize unranked s.routes = xs at h'
  induction xs with
  | nil => rfl
  | cons x xs ih =>
    have rest := ih (fun y my => h' y (by simp [my]))
    unfold retiredIn at rest ⊢
    by_cases k : x.slot ∈ slots
    · have out := h' x (by simp) k
      cases left : x.retired with
      | none => simpa [k, left, out] using rest
      | some y =>
        obtain ⟨-, same, -⟩ := Route.retired_some left
        simpa [k, left, out, same.identity] using rest
    · by_cases i : q x.identity = true <;> simp [k, i, rest]

/-! ## Reuse counts (R14) -/

theorem State.releaseRoute_reuse (s : State) (r : Route) : (s.releaseRoute r).reuse = s.reuse :=
  (s.releaseRoute_frame r).reuse

theorem State.putRoutes_reuse (s : State) (rs : List Route) : (s.putRoutes rs).reuse = s.reuse := by
  unfold State.putRoutes
  dsimp only
  split
  · rw [(State.referenceChange_frame _).reuse]
  · rfl

/-- The removal of a route raises the reuse count of its slot alone (R14). -/
theorem State.removeRoute_reuse (s : State) {slot : Nat} {r : Route} (h : s.routeIn slot = some r) (mark : Bool) :
    (s.removeRoute slot mark).reuse = tabSet s.reuse (slot - 1) (tabGet s.reuse (slot - 1) 0 + 1) := by
  unfold State.removeRoute
  rw [h]
  dsimp only
  split
  · rw [(State.markSlots_frame _ _).reuse, State.releaseRoute_reuse]
  · rw [State.releaseRoute_reuse]

theorem State.retireSlot_reuse (s : State) (auto own : Bool) {slot : Nat} {r : Route} (h : s.routeIn slot = some r) :
    (s.retireSlot auto own slot).reuse =
      if r.retired = none then tabSet s.reuse (slot - 1) (tabGet s.reuse (slot - 1) 0 + 1) else s.reuse := by
  obtain ⟨-, er⟩ := s.routeIn_mem h
  unfold State.retireSlot
  rw [h]
  dsimp only
  split
  · rename_i closing
    rw [Route.retired_closing closing]
    rfl
  · rename_i pending
    rw [if_pos (Route.retired_atOnce (.inl pending)), s.removeRoute_reuse h]
  · rename_i suspended
    rw [if_pos (Route.retired_atOnce (.inr suspended)), s.removeRoute_reuse h]
  · rename_i nc np ns
    rw [Route.retired_sounding nc np ns]
    have reuse : ∀ b : Bool, (if b then (s.putRoutes (onSlot slot Route.close s.routes)).markSlots (slotBit slot)
        else s.putRoutes (onSlot slot Route.close s.routes)).reuse = s.reuse := fun b => by
      cases b <;> simp [State.putRoutes_reuse]
    have routes : ∀ b : Bool, (if b then (s.putRoutes (onSlot slot Route.close s.routes)).markSlots (slotBit slot)
        else s.putRoutes (onSlot slot Route.close s.routes)).routes = onSlot slot Route.close s.routes := fun b => by
      cases b <;> simp
    have inSlot : ∀ u : State, u.routes = onSlot slot Route.close s.routes → u.routeIn slot = some r.close := by
      intro u e
      unfold State.routeIn at h ⊢
      rw [e]
      unfold onSlot
      rw [List.find?_map]
      have same : ((fun x : Route => decide (x.slot = slot)) ∘ fun r => if r.slot = slot then r.close else r) =
          fun x => decide (x.slot = slot) := by
        funext x
        dsimp only [Function.comp]
        split
        · rw [x.close_keeps.slot]
        · rfl
      rw [same, h, Option.map_some, if_pos er]
    split
    · exact (State.removeRoute_reuse _ (inSlot _ (routes auto)) _).trans (by rw [reuse auto, if_pos rfl])
    · exact (reuse auto).trans (if_neg (by simp)).symm

/-- Whether the retirement of a slot empties it. -/
def State.empties (s : State) (k : Nat) : Prop := ∃ x ∈ unranked s.routes, x.slot = k ∧ x.retired = none

theorem State.empties_iff {s : State} (o : Rising s.routes) {r : Route} (m : r ∈ s.routes) :
    s.empties r.slot ↔ r.retired = none := by
  constructor
  · rintro ⟨x, mx, e, gone⟩
    obtain ⟨y, my, rfl⟩ := List.mem_map.1 mx
    rw [o.unique y my r m e, Route.retired_unranked] at gone
    exact Option.map_eq_none_iff.1 gone
  · intro gone
    exact ⟨r.unranked, List.mem_map.2 ⟨r, m, rfl⟩, rfl, by rw [Route.retired_unranked, gone]; rfl⟩

theorem State.retireSlot_empties {s : State} (o : Rising s.routes) (auto own : Bool) (a k : Nat) :
    (s.retireSlot auto own a).empties k ↔ a ≠ k ∧ s.empties k := by
  unfold State.empties
  rw [s.retireSlot_unranked o]
  constructor
  · rintro ⟨x, mx, e, gone⟩
    obtain ⟨y, my, ey⟩ := List.mem_filterMap.1 mx
    unfold retiredIn at ey
    by_cases here : y.slot ∈ [a]
    · rw [if_pos here] at ey
      obtain ⟨closing, -⟩ := Route.retired_some ey
      rw [Route.retired_closing closing] at gone
      cases gone
    · rw [if_neg here] at ey
      obtain rfl := Option.some.inj ey
      exact ⟨fun h => here (by rw [h, e]; simp), y, my, e, gone⟩
  · rintro ⟨ne, x, mx, e, gone⟩
    refine ⟨x, List.mem_filterMap.2 ⟨x, mx, if_neg ?_⟩, e, gone⟩
    rw [e, List.mem_singleton]
    exact fun h => ne h.symm

open Classical in
/-- The reuse count of a slot after retirements one after another. -/
theorem State.retireFold_reuse (auto own : Bool) (slots : List Nat) {k : Nat} (low : 1 ≤ k) (high : k ≤ 24) (s : State)
    (o : Rising s.routes) :
    tabGet (slots.foldl (State.retireSlot · auto own) s).reuse (k - 1) 0 =
      if k ∈ slots ∧ s.empties k then tabGet s.reuse (k - 1) 0 + 1 else tabGet s.reuse (k - 1) 0 := by
  induction slots generalizing s with
  | nil => simp
  | cons a as ih =>
    have rest := ih _ ((s.retireSlot_upholds (l := True) auto own a).rising o)
    rw [List.foldl_cons, rest]
    simp only [State.retireSlot_empties o]
    cases found : s.routeIn a with
    | none =>
      have same : s.retireSlot auto own a = s := by
        unfold State.retireSlot
        rw [found]
      have absent : ∀ x ∈ s.routes, x.slot ≠ a := fun x m => by simpa using List.find?_eq_none.1 found x m
      rw [same]
      by_cases e : a = k
      · have not : ¬s.empties k := by
          rintro ⟨x, mx, ex, -⟩
          obtain ⟨y, my, rfl⟩ := List.mem_map.1 mx
          exact absent y my (Eq.trans ex e.symm)
        simp [not]
      · simp [e, Ne.symm e]
    | some r =>
      obtain ⟨mr, er⟩ := s.routeIn_mem found
      have slots := o.2 r mr
      rw [s.retireSlot_reuse auto own found]
      by_cases e : a = k
      · subst e
        have gone := State.empties_iff o mr
        rw [er] at gone
        by_cases left : r.retired = none
        · simp [gone, left, tabGet_tabSet]
          omega
        · simp [gone, left]
      · have other : tabGet (if r.retired = none then tabSet s.reuse (a - 1) (tabGet s.reuse (a - 1) 0 + 1) else s.reuse)
            (k - 1) 0 = tabGet s.reuse (k - 1) 0 := by
          split
          · rw [tabGet_tabSet, if_neg (by omega)]
          · rfl
        rw [other]
        simp [e, Ne.symm e]

/-- Retirements raise the reuse count of the slots they empty, by one (R14). -/
theorem State.retireSlots_reuse (o : Rising s.routes) {r : Route} (m : r ∈ s.routes) :
    tabGet (s.retireSlots auto own slots).reuse (r.slot - 1) 0 =
      if r.slot ∈ slots ∧ r.retired = none then tabGet s.reuse (r.slot - 1) 0 + 1 else tabGet s.reuse (r.slot - 1) 0 := by
  have range := o.2 r m
  have ran : (s.retireSlots auto own slots).reuse = (slots.foldl (State.retireSlot · auto own) s).reuse :=
    (State.rerunAll_frame _ _).reuse
  rw [ran, State.retireFold_reuse auto own slots range.1 range.2 s o]
  simp only [State.empties_iff o m]

end

end Sys2Proof.Machine
end

-- ==== support and settled obligations, part 18 ====
section
/-! SUPPORT. The statements on retirements, alert cuts and tones. -/

namespace Sys2Proof.Machine

theorem Route.Same.slot {r n : Route} (h : r.Same n) : n.slot = r.slot := h.1

theorem Route.Same.owner {r n : Route} (h : r.Same n) : n.owner = r.owner := h.2.2.1

theorem onSlot_slots (slot : Nat) (f : Route → Route) (rs : List Route) (h : ∀ r, (f r).slot = r.slot) :
    (onSlot slot f rs).map (fun r => r.slot) = rs.map (fun r => r.slot) := by
  refine forall₂_map_eq (R := fun r n => n.slot = r.slot) (onSlot_forall₂ _ _ _ (fun r _ _ => h r) (fun _ => rfl)) _ (fun _ _ k => k)

/-! ## Retirements that a request or an event ends with the arbiter (R21, R22) -/

section
variable {s : State} {auto own : Bool} {slots : List Nat}

theorem State.arbitrate_settles (s : State) : List.Forall₂ Route.Settles s.routes s.arbitrate.routes :=
  settles_arbitrates.arbitrate s trivial

theorem State.arbitrate_names (s : State) : s.arbitrate.routes.map Route.identity = s.routes.map Route.identity :=
  forall₂_map_eq s.arbitrate_settles Route.identity (fun _ _ k => k.keeps.same.identity)

theorem State.retireSlots_rising (o : Rising s.routes) : Rising (s.retireSlots auto own slots).routes :=
  (s.retireSlots_frame (fun _ => True) True (fun _ _ _ => id) auto own slots o).rising o

theorem State.retireSlots_lines (o : Rising s.routes) : (s.retireSlots auto own slots).lines = s.lines :=
  (s.retireSlots_frame (fun _ => True) True (fun _ _ _ => id) auto own slots o).lines

theorem State.retired_rising (o : Rising s.routes) : Rising (s.retireSlots auto own slots).arbitrate.routes :=
  (State.arbitrate_frame _).each.rising (State.retireSlots_rising o)

theorem State.retired_work (o : Rising s.routes) : s.TableWork (s.retireSlots auto own slots).arbitrate :=
  ((s.retireSlots_frame (fun _ => True) True (fun _ _ _ => id) auto own slots o).trans (fun _ _ _ => id)
    (.ofTuner (State.arbitrate_frame _))).work

theorem State.retireSlots_gone (o : Rising s.routes) {r : Route} (m : r ∈ s.routes) (i : r.slot ∈ slots)
    (gone : r.retired = none) : ∀ n ∈ (s.retireSlots auto own slots).routes, n.slot ≠ r.slot := by
  intro n mn e
  obtain ⟨x, mx, same, -, left⟩ := State.retireSlots_from o n mn
  have xr : x = r := o.unique x mx r m (same.slot.symm.trans e)
  rw [xr] at left
  exact (left i).1 gone

/-- A retired route that was PENDING, SUSPENDED or at MUTE is gone, its slot free with a higher reuse count (R14, R21). -/
theorem State.retired_gone (o : Rising s.routes) {r : Route} (m : r ∈ s.routes) (i : r.slot ∈ slots)
    (gone : r.retired = none) :
    (s.retireSlots auto own slots).arbitrate.routeIn r.slot = none ∧
      tabGet (s.retireSlots auto own slots).arbitrate.reuse (r.slot - 1) 0 = tabGet s.reuse (r.slot - 1) 0 + 1 := by
  constructor
  · refine State.routeIn_none (fun n mn e => ?_)
    obtain ⟨x, mx, settles⟩ := forall₂_right (State.arbitrate_settles _) n mn
    exact State.retireSlots_gone o m i gone x mx (settles.keeps.slot.symm.trans e)
  · rw [(State.arbitrate_frame _).reuse, State.retireSlots_reuse o m, if_pos ⟨i, gone⟩]

/-- A retired route that sounded, and one that was CLOSING, is CLOSING (R21). -/
theorem State.retired_left (o : Rising s.routes) {r : Route} (m : r ∈ s.routes) (h : r.slot ∈ slots ∨ r.state = .closing)
    (left : r.retired ≠ none) :
    (∃ n, (s.retireSlots auto own slots).arbitrate.routeIn r.slot = some n ∧ n.identity = r.identity ∧ n.state = .closing) ∧
      tabGet (s.retireSlots auto own slots).arbitrate.reuse (r.slot - 1) 0 = tabGet s.reuse (r.slot - 1) 0 := by
  constructor
  · obtain ⟨x, mx, same, closing⟩ := State.retireSlots_stays (auto := auto) (own := own) (slots := slots) o m (.inr left)
    obtain ⟨n, mn, settles⟩ := forall₂_left (State.arbitrate_settles _) x mx
    have sn := same.trans settles.keeps.same
    refine ⟨n, ?_, sn.identity, ?_⟩
    · rw [← sn.slot]
      exact State.routeIn_eq (State.retired_rising o) mn
    · rw [settles.closing (closing h)]
      exact closing h
  · rw [(State.arbitrate_frame _).reuse, State.retireSlots_reuse o m, if_neg (fun both => left both.2)]

theorem State.retired_names (o : Rising s.routes) {p : Route → Bool} {q : RouteIdentity → Bool}
    (e : ∀ r, p r = q r.identity) (h : ∀ r ∈ s.routes, r.slot ∈ slots → p r = false) :
    ((s.retireSlots auto own slots).arbitrate.routes.filter p).map Route.identity = (s.routes.filter p).map Route.identity := by
  rw [names_filter e, names_filter e, State.arbitrate_names, State.retireSlots_names o (fun r m i => by rw [← e]; exact h r m i)]

theorem State.retireSlots_others (o : Rising s.routes) (k : Nat) :
    ((s.retireSlots auto own [k]).routes.filter (fun x => x.slot ≠ k)).map Route.identity =
      (s.routes.filter (fun x => x.slot ≠ k)).map Route.identity := by
  have named := fun rs : List Route =>
    names_filter (p := fun x => x.slot ≠ k) (q := fun i => i.handle.slot ≠ k) (fun _ => rfl) rs
  rw [named, named]
  exact State.retireSlots_names o (fun r _ i => decide_eq_false (not_not.2 (List.mem_singleton.1 i)))

end

theorem Route.retired_ne_none (r : Route) : r.retired ≠ none ↔
    r.state = .closing ∨ (r.state ≠ .pending ∧ r.state ≠ .suspended ∧ r.applied ≠ .mute) := by
  rw [Ne, r.retired_none_iff]
  by_cases c : r.state = .closing
  · simp [c]
  · simp [c]

theorem RouteState.removedAtOnce_iff (st : RouteState) : st.removedAtOnce = true ↔ st = .pending ∨ st = .suspended := by
  unfold RouteState.removedAtOnce
  rw [Bool.or_eq_true, decide_eq_true_eq, decide_eq_true_eq]

/-! ## ROUTE_RETIRE, RETIRE_OWNER -/

theorem exec_routeRetire (s : State) (c : Byte) (p : List Byte) (acc : s.Accepts .routeRetire c p) :
    let good := p.length = 2 ∧ 1 ≤ u8At p 0 ∧ u8At p 0 ≤ 24
    (¬good → exec (.routeRetire c p) s = .next (s.declined .routeRetire c p .badArgument)) ∧
    (good → s.routeOf (handleAt p 0) = none →
      exec (.routeRetire c p) s = .next (s.declined .routeRetire c p .notFound)) ∧
    ∀ r, good → s.routeOf (handleAt p 0) = some r →
      (c ≠ 0 → c.toNat ≠ r.owner → exec (.routeRetire c p) s = .next (s.declined .routeRetire c p .notPermitted)) ∧
      (c = 0 ∨ c.toNat = r.owner →
        exec (.routeRetire c p) s = .next (s.served (s.retireSlots false true [r.slot]).arbitrate .routeRetire c p
          (if r.state = .pending ∨ r.state = .suspended then [0#8] else [1#8]))) := by
  intro good
  have named : ∀ e, good → s.namedRoute c p = .error e → routeRetire c p s = .refuse s e := fun e g n => by
    unfold routeRetire
    rw [if_neg (not_not.2 g.1), n]
  refine ⟨fun bad => ?_, fun g none => ?_, fun r g found => ⟨fun a b => ?_, fun a => ?_⟩⟩
  · refine congrArg _ (acc.refused ?_)
    unfold routeRetire
    by_cases l : p.length = 2
    · rw [if_neg (not_not.2 l), State.namedRoute_bad (fun slots => bad ⟨l, slots⟩)]
    · exact if_pos l
  · exact congrArg _ (acc.refused (named _ g (State.namedRoute_none g.2 none)))
  · exact congrArg _ (acc.refused (named _ g (State.namedRoute_other g.2 found a b)))
  · refine congrArg _ (acc.ok ?_)
    unfold routeRetire
    rw [if_neg (not_not.2 g.1), State.namedRoute_ok g.2 found a]
    dsimp only
    congr 1
    by_cases e : r.state = .pending ∨ r.state = .suspended
    · rw [if_pos e, if_pos ((RouteState.removedAtOnce_iff _).2 e)]
      rfl
    · rw [if_neg e, if_neg (fun x => e ((RouteState.removedAtOnce_iff _).1 x))]
      rfl

theorem exec_retireOwner (s : State) (c : Byte) (p : List Byte) (acc : s.Accepts .retireOwner c p) :
    let good := p.length = 1 ∧ u8At p 0 ≤ 7
    (¬good → exec (.retireOwner c p) s = .next (s.declined .retireOwner c p .badArgument)) ∧
    (good → c ≠ 0 → c.toNat ≠ u8At p 0 →
      exec (.retireOwner c p) s = .next (s.declined .retireOwner c p .notPermitted)) ∧
    (good → c = 0 ∨ c.toNat = u8At p 0 →
      let own := s.routes.filter (fun r => r.owner = u8At p 0 && r.state ≠ .closing)
      let gone := own.filter (fun r => r.state = .pending || r.state = .suspended)
      exec (.retireOwner c p) s =
        .next (s.served (s.retireSlots false false (own.map (fun r => r.slot))).arbitrate .retireOwner c p
          (u8 gone.length ++ u8 (own.length - gone.length)))) := by
  intro good
  have form : good → ¬(p.length ≠ 1 || 7 < u8At p 0) = true := fun ⟨l, x⟩ => by simp [l]; omega
  refine ⟨fun bad => ?_, fun g a b => ?_, fun g a => ?_⟩
  · refine congrArg _ (acc.refused (if_pos ?_))
    rw [Bool.or_eq_true, decide_eq_true_eq, decide_eq_true_eq]
    by_contra x
    exact bad ⟨by omega, by omega⟩
  · refine congrArg _ (acc.refused ?_)
    unfold retireOwner
    rw [if_neg (form g), if_pos (by
      rw [Bool.and_eq_true, decide_eq_true_eq, decide_eq_true_eq]
      exact ⟨a, b⟩)]
  · intro own gone
    refine congrArg _ (acc.ok ?_)
    unfold retireOwner
    rw [if_neg (form g), if_neg (by
      rw [Bool.and_eq_true, decide_eq_true_eq, decide_eq_true_eq]
      exact fun x => a.elim x.1 x.2)]
    rfl

/-- Settles O34: the slots named are retired, precedence is re-run and a fade phase may end; ranks aside, the table is the
filter and map of `retiredIn`. -/
theorem routesAreRetired : Obligations.RoutesAreRetired := by
  refine ⟨fun s c p acc o => ?_, fun s c p acc o => ?_⟩
  · obtain ⟨bad, missing, found⟩ := exec_routeRetire s c p acc
    refine ⟨bad, missing, fun r g e => ⟨(found r g e).1, fun a => ?_⟩⟩
    obtain ⟨m, -⟩ := State.routeOf_mem e
    have here : s.routeIn r.slot = some r := State.routeIn_eq o m
    refine ⟨_, (found r g e).2 a, State.retired_work o, ?_, fun gone => ?_, fun left => ?_⟩
    · exact State.retired_names (q := fun i => i.handle.slot ≠ r.slot) o (fun _ => rfl)
        (fun x _ i => decide_eq_false (not_not.2 (List.mem_singleton.1 i)))
    · exact State.retired_gone o m (by simp) (r.retired_none_iff.2 gone)
    · have stands := r.retired_ne_none.2 left
      refine ⟨?_, (State.retired_left o m (.inl (by simp)) stands).1⟩
      have rerun : (s.retireSlots false true [r.slot]).reuse = (s.retireSlot false true r.slot).reuse :=
        (State.rerunAll_frame _ _).reuse
      rw [(State.arbitrate_frame _).reuse, rerun, s.retireSlot_reuse _ _ here, if_neg stands]
  · obtain ⟨bad, other, done⟩ := exec_retireOwner s c p acc
    refine ⟨bad, other, fun g a => ?_⟩
    intro own gone others
    have named : ∀ r ∈ s.routes, r.owner = u8At p 0 → r.state ≠ .closing → r.slot ∈ own.map (fun r => r.slot) :=
      fun r m e n => List.mem_map.2 ⟨r, List.mem_filter.2 ⟨m, by simp [e, n]⟩, rfl⟩
    have ofOwner : ∀ r ∈ s.routes, r.slot ∈ own.map (fun r => r.slot) → r.owner = u8At p 0 := by
      intro r m i
      obtain ⟨x, mx, ex⟩ := List.mem_map.1 i
      obtain ⟨mx, hx⟩ := List.mem_filter.1 mx
      rw [← Rising.unique o x mx r m ex]
      simp at hx
      exact hx.1
    have slotOrClosing : ∀ r ∈ s.routes, r.owner = u8At p 0 → r.slot ∈ own.map (fun r => r.slot) ∨ r.state = .closing :=
      fun r m e => or_iff_not_imp_right.2 (named r m e)
    refine ⟨_, done g a, State.retired_work o, ?_, fun n mn e => ?_, fun r m e => ⟨fun goes => ?_, fun left => ?_⟩⟩
    · exact State.retired_names (q := fun i => i.owner ≠ u8At p 0) o (fun _ => rfl)
        (fun r m i => decide_eq_false (not_not.2 (ofOwner r m i)))
    · obtain ⟨x, mx, settles⟩ := forall₂_right (State.arbitrate_settles _) n mn
      obtain ⟨r, m, same, -, left⟩ := State.retireSlots_from o x mx
      have owner : r.owner = u8At p 0 := same.owner.symm.trans (settles.keeps.owner.symm.trans e)
      have closing : x.state = .closing := by
        rcases slotOrClosing r m owner with i | closing
        · exact (left i).2.1
        · obtain ⟨y, my, sy, cy⟩ := State.retireSlots_stays (auto := false) (own := false)
            (slots := own.map (fun r => r.slot)) o m (.inr (by rw [Route.retired_closing closing]; simp))
          have xy : y = x := (State.retireSlots_rising o).unique y my x mx (sy.slot.trans same.slot.symm)
          rw [← xy]
          exact cy (.inr closing)
      rw [settles.closing closing]
      exact closing
    · have notClosing : r.state ≠ .closing := by
        rcases goes with h | h | h
        · simp [h]
        · simp [h]
        · exact h.1
      exact State.retired_gone o m (named r m e notClosing) (r.retired_none_iff.2 goes)
    · exact (State.retired_left o m (slotOrClosing r m e) (r.retired_ne_none.2 left)).symm

/-! ## Ends of alerts and tones (R30, R154, R159) -/

theorem State.unlessHeld_works {s : State} (h : s.Works) (t : State) : s.unlessHeld t = t := if_neg h

/-- A pending flag stands as flags join (R177). -/
theorem flag_stands {n i : Nat} {a b : BitVec n} (h : a ||| b = b) (k : a.getLsbD i = true) : b.getLsbD i = true := by
  rw [← h, BitVec.getLsbD_or, k, Bool.true_or]

section
variable {s : State}

/-- The table with one route changed in fields that name no route, and its slot retired (R30). -/
theorem State.retireChanged (o : Rising s.routes) {r : Route} (m : r ∈ s.routes) (f : Route → Route)
    (same : ∀ x : Route, x.Same (f x)) (auto own : Bool) :
    let t := { s with routes := onSlot r.slot f s.routes }.retireSlots auto own [r.slot]
    (t.routes.filter (fun x => x.slot ≠ r.slot)).map Route.identity =
        (s.routes.filter (fun x => x.slot ≠ r.slot)).map Route.identity ∧
      (∀ n ∈ t.routes, n.slot = r.slot → n.identity = r.identity ∧ n.state = .closing ∧ n.cut = (f r).cut ∧
        n.play = (f r).play) ∧
      ((f r).retired ≠ none → t.routeIn r.slot ≠ none) := by
  intro t
  have routes := onSlot_eq o m f
  have each : List.Forall₂ Route.Same s.routes (onSlot r.slot f s.routes) :=
    onSlot_forall₂ _ _ _ (fun x _ _ => same x) Route.Same.refl
  have rising : Rising (onSlot r.slot f s.routes) :=
    rising_of_map (onSlot_slots _ _ _ (fun x => (same x).slot)) o
  have changed : ∀ x ∈ onSlot r.slot f s.routes, x.slot = r.slot → x = f r := by
    intro x mx e
    rw [routes] at mx
    obtain ⟨y, my, rfl⟩ := List.mem_map.1 mx
    by_cases k : y.slot = r.slot
    · exact if_pos k
    · rw [if_neg k] at e
      exact absurd e k
  have there : f r ∈ onSlot r.slot f s.routes := by
    rw [routes]
    exact List.mem_map.2 ⟨r, m, if_pos rfl⟩
  refine ⟨?_, fun n mn e => ?_, fun left => ?_⟩
  · refine (State.retireSlots_others (s := { s with routes := onSlot r.slot f s.routes }) rising r.slot).trans ?_
    have named := fun rs : List Route =>
      names_filter (p := fun x => x.slot ≠ r.slot) (q := fun i => i.handle.slot ≠ r.slot) (fun _ => rfl) rs
    rw [named, named, forall₂_map_eq each Route.identity (fun _ _ k => k.identity)]
  · obtain ⟨x, mx, sx, cut, closed⟩ := State.retireSlots_from rising n mn
    have ex := changed x mx (sx.slot.symm.trans e)
    subst ex
    obtain ⟨-, closing, play⟩ := closed (by simp [(same r).slot])
    exact ⟨((same r).trans sx).identity, closing, cut, play⟩
  · obtain ⟨n, mn, sn, -⟩ := State.retireSlots_stays (auto := auto) (own := own) (slots := [r.slot])
      (s := { s with routes := onSlot r.slot f s.routes }) rising there (.inr left)
    have here := State.routeIn_eq (State.retireSlots_rising rising) mn
    rw [sn.slot, (same r).slot] at here
    rw [here]
    simp

theorem Line.latch_eq (h : Handle) (l : Line) :
    l.latch h = if l.state = .asserted ∧ h ∈ l.routes then { l with state := .latchedOut } else l := by
  unfold Line.latch
  simp

end

/-- Settles O35: the route is changed in place, then its slot is retired. -/
theorem alertsAndTonesEnd : Obligations.AlertsAndTonesEnd := by
  refine ⟨fun s r works o m => ?_, fun s r works o m => ?_⟩
  · have here : s.routeIn r.slot = some r := State.routeIn_eq o m
    have run : exec (.alertCut r.slot) s = .next (s.alertCut r.slot) := congrArg _ (s.unlessHeld_works works _)
    refine ⟨fun h => ?_, fun alert sounds => ?_⟩
    · rw [run]
      unfold State.alertCut
      rw [here]
      dsimp only
      rw [if_neg (by simpa using fun a => h.resolve_left (not_not.2 a))]
    · obtain ⟨others, closed, stays⟩ := State.retireChanged o m (fun r => { r with cut := true })
        (fun _ => ⟨rfl, rfl, rfl, rfl, rfl, rfl, rfl⟩) true false
      have frame := (s.alertCut_frame True r.slot o).frame.work
      have cut : s.alertCut r.slot =
          let s2 := ({ s with routes := onSlot r.slot (fun r => { r with cut := true }) s.routes }.retireSlots true false
            [r.slot]).raise .alertCut
          if r.owner = 7 then { s2 with lines := s2.lines.map (Line.latch r.handle) } else s2 := by
        unfold State.alertCut
        rw [here]
        exact if_pos (by simp [alert, sounds])
      have routes : (s.alertCut r.slot).routes =
          ({ s with routes := onSlot r.slot (fun r => { r with cut := true }) s.routes }.retireSlots true false
            [r.slot]).routes := by
        rw [cut]
        dsimp only
        split <;> rfl
      have flag : (s.alertCut r.slot).events.flags.getLsbD 3 = true := by
        have raised : ∀ t : State, (t.raise .alertCut).events.flags.getLsbD 3 = true := fun t => by
          rw [State.raise_flags, BitVec.getLsbD_or]
          simp [EventSource.bit, EventSource.number]
        rw [cut]
        dsimp only
        split <;> exact raised _
      refine ⟨_, run, frame, flag, by rw [routes]; exact others, fun n mn e => ?_, fun a b c => ?_, fun i => ?_⟩
      · rw [routes] at mn
        obtain ⟨same, closing, cutting, -⟩ := closed n mn e
        exact ⟨same, closing, cutting⟩
      · have stands := stays ((Route.retired_ne_none _).2 (.inr ⟨b, c, a⟩))
        unfold State.routeIn at stands ⊢
        rw [routes]
        exact stands
      · have rising : Rising (onSlot r.slot (fun r => { r with cut := true }) s.routes) :=
          rising_of_map (onSlot_slots _ _ _ (fun _ => rfl)) o
        have lines : ({ s with routes := onSlot r.slot (fun r => { r with cut := true }) s.routes }.retireSlots true false
            [r.slot]).lines = s.lines := State.retireSlots_lines rising
        rw [cut]
        dsimp only
        by_cases seven : r.owner = 7
        · simp [seven, lines, Line.latch_eq]
        · simp [seven, lines]
  · have here : s.routeIn r.slot = some r := State.routeIn_eq o m
    have run : exec (.tonePatternEnd r.slot) s = .next (s.tonePatternEnd r.slot) := congrArg _ (s.unlessHeld_works works _)
    refine ⟨fun other => ?_, fun n tone => ⟨fun endless => ?_, fun finite => ?_⟩⟩
    · rw [run]
      unfold State.tonePatternEnd
      rw [here]
      dsimp only
      split
      · rename_i n e
        exact absurd e (other n)
      · rfl
    · rw [run]
      unfold State.tonePatternEnd
      rw [here]
      dsimp only
      rw [tone]
      exact congrArg _ (if_pos endless)
    · obtain ⟨others, closed, stays⟩ := State.retireChanged o m (fun r => { r with play := none })
        (fun _ => ⟨rfl, rfl, rfl, rfl, rfl, rfl, rfl⟩) true false
      have ended : s.tonePatternEnd r.slot =
          { s with routes := onSlot r.slot (fun r => { r with play := none }) s.routes }.retireSlots true false [r.slot] := by
        unfold State.tonePatternEnd
        rw [here]
        dsimp only
        rw [tone]
        exact if_neg finite
      have frame := (s.tonePatternEnd_frame (fun _ => True) True (fun _ _ _ => id) r.slot o).work
      rw [ended] at run frame
      refine ⟨_, run, frame, others, fun x mx e => ?_, fun a b c => ?_⟩
      · obtain ⟨same, closing, -, play⟩ := closed x mx e
        exact ⟨same, closing, play⟩
      · exact stays ((Route.retired_ne_none _).2 (.inr ⟨b, c, a⟩))

end Sys2Proof.Machine
end

-- ==== support and settled obligations, part 19 ====
section
/-! SUPPORT. Free slots, and the routes a direct line opens and retires. -/

namespace Sys2Proof.Machine

/-! ## Free slots (R19) -/

theorem Rising.nodup {rs : List Route} (h : Rising rs) : (rs.map (fun r => r.slot)).Nodup := by
  refine List.pairwise_map.2 (h.1.imp (fun {a b} less => ?_))
  exact Nat.ne_of_lt less

theorem Rising.length_le {rs : List Route} (h : Rising rs) : rs.length ≤ 24 := by
  have sub : rs.map (fun r => r.slot) ⊆ List.range' 1 24 := by
    intro k m
    obtain ⟨r, mr, rfl⟩ := List.mem_map.1 m
    have := h.2 r mr
    exact List.mem_range'_1.2 (by omega)
  simpa using (h.nodup.subperm sub).length_le

theorem State.length_of_freeSlot {s : State} (o : Rising s.routes) {k : Nat} (h : s.freeSlot = some k) :
    s.routes.length < 24 := by
  obtain ⟨range, free⟩ := s.freeSlot_spec h
  have nodup : (k :: s.routes.map (fun r => r.slot)).Nodup := by
    refine List.nodup_cons.2 ⟨fun m => ?_, o.nodup⟩
    obtain ⟨r, mr, e⟩ := List.mem_map.1 m
    exact free r mr e
  have sub : k :: s.routes.map (fun r => r.slot) ⊆ List.range' 1 24 := by
    intro j m
    refine List.mem_range'_1.2 ?_
    rcases List.mem_cons.1 m with rfl | m
    · omega
    · obtain ⟨r, mr, rfl⟩ := List.mem_map.1 m
      have := o.2 r mr
      omega
  have := (nodup.subperm sub).length_le
  simpa using this

theorem State.length_of_full {s : State} (o : Rising s.routes) (h : s.freeSlot = none) : s.routes.length = 24 := by
  have taken : List.range' 1 24 ⊆ s.routes.map (fun r => r.slot) := by
    intro k m
    have range := List.mem_range'_1.1 m
    unfold State.freeSlot at h
    have full := List.find?_eq_none.1 (Option.map_eq_none_iff.1 h) (k - 1) (List.mem_range.2 (by omega))
    rw [List.all_eq_true] at full
    by_contra free
    refine full (fun r mr => decide_eq_true (fun e => free (List.mem_map.2 ⟨r, mr, ?_⟩)))
    omega
  have most := ((List.nodup_range' (s := 1) (n := 24)).subperm taken).length_le
  have least := o.length_le
  simp only [List.length_range', List.length_map] at most
  omega

/-! ## One route opened -/

theorem insertRoute_length (r : Route) (rs : List Route) : (insertRoute r rs).length = rs.length + 1 :=
  (insertRoute_perm r rs).length_eq

/-- The routes but the one inserted. -/
theorem insertRoute_filter (r : Route) (rs : List Route) (p : Route → Bool) (h : p r = false) :
    (insertRoute r rs).filter p = rs.filter p := by
  induction rs with
  | nil => simp [insertRoute, h]
  | cons x xs ih =>
    unfold insertRoute
    split
    · simp [h]
    · simp [List.filter_cons, ih]

theorem State.firstEntry_same (s : State) (r : Route) : r.Same (s.firstEntry r) := by
  unfold State.firstEntry
  split
  · exact r.suspend_keeps.same
  · exact (s.enterRising_keeps r).same
  · exact (s.enterPending_keeps r).same

theorem State.referenceChange_routes (s : State) : s.referenceChange.routes = s.routes := by
  unfold State.referenceChange
  rw [State.raiseIf_routes]

/-- The table after an opening: the route in its place, in its first state, and the domain judged. -/
theorem State.openRoute_settles (s : State) (r : Route) :
    List.Forall₂ Route.Settles (insertRoute (s.firstEntry r) s.routes) (s.openRoute r).routes := by
  have judged : ∀ t : State, List.Forall₂ Route.Settles t.routes (t.rerun r.zone.domain).routes :=
    fun t => settles_arbitrates.toJudges.rerun t trivial _
  unfold State.openRoute
  extract_lets n s1 s2
  have routes : s2.routes = insertRoute n s.routes := by
    show (if _ then _ else _ : State).routes = _
    split
    · exact State.referenceChange_routes s1
    · rfl
  rw [← routes]
  exact judged s2

/-! ## A direct line's routes (R29, R157) -/

/-- What an asserted line does for one of its zones. -/
def State.openLine (i : Fin 4) (l : Line) (t : State) (z : Zone) : State :=
  let (u, hs) := t.openAlert i z l.pattern l.level
  { u with lines := u.lines.set i { u.lines.get i with routes := (u.lines.get i).routes ++ hs } }

/-- What openings for zones do: the identities of the routes opened, one a zone in order, as far as slots are free. -/
structure LineOpens (i : Fin 4) (l : Line) (t u : State) (zs : List Zone) (ids : List RouteIdentity) : Prop where
  lines : u.lines = t.lines.set i
    { t.lines.get i with routes := (t.lines.get i).routes ++ ids.map (fun d => d.handle) }
  zones : ids.map (fun d => d.zone) = zs.take ids.length
  count : ids.length = min zs.length (24 - t.routes.length)
  kind : ∀ d ∈ ids, d.owner = 7 ∧ d.cls = .alert ∧ d.source = .tone l.pattern ∧ d.line = some i
  there : ∀ d ∈ ids, d ∈ u.routes.map Route.identity
  apart : ∀ d ∈ ids, ∀ r ∈ t.routes, r.slot ≠ d.handle.slot
  others : (u.routes.map Route.identity).filter (fun d => d.handle ∉ ids.map (fun d => d.handle)) = t.routes.map Route.identity
  flags : t.events.flags ||| u.events.flags = u.events.flags
  refused : 24 < t.routes.length + zs.length → u.events.flags.getLsbD 2 = true
  rising : Rising u.routes

theorem quad_set_self {α : Type} (q : Quad α) (i : Fin 4) : q.set i (q.get i) = q := by
  match i with
  | 0 => rfl
  | 1 => rfl
  | 2 => rfl
  | 3 => rfl

theorem quad_set_set {α : Type} (q : Quad α) (i : Fin 4) (x y : α) : (q.set i x).set i y = q.set i y := by
  match i with
  | 0 => rfl
  | 1 => rfl
  | 2 => rfl
  | 3 => rfl

/-- A line whose route list gets nothing more. -/
theorem quad_set_routes (q : Quad Line) (i : Fin 4) :
    q.set i { q.get i with routes := (q.get i).routes ++ [] } = q := by
  rw [List.append_nil]
  exact quad_set_self q i

theorem LineOpens.nil {i : Fin 4} {l : Line} {t : State} (o : Rising t.routes) : LineOpens i l t t [] [] where
  lines := (quad_set_routes t.lines i).symm
  zones := rfl
  count := by simp
  kind := by simp
  there := by simp
  apart := by simp
  others := by simp
  flags := by simp
  refused := fun h => by have := o.length_le; simp at h; omega
  rising := o

/-- No slot free: the zone gets no route, and AUTO_REFUSED is raised (R29). -/
theorem State.openLine_full {i : Fin 4} {l : Line} {t : State} (z : Zone) (h : t.freeSlot = none) :
    t.openLine i l z = t.raise .autoRefused := by
  unfold State.openLine State.openAlert
  rw [h]
  dsimp only
  rw [quad_set_routes]

theorem State.openLine_flags (i : Fin 4) (l : Line) (t : State) (z : Zone) :
    t.events.flags ||| (t.openLine i l z).events.flags = (t.openLine i l z).events.flags :=
  (t.openAlert_frame i z l.pattern l.level).flags

/-- A slot free: one ALERT route of owner 7 opens in it for the zone. -/
theorem State.openLine_free {i : Fin 4} {l : Line} {t : State} (z : Zone) (o : Rising t.routes) {k : Nat}
    (h : t.freeSlot = some k) :
    ∃ d, LineOpens i l t (t.openLine i l z) [z] [d] ∧ (t.openLine i l z).routes.length = t.routes.length + 1 := by
  obtain ⟨range, free⟩ := t.freeSlot_spec h
  let r := t.newRoute k 7 z .alert (.tone l.pattern) l.level t.defaultRamp.alert (some t.alertMax) none .available (some i)
  let u := ((t.openRoute r).markSlots (slotBit k)).raise .routeAuto
  have opened : t.openLine i l z =
      { u with lines := u.lines.set i { u.lines.get i with routes := (u.lines.get i).routes ++ [r.handle] } } := by
    unfold State.openLine State.openAlert
    rw [h]
  have settles := t.openRoute_settles r
  have same : r.Same (t.firstEntry r) := t.firstEntry_same r
  have routes : (t.openLine i l z).routes = (t.openRoute r).routes := by
    rw [opened]
    simp [u]
  have names : (t.openLine i l z).routes.map Route.identity = (insertRoute (t.firstEntry r) t.routes).map Route.identity := by
    rw [routes]
    exact forall₂_map_eq settles Route.identity (fun _ _ k => k.keeps.same.identity)
  have lines : u.lines = t.lines := (((t.openAlert_frame i z l.pattern l.level).lines).symm.trans (by
    unfold State.openAlert
    rw [h])).symm
  have frame := t.openAlert_frame i z l.pattern l.level
  refine ⟨r.identity, ⟨?_, rfl, ?_, ?_, ?_, ?_, ?_, t.openLine_flags i l z, fun more => ?_, ?_⟩, ?_⟩
  · rw [opened, lines]
    rfl
  · have := t.length_of_freeSlot o h
    simp
    omega
  · intro d m
    obtain rfl := List.mem_singleton.1 m
    exact ⟨rfl, rfl, rfl, rfl⟩
  · intro d m
    obtain rfl := List.mem_singleton.1 m
    rw [names]
    exact List.mem_map.2 ⟨_, (mem_insertRoute _ _ _).2 (.inl rfl), same.identity⟩
  · intro d m x mx
    obtain rfl := List.mem_singleton.1 m
    exact free x mx
  · have away : ∀ x ∈ t.routes, x.handle ≠ r.handle := fun x mx e => free x mx (congrArg Handle.slot e)
    have named := fun rs : List Route =>
      names_filter (p := fun x => x.handle ∉ [r.handle]) (q := fun d => d.handle ∉ [r.handle]) (fun _ => rfl) rs
    show List.filter (fun d : RouteIdentity => d.handle ∉ [r.handle]) _ = _
    rw [names, ← named, insertRoute_filter _ _ _ (by
      have : (t.firstEntry r).handle = r.handle := congrArg RouteIdentity.handle same.identity
      simp [this]), List.filter_eq_self.2 (fun x mx => by simpa using away x mx)]
  · have := t.length_of_freeSlot o h
    simp at more
    omega
  · have rising := frame.rising o
    unfold State.openLine
    exact rising
  · have count := congrArg List.length names
    simpa [insertRoute_length] using count

theorem LineOpens.cons {i : Fin 4} {l : Line} {t u v : State} {z : Zone} {zs : List Zone} {d : RouteIdentity}
    {ids : List RouteIdentity} (h : LineOpens i l t u [z] [d]) (k : LineOpens i l u v zs ids)
    (n : u.routes.length = t.routes.length + 1) (room : t.routes.length < 24) : LineOpens i l t v (z :: zs) (d :: ids) where
  lines := by
    rw [k.lines, h.lines]
    simp [quad_set_set]
  zones := by
    have e : [d].map (fun d => d.zone) = [z] := h.zones
    simp at e
    simp [k.zones, e]
  count := by
    have := k.count
    simp only [List.length_cons]
    omega
  kind := by
    intro e m
    rcases List.mem_cons.1 m with rfl | m
    · exact h.kind _ (by simp)
    · exact k.kind e m
  there := by
    intro e m
    rcases List.mem_cons.1 m with rfl | m
    · have old := h.there e (by simp)
      rw [← k.others] at old
      exact (List.mem_filter.1 old).1
    · exact k.there e m
  apart := by
    intro e m r mr
    rcases List.mem_cons.1 m with rfl | m
    · exact h.apart e (by simp) r mr
    · have old : r.identity ∈ t.routes.map Route.identity := List.mem_map.2 ⟨r, mr, rfl⟩
      rw [← h.others] at old
      obtain ⟨x, mx, ex⟩ := List.mem_map.1 (List.mem_filter.1 old).1
      have := k.apart e m x mx
      rwa [show x.slot = r.slot from congrArg (fun q : RouteIdentity => q.handle.slot) ex] at this
  others := by
    rw [← h.others, ← k.others, List.filter_filter]
    refine List.filter_congr (fun e _ => ?_)
    simp
  flags := by
    rw [← k.flags, ← h.flags]
    simp only [BitVec.or_assoc]
    simp [← BitVec.or_assoc]
  refused := fun more => k.refused (by simp at more; omega)
  rising := k.rising

/-- The openings of a line for its zones. -/
theorem State.openLines {i : Fin 4} {l : Line} (zs : List Zone) (t : State) (o : Rising t.routes) :
    ∃ ids, LineOpens i l t (zs.foldl (State.openLine i l) t) zs ids := by
  induction zs generalizing t with
  | nil => exact ⟨[], .nil o⟩
  | cons z zs ih =>
    rw [List.foldl_cons]
    cases h : t.freeSlot with
    | some k =>
      obtain ⟨d, one, n⟩ := State.openLine_free (i := i) (l := l) z o h
      obtain ⟨ids, rest⟩ := ih _ one.rising
      exact ⟨d :: ids, one.cons rest n (t.length_of_freeSlot o h)⟩
    | none =>
      have full := t.length_of_full o h
      rw [State.openLine_full z h]
      obtain ⟨ids, rest⟩ := ih (t.raise .autoRefused) o
      have none : ids = [] := List.eq_nil_of_length_eq_zero (by
        have := rest.count
        simp only [State.raise_routes] at this
        omega)
      subst none
      have raised : (t.raise .autoRefused).events.flags.getLsbD 2 = true := by
        rw [State.raise_flags, BitVec.getLsbD_or]
        simp [EventSource.bit, EventSource.number]
      refine ⟨[], { rest with zones := rfl, count := by simp; omega, flags := ?_, refused := fun _ => flag_stands rest.flags raised }⟩
      rw [← rest.flags, State.raise_flags]
      simp [← BitVec.or_assoc]

theorem exists_map_identity (rs : List Route) (ids : List RouteIdentity) (h : ∀ d ∈ ids, d ∈ rs.map Route.identity) :
    ∃ ns : List Route, ns.map Route.identity = ids ∧ ∀ n ∈ ns, n ∈ rs := by
  induction ids with
  | nil => exact ⟨[], rfl, by simp⟩
  | cons d ds ih =>
    obtain ⟨ns, e, there⟩ := ih (fun x m => h x (by simp [m]))
    obtain ⟨n, mn, en⟩ := List.mem_map.1 (h d (by simp))
    refine ⟨n :: ns, by simp [e, en], fun x m => ?_⟩
    rcases List.mem_cons.1 m with rfl | m
    · exact mn
    · exact there x m

/-- A pin level that agrees with the line's state stops the debounce, another starts it (R156). -/
theorem Line.debounce_eq (l : Line) (level : Bool) : l.debounce level =
    { l with timer := if (level = true ↔ l.activeLow = false) ↔ l.state ≠ .released then none else some 20 } := by
  have agrees : l.assertedBy level = l.state.isAsserted ↔ ((level = true ↔ l.activeLow = false) ↔ l.state ≠ .released) := by
    unfold Line.assertedBy LineState.isAsserted
    by_cases e : l.state = .released
    · cases level <;> cases l.activeLow <;> simp [e]
    · cases level <;> cases l.activeLow <;> simp [e]
  unfold Line.debounce
  simp only [agrees]

theorem State.lineDebounceExpiry_idle {s : State} {i : Fin 4} (h : (s.lines.get i).timer = none) :
    s.lineDebounceExpiry i = s := by
  unfold State.lineDebounceExpiry
  rw [h]
  rfl

theorem State.lineDebounceExpiry_runs {s : State} {i : Fin 4} (h : (s.lines.get i).timer ≠ none) :
    s.lineDebounceExpiry i = if (s.lines.get i).state = .released then s.assertLine i else s.releaseLine i := by
  unfold State.lineDebounceExpiry LineState.isAsserted
  rw [if_pos (Option.isSome_iff_ne_none.2 h)]
  by_cases e : (s.lines.get i).state = .released <;> simp [e]

theorem State.assertLine_eq (s : State) (i : Fin 4) :
    let l := s.lines.get i
    let s0 := { s with lines := s.lines.set i { l with state := .asserted, timer := none, routes := [] } }
    s.assertLine i = if l.enabled = true ∧ (s.sup.state = .quiet → l.quiet = true) then l.zones.zones.foldl (State.openLine i l) s0
      else s0 := by
  intro l s0
  have e : (l.enabled && (s.sup.state ≠ .quiet || l.quiet)) = true ↔
      l.enabled = true ∧ (s.sup.state = .quiet → l.quiet = true) := by
    rw [Bool.and_eq_true, Bool.or_eq_true, decide_eq_true_eq, imp_iff_not_or]
  unfold State.assertLine
  dsimp only
  by_cases sounds : l.enabled = true ∧ (s.sup.state = .quiet → l.quiet = true)
  · rw [if_pos sounds, if_pos (e.2 sounds)]
    rfl
  · rw [if_neg sounds, if_neg (fun x => sounds (e.1 x))]

/-- An assertion of a line that sounds: its openings, from the state with its route list empty. -/
theorem State.assertLine_opens {s : State} (o : Rising s.routes) (i : Fin 4)
    (h : (s.lines.get i).enabled = true ∧ (s.sup.state = .quiet → (s.lines.get i).quiet = true)) :
    ∃ ids, LineOpens i (s.lines.get i)
      { s with lines := s.lines.set i { s.lines.get i with state := .asserted, timer := none, routes := [] } }
      (s.assertLine i) (s.lines.get i).zones.zones ids := by
  have e := s.assertLine_eq i
  dsimp only at e
  rw [e, if_pos h]
  exact State.openLines _ _ o

theorem State.liveSlots_mem {s : State} (o : Rising s.routes) (hs : List Handle) {r : Route} (m : r ∈ s.routes) :
    r.slot ∈ s.liveSlots hs ↔ r.handle ∈ hs := by
  unfold State.liveSlots
  constructor
  · intro i
    obtain ⟨x, mx, e⟩ := List.mem_map.1 i
    obtain ⟨mx, named⟩ := List.mem_filter.1 mx
    rw [← o.unique x mx r m e]
    exact of_decide_eq_true named
  · exact fun i => List.mem_map.2 ⟨r, List.mem_filter.2 ⟨m, decide_eq_true i⟩, rfl⟩

/-- The auto-retirement of some handles: the others stay, and what is left of those named is CLOSING (R30). -/
theorem State.autoRetire_spec {s : State} (o : Rising s.routes) (hs : List Handle) :
    ((s.autoRetire hs).routes.filter (fun r => r.handle ∉ hs)).map Route.identity =
        (s.routes.filter (fun r => r.handle ∉ hs)).map Route.identity ∧
      ∀ n ∈ (s.autoRetire hs).routes, n.handle ∈ hs → n.state = .closing := by
  constructor
  · have named := fun rs : List Route =>
      names_filter (p := fun x => x.handle ∉ hs) (q := fun d => d.handle ∉ hs) (fun _ => rfl) rs
    rw [named, named]
    exact State.retireSlots_names o (fun r m i =>
      decide_eq_false (not_not.2 ((State.liveSlots_mem o hs m).1 i)))
  · intro n mn i
    obtain ⟨r, m, same, -, left⟩ := State.retireSlots_from o n mn
    have handle : n.handle = r.handle := congrArg RouteIdentity.handle same.identity
    rw [handle] at i
    exact (left ((State.liveSlots_mem o hs m).2 i)).2.1

/-- Settles O55: assertion opens routes one zone after another, and a release retires those the line's list names. -/
theorem directLines : Obligations.DirectLines := by
  intro s i
  have run : s.Works → exec (.lineDebounceExpiry i) s = .next (s.lineDebounceExpiry i) :=
    fun works => congrArg _ (s.unlessHeld_works works _)
  refine ⟨fun level h => ?_, fun level works moved => ?_, fun works idle => ?_, fun works o runs out => ?_,
    fun works o runs asserted => ?_⟩
  · refine congrArg Host.Outcome.next (?_ : s.alertInChange i level = _)
    unfold State.alertInChange
    split
    · rename_i same
      rw [← same, quad_set_self]
    · rename_i moved
      exact if_pos (h.resolve_right moved)
  · intro l
    refine congrArg Host.Outcome.next (?_ : s.alertInChange i level = _)
    unfold State.alertInChange
    rw [if_neg moved]
    dsimp only
    rw [if_neg works]
    rw [Line.debounce_eq]
  · rw [run works, State.lineDebounceExpiry_idle idle]
  · intro l sounds
    have ran : s.lineDebounceExpiry i = s.assertLine i := by rw [State.lineDebounceExpiry_runs runs, if_pos out]
    have frame := (s.assertLine_frame i).frame.work
    refine ⟨_, run works, by rw [ran]; exact frame, ?_⟩
    rw [ran]
    by_cases loud : sounds
    · obtain ⟨ids, opens⟩ := State.assertLine_opens o i loud
      have lines := opens.lines
      dsimp only at lines
      rw [Quad.get_set_same, quad_set_set, List.nil_append] at lines
      have list : ((s.assertLine i).lines.get i).routes = ids.map (fun d => d.handle) := by
        rw [lines, Quad.get_set_same]
      have count : ids.length = min l.zones.zones.length (24 - s.routes.length) := opens.count
      rw [list]
      refine ⟨lines, fun quiet => absurd loud quiet, ?_, fun _ room => ?_, fun _ => ?_, fun _ => opens.refused,
        fun _ full some => ?_⟩
      · exact (names_filter (q := fun d => d.handle ∉ ids.map (fun d => d.handle)) (fun _ => rfl) _).trans opens.others
      · obtain ⟨opened, same, there⟩ := exists_map_identity _ ids opens.there
        refine ⟨opened, ?_, ?_, fun r m => ?_⟩
        · rw [← same, List.map_map]
          rfl
        · have zones := opens.zones
          have all : l.zones.zones.length ≤ ids.length := by
            have some : s.routes.length + l.zones.zones.length ≤ 24 := room
            omega
          rw [List.take_of_length_le all, ← same, List.map_map] at zones
          exact zones
        · obtain ⟨owner, cls, source, line⟩ := opens.kind r.identity (by rw [← same]; exact List.mem_map.2 ⟨r, m, rfl⟩)
          exact ⟨there r m, owner, cls, source, line⟩
      · simpa using count
      · have zones : 0 < l.zones.zones.length := List.length_pos_iff.2 some
        have none : ids = [] := List.eq_nil_of_length_eq_zero (by omega)
        exact ⟨by rw [none]; rfl, opens.refused (show 24 < s.routes.length + l.zones.zones.length by omega)⟩
    · have still : s.assertLine i =
          { s with lines := s.lines.set i { l with state := .asserted, timer := none, routes := [] } } := by
        have e := s.assertLine_eq i
        dsimp only at e
        rw [e, if_neg loud]
      have list : ((s.assertLine i).lines.get i).routes = [] := by
        rw [still, Quad.get_set_same]
      rw [list]
      refine ⟨by rw [still], fun _ => still, ?_, fun x => absurd x loud, fun x => absurd x loud, fun x => absurd x loud,
        fun x => absurd x loud⟩
      rw [still]
      simp
  · intro l
    have ran : s.lineDebounceExpiry i = s.releaseLine i := by rw [State.lineDebounceExpiry_runs runs, if_neg asserted]
    have frame := (s.releaseLine_frame True i o).frame.work
    obtain ⟨others, closed⟩ := State.autoRetire_spec o l.routes
    have lines : (s.autoRetire l.routes).lines = s.lines :=
      (s.autoRetire_frame (fun _ => True) True (fun _ _ _ => id) l.routes o).lines
    refine ⟨_, run works, by rw [ran]; exact frame, ?_⟩
    rw [ran]
    refine ⟨?_, others, closed⟩
    unfold State.releaseLine
    dsimp only
    rw [lines]

end Sys2Proof.Machine
end

-- ==== support and settled obligations, part 20 ====
section
/-! SUPPORT. Routes whose state agrees with their conditions, through notices, re-runs and the arbiter. -/

namespace Sys2Proof.Machine

theorem forall₂_comp {R S T : Route → Route → Prop} {as bs cs : List Route} (k : ∀ a b c, R a b → S b c → T a c)
    (h : List.Forall₂ R as bs) (g : List.Forall₂ S bs cs) : List.Forall₂ T as cs := by
  induction h generalizing cs with
  | nil => cases g; exact .nil
  | cons x _ ih => cases g with | cons y z => exact .cons (k _ _ _ x y) (ih z)

/-! ## What conditions are read from (R5) -/

/-- Two states in which every route has the same conditions: jacks, legs and link are the same. -/
structure State.Hears (s e : State) : Prop where
  jacks : s.jacks = e.jacks
  legs : s.calls.legs = e.calls.legs
  phone : s.phone = e.phone

namespace State.Hears

variable {s e : State}

theorem refl (s : State) : s.Hears s := ⟨rfl, rfl, rfl⟩

theorem listener (h : s.Hears e) (z : Zone) : s.listener z = e.listener z := by
  unfold State.listener
  rw [h.jacks]

theorem leg (h : s.Hears e) (id : Nat) (reuse : Byte) : s.leg id reuse = e.leg id reuse := by
  unfold State.leg
  rw [h.legs]

theorem legIs (h : s.Hears e) (r : Route) (st : LegState) : s.legIs r st = e.legIs r st := by
  unfold State.legIs State.legOf
  cases r.source <;> simp only [h.leg]

theorem condition (h : s.Hears e) (r : Route) : s.condition r = e.condition r := by
  unfold State.condition
  cases r.source <;> simp only [h.leg, h.phone]

theorem available (h : s.Hears e) (r : Route) : s.available r = e.available r := by
  unfold State.available
  rw [h.listener, h.condition]

theorem causeOf (h : s.Hears e) (r : Route) : s.causeOf r = e.causeOf r := by
  unfold State.causeOf
  rw [h.listener, h.condition]

theorem frame (h : s.Hears e) {t : State} (f : TunerFrame s t) : t.Hears e := by
  obtain ⟨jacks, legs, phone⟩ := h
  exact ⟨by rw [f.rest]; exact jacks, by rw [f.rest]; exact legs, by rw [f.rest]; exact phone⟩

end State.Hears

/-- A change of a route that leaves where it sounds, what it plays and its source condition. -/
structure Route.Hears (r n : Route) : Prop where
  zone : n.zone = r.zone
  source : n.source = r.source
  condition : n.condition = r.condition

namespace Route.Hears

variable {r n m : Route}

theorem ofKeeps (h : r.Keeps n) (k : n.condition = r.condition) : r.Hears n := ⟨h.zone, h.source, k⟩

theorem conditionOf (h : r.Hears n) (e : State) : e.condition n = e.condition r := by
  unfold State.condition
  rw [h.source, h.condition]

theorem available (h : r.Hears n) (e : State) : e.available n = e.available r := by
  unfold State.available
  rw [h.zone, h.conditionOf]

theorem causeOf (h : r.Hears n) (e : State) : e.causeOf n = e.causeOf r := by
  unfold State.causeOf
  rw [h.zone, h.conditionOf]

end Route.Hears

theorem Route.ringOff_condition (r : Route) : r.ringOff.condition = r.condition := by
  unfold Route.ringOff
  split <;> rfl

theorem Route.rampEnded_condition (r : Route) : r.rampEnded.condition = r.condition := by
  rcases r.rampEnded_cases with e | ⟨-, -, e⟩ | ⟨-, e⟩
  · rw [e]
  · rw [e]
  · rw [e]
    exact r.ringOff_condition

theorem Route.aim_condition (t : Gain) (k : RampClass) (r : Route) : (r.aim t k).condition = r.condition := by
  obtain ⟨a, b, e | ⟨-, -, e⟩⟩ := r.aim_cases t k
  · rw [e]
  · rw [e, Route.rampEnded_condition]

theorem State.enterRising_hears (s : State) (r : Route) : r.Hears (s.enterRising r) := by
  refine .ofKeeps (s.enterRising_keeps r) ?_
  unfold State.enterRising
  dsimp only
  rw [Route.aim_condition]
  split <;> rfl

theorem State.enterPending_hears (s : State) (r : Route) : r.Hears (s.enterPending r) :=
  .ofKeeps (s.enterPending_keeps r) r.ringOff_condition

theorem Route.yieldUp_hears (r : Route) : r.Hears r.yieldUp := .ofKeeps r.yieldUp_keeps (Route.aim_condition _ _ _)

/-- A duck attenuation replaced re-aims at most a sounding route, which goes on sounding. -/
theorem State.withDuck_cases (s : State) (d : Nat) (r : Route) :
    s.withDuck d r = { r with duck := d } ∨
      (r.state.sounding = true ∧ (s.withDuck d r).state.sounding = true ∧ r.Hears (s.withDuck d r)) := by
  unfold State.withDuck
  split
  · rename_i e
    exact .inl (by rw [← e])
  · unfold State.retarget
    split
    · rename_i h
      have sounds : r.state.sounding = true := by
        simp only [Bool.and_eq_true] at h
        exact h.1.1
      refine .inr ⟨sounds, by rw [Route.aim_sounding]; exact sounds, ?_⟩
      exact .ofKeeps (Route.Keeps.trans ⟨rfl⟩ (Route.aim_keeps _ _ _)) (Route.aim_condition _ _ _)
    · exact .inl rfl

/-! ## A property of routes through a notice -/

/-- A route goes on having a property. -/
def Route.StaysIn (P : Route → Prop) (r n : Route) : Prop := r.Keeps n ∧ (P r → P n)

theorem Route.StaysIn.refl {P : Route → Prop} (r : Route) : r.StaysIn P r := ⟨.refl r, id⟩

theorem Route.StaysIn.trans {P : Route → Prop} {a b c : Route} (h : a.StaysIn P b) (k : b.StaysIn P c) : a.StaysIn P c :=
  ⟨h.1.trans k.1, fun x => k.2 (h.2 x)⟩

/-- After a notice that gives a property to the routes told, they have it, and those that had it still do. -/
theorem Judges.notice_told {C : State → Prop} {P : Route → Prop} (j : Judges C (Route.StaysIn P)) (s : State) (c : C s)
    (p : Route → Bool) (f : Route → Route) (k : ∀ r, Evolves s.sup.state s.mixer.alertFloor r (f r))
    (keeps : ∀ r : Route, r.Keeps (f r)) (gives : ∀ r, P (f r)) :
    List.Forall₂ (fun r n : Route => r.Keeps n ∧ (p r = true ∨ P r → P n)) s.routes (s.notice p f).routes := by
  have put : List.Forall₂ (fun r n : Route => r.Keeps n ∧ (p r = true ∨ P r → P n)) s.routes
      (s.routes.map (fun r => if p r then f r else r)) := forall₂_map_of _ _ (fun r _ => by
    split
    · exact ⟨keeps r, fun _ => gives r⟩
    · rename_i no
      exact ⟨.refl r, fun x => x.resolve_left no⟩)
  have frame := s.commitRoutes_frame (s.routes.map (fun r => if p r then f r else r)) (Each.map _ _ (fun r _ => by
    split
    · exact k r
    · exact .refl r))
  have ran := j.rerunAll _ (j.stays _ _ (.ofRoute frame) c) (domainsOf p s.routes)
  rw [State.commitRoutes_routes] at ran
  exact forall₂_comp (fun _ _ _ x y => ⟨x.1.trans y.1, fun z => y.2 (x.2 z)⟩) put ran

/-! ## States that agree with conditions (R9, R10) -/

/-- A route's state agrees with its conditions: it is not PENDING where it is available, and where it is not it is PENDING
for the cause there is, or SUSPENDED, or CLOSING. -/
structure Route.Fits (e : State) (r : Route) : Prop where
  pending : r.state = .pending → e.available r = false
  silent : e.available r = false → (r.state = .pending ∧ r.cause = some (e.causeOf r)) ∨ r.state = .suspended ∨ r.state = .closing

namespace Route.Fits

variable {e s : State} {r n : Route}

theorem ofAvailable (a : e.available n = true) (p : n.state ≠ .pending) : n.Fits e :=
  ⟨fun h => absurd h p, fun h => by rw [a] at h; cases h⟩

theorem ofState (h : n.state = .suspended ∨ n.state = .closing) : n.Fits e :=
  ⟨fun p => by rcases h with h | h <;> simp [h] at p, fun _ => .inr h⟩

/-- A route whose state is none of those of silence is available. -/
theorem available (h : r.Fits e) (a : r.state ≠ .pending) (b : r.state ≠ .suspended) (c : r.state ≠ .closing) :
    e.available r = true := by
  by_contra no
  rcases h.silent (Bool.eq_false_of_not_eq_true no) with ⟨x, -⟩ | x | x
  · exact a x
  · exact b x
  · exact c x

theorem rising (a : e.available r = true) : (s.enterRising r).Fits e := by
  refine ofAvailable ((s.enterRising_hears r).available e ▸ a) ?_
  rcases s.enterRising_state r with x | x <;> simp [x]

theorem entersPending (h : s.Hears e) (a : e.available r = false) : (s.enterPending r).Fits e :=
  ⟨fun _ => by rw [(s.enterPending_hears r).available e, a],
    fun _ => .inl ⟨rfl, by rw [(s.enterPending_hears r).causeOf e, ← h.causeOf]; rfl⟩⟩

theorem suspend : r.suspend.Fits e := ofState (.inl rfl)

theorem yieldUp (a : e.available r = true) : r.yieldUp.Fits e := by
  refine ofAvailable (r.yieldUp_hears.available e ▸ a) ?_
  rcases r.yieldUp_state with x | x <;> simp [x]

end Route.Fits

section
variable {e s : State}

/-- A notice of conditions makes a route's state agree with them (R9, R10). -/
theorem State.refresh_fits (h : s.Hears e) (r : Route) : (s.refresh r).Fits e := by
  unfold State.refresh
  rw [h.available]
  cases a : e.available r with
  | true =>
    rw [if_pos rfl]
    split
    · exact .rising a
    · rename_i p
      exact .ofAvailable a p
  | false =>
    rw [if_neg (by simp)]
    split
    · exact .entersPending h a
    · exact .entersPending h a
    · exact .suspend
    · rename_i p
      exact ⟨fun _ => a, fun _ => .inl ⟨p, by rw [h.causeOf]; rfl⟩⟩
    · rename_i nr np ny ns
      refine .ofState ?_
      cases x : r.state <;> simp_all

theorem State.notified_fits (h : s.Hears e) (c : Condition) (r : Route) : (s.notified c r).Fits e := by
  unfold State.notified
  dsimp only
  split
  · rename_i told
    simp only [Bool.and_eq_true] at told
    obtain ⟨⟨-, sounds⟩, a⟩ := told
    let m : Route := { r with condition := c, fadeMark := false }
    have a' : e.available m = true := (h.available _).symm.trans a
    have hears : m.Hears (m.aim (s.computedTarget { r with condition := c }) r.ramp) :=
      .ofKeeps (Route.aim_keeps _ _ _) (Route.aim_condition _ _ _)
    refine .ofAvailable ((hears.available e).trans a') ?_
    have sounding : (m.aim (s.computedTarget { r with condition := c }) r.ramp).state.sounding = true := by
      rw [Route.aim_sounding]
      exact sounds
    intro p
    rw [p] at sounding
    simp [RouteState.sounding] at sounding
  · exact State.refresh_fits h _

theorem State.judged_fits (h : s.Hears e) (rs : List Route) (r : Route) (f : r.Fits e) : (s.judged rs r).Fits e := by
  unfold State.judged
  split
  · exact f
  · split
    · split
      · exact .suspend
      · rename_i x
        exact .yieldUp (f.available (by simp [x]) (by simp [x]) (by simp [x]))
      · rename_i x
        exact .yieldUp (f.available (by simp [x]) (by simp [x]) (by simp [x]))
      · exact f
    · split
      · rename_i x
        exact .rising (f.available (by simp [x]) (by simp [x]) (by simp [x]))
      · rw [h.available]
        cases a : e.available r with
        | true => exact .rising a
        | false => exact .entersPending h a
      · exact f

theorem State.withDuck_fits (d : Nat) (r : Route) (f : r.Fits e) : (s.withDuck d r).Fits e := by
  rcases s.withDuck_cases d r with x | ⟨sounds, goes, hears⟩
  · rw [x]
    exact ⟨f.pending, f.silent⟩
  · have state := (RouteState.sounding_iff _).1 sounds
    refine .ofAvailable ((hears.available e).trans ?_) (fun p => by simp [p, RouteState.sounding] at goes)
    refine f.available ?_ ?_ ?_ <;> rcases state with x | x <;> simp [x]

theorem fits_arbitrates (e : State) : Arbitrates (State.Hears · e) (Route.StaysIn (Route.Fits e)) where
  stays := fun _ _ f h => h.frame f
  refl := .refl
  trans := fun _ _ _ h k => h.trans k
  judged := fun s rs r h => ⟨s.judged_keeps rs r, State.judged_fits h rs r⟩
  ducked := fun s d r _ => ⟨s.withDuck_keeps d r, State.withDuck_fits d r⟩
  notified := fun s c r h => ⟨s.notified_keeps c r, fun _ => State.notified_fits h c r⟩

/-- After a notice of conditions the routes told agree with them, and those that agreed still do. -/
theorem State.notice_fits (h : s.Hears e) (p : Route → Bool) (f : Route → Route)
    (k : ∀ r, Evolves s.sup.state s.mixer.alertFloor r (f r)) (keeps : ∀ r : Route, r.Keeps (f r)) (fits : ∀ r : Route, (f r).Fits e) :
    List.Forall₂ (fun r n : Route => r.Keeps n ∧ (p r = true ∨ r.Fits e → n.Fits e)) s.routes (s.notice p f).routes :=
  (fits_arbitrates e).toJudges.notice_told s h p f k keeps fits

end

/-! ## Jacks (R110 to R112) -/

theorem hpZone_listener (s : State) (o : HpOut) : s.listener (hpZone o) = (s.jack o).present := by
  cases o <;> rfl

theorem State.setVolume_mixer (s : State) (z : Zone) (v : Nat) :
    (s.setVolume z v).mixer = s.mixer.setZone z { s.mixer.zone z with volume := v } := by
  have same : s.mixer.setZone z (s.mixer.zone z) = s.mixer := by cases z <;> rfl
  unfold State.setVolume
  split
  · rename_i e
    rw [← e]
    exact same.symm
  · rw [State.retargetWhere_eq]

theorem State.safeStart_frame (s : State) (z : Zone) : VolumeFrame s (s.safeStart z) := by
  unfold State.safeStart
  split
  · exact s.setVolume_frame _ _
  · exact .refl s

/-- An insertion lowers a step above the safe start to it (R112). -/
theorem State.safeStart_mixer (s : State) (z : Zone) : (s.safeStart z).mixer =
    s.mixer.setZone z { s.mixer.zone z with volume := min (s.mixer.zone z).volume s.jacks.safeStart } := by
  have same : s.mixer.setZone z (s.mixer.zone z) = s.mixer := by cases z <;> rfl
  unfold State.safeStart
  split
  · rename_i above
    rw [State.setVolume_mixer, min_eq_right (by omega)]
  · rename_i below
    rw [min_eq_left (by omega)]
    exact same.symm

/-- The state of the part with a jack's state changed and, at an insertion, the step lowered. -/
def State.jackTurned (s : State) (o : HpOut) : State :=
  let t := s.setJack o { present := !(s.jack o).present, timer := none }
  if (s.jack o).present then t else t.safeStart (hpZone o)

theorem State.jackChange_eq (s : State) (o : HpOut) :
    s.jackChange o = (((s.jackTurned o).listenerNotice (hpZone o)).raise .headphone).arbitrate := by
  unfold State.jackChange State.jackTurned
  cases (s.jack o).present <;> rfl

theorem State.jackTurned_hears (s : State) (o : HpOut) :
    (s.jackTurned o).Hears (s.setJack o { present := !(s.jack o).present, timer := none }) := by
  unfold State.jackTurned
  dsimp only
  split
  · exact .refl _
  · have frame := (State.safeStart_frame (s.setJack o { present := !(s.jack o).present, timer := none }) (hpZone o)).frame.rest
    exact ⟨by rw [frame], by rw [frame], by rw [frame]⟩

/-- After a jack's change every route of its zone agrees with its conditions. -/
theorem State.jackChange_fits (s : State) (o : HpOut) :
    ∀ n ∈ (s.jackChange o).routes, n.zone = hpZone o →
      n.Fits (s.setJack o { present := !(s.jack o).present, timer := none }) := by
  have hears := s.jackTurned_hears o
  rw [s.jackChange_eq]
  intro n mn z
  let u := s.jackTurned o
  have noticed := State.notice_fits hears (fun r => r.zone = hpZone o) u.refresh u.refresh_evolves u.refresh_keeps
    (State.refresh_fits hears)
  have frame := u.notice_frame (fun r => r.zone = hpZone o) u.refresh u.refresh_evolves
  obtain ⟨m, mm, keeps, fits⟩ := forall₂_right ((fits_arbitrates _).arbitrate
    ((u.listenerNotice (hpZone o)).raise .headphone) ((hears.frame (.ofRoute frame)).frame (.ofRoute (State.raise_frame _ _)))) n mn
  obtain ⟨r, mr, same, told⟩ := forall₂_right noticed m mm
  exact fits (told (.inl (decide_eq_true (same.zone.symm.trans (keeps.zone.symm.trans z)))))

theorem State.setJack_hears (s : State) (o : HpOut) (j : Jack) (r : Route) : (s.setJack o j).condition r = s.condition r := by
  cases o <;> rfl

/-- Settles O54: a jack's change tells the routes of its zone, which then agree with the listener condition. -/
theorem jackDetection : Obligations.JackDetection := by
  intro s o
  have run : s.Works → exec (.hpDebounceExpiry o) s = .next (s.hpDebounceExpiry o) :=
    fun works => congrArg _ (s.unlessHeld_works works _)
  have setSame : s.setHpDet o (s.hpDet o) = s := by cases o <;> rfl
  refine ⟨fun level h => ?_, fun level works moved => ?_, fun works idle => ?_, fun works runs => ?_⟩
  · refine congrArg Host.Outcome.next (?_ : s.hpDetChange o level = _)
    unfold State.hpDetChange
    split
    · rename_i same
      rw [← same, setSame]
    · rename_i moved
      exact if_pos ((show (s.setHpDet o level).port = s.port by cases o <;> rfl) ▸ h.resolve_right moved)
  · refine congrArg Host.Outcome.next (?_ : s.hpDetChange o level = _)
    have jack : (s.setHpDet o level).jack o = s.jack o := by cases o <;> rfl
    unfold State.hpDetChange
    rw [if_neg moved]
    dsimp only
    rw [if_neg works, jack]
    rfl
  · rw [run works]
    unfold State.hpDebounceExpiry
    rw [idle]
    rfl
  · have ran : s.hpDebounceExpiry o = s.jackChange o := if_pos (Option.isSome_iff_ne_none.2 runs)
    obtain ⟨frame, -⟩ := s.jackChange_frame o
    rw [run works, ran]
    let u := s.jackTurned o
    let v := (u.listenerNotice (hpZone o)).raise .headphone
    have eq : s.jackChange o = v.arbitrate := s.jackChange_eq o
    have noticed : TunerFrame u (u.listenerNotice (hpZone o)) := .ofRoute (u.notice_frame _ _ u.refresh_evolves)
    have arbitrated : TunerFrame v v.arbitrate := v.arbitrate_frame
    have mixer : (s.jackChange o).mixer = u.mixer := by
      rw [eq, arbitrated.mixer]
      exact noticed.mixer
    have jacks : (s.jackChange o).jacks = (s.setJack o { present := !(s.jack o).present, timer := none }).jacks := by
      rw [eq, ← (s.jackTurned_hears o).jacks, arbitrated.rest]
      show (u.listenerNotice (hpZone o)).jacks = u.jacks
      rw [noticed.rest]
    have fits := s.jackChange_fits o
    refine ⟨_, rfl, frame.work, jacks, ?_, ?_, fun _ present r m z => ?_, fun _ absent r m z p => ?_⟩
    · rw [eq]
      refine flag_stands arbitrated.flags ?_
      rw [State.raise_flags, BitVec.getLsbD_or]
      simp [EventSource.bit, EventSource.number]
    · rw [mixer]
      have zone : (s.setJack o { present := !(s.jack o).present, timer := none }).mixer = s.mixer := by cases o <;> rfl
      have safe : (s.setJack o { present := !(s.jack o).present, timer := none }).jacks.safeStart = s.jacks.safeStart := by
        cases o <;> rfl
      show (s.jackTurned o).mixer = _
      unfold State.jackTurned
      dsimp only
      cases (s.jack o).present with
      | true =>
        rw [if_pos rfl, if_pos rfl]
        cases o <;> rfl
      | false =>
        rw [if_neg (by simp), if_neg (by simp), State.safeStart_mixer]
        cases o <;> rfl
    · have unheard : (s.setJack o { present := !(s.jack o).present, timer := none }).listener r.zone = false := by
        rw [z, hpZone_listener, present]
        cases o <;> rfl
      have unavailable : (s.setJack o { present := !(s.jack o).present, timer := none }).available r = false := by
        unfold State.available
        rw [unheard, Bool.false_and]
      have cause : (s.setJack o { present := !(s.jack o).present, timer := none }).causeOf r = .noListener := by
        unfold State.causeOf
        rw [unheard, if_neg (by simp)]
      rcases (fits r m z).silent unavailable with ⟨state, why⟩ | state | state
      · rw [cause] at why
        simp [state, why]
      · simp [state]
      · simp [state]
    · have heard : (s.setJack o { present := !(s.jack o).present, timer := none }).listener r.zone = true := by
        rw [z, hpZone_listener, absent]
        cases o <;> rfl
      have unavailable := (fits r m z).pending p
      unfold State.available at unavailable
      rw [heard, Bool.true_and, State.setJack_hears] at unavailable
      exact of_decide_eq_false unavailable

end Sys2Proof.Machine
end

-- ==== support and settled obligations, part 21 ====
section
/-! SUPPORT. Which work leaves the calls alone, and that cancellers change only as reference changes make them. -/

namespace Sys2Proof.Machine

/-! ## Work of tuners and stations that leaves the calls -/

section
variable (s : State)

@[simp] theorem State.insertStation_calls (r : Station) : (s.insertStation r).calls = s.calls := by
  unfold State.insertStation State.reportFull
  split
  · rfl
  · split
    · split <;> rfl
    · rfl

@[simp] theorem State.ensureStation_calls (f : Nat) : (s.ensureStation f).calls = s.calls := by
  unfold State.ensureStation
  split <;> simp

@[simp] theorem State.joinInUse_calls (f : Nat) : (s.joinInUse f).calls = s.calls := by simp [State.joinInUse]

@[simp] theorem State.cancelScan_calls (x : TunerId) : (s.cancelScan x).calls = s.calls := by
  unfold State.cancelScan; split <;> simp

@[simp] theorem State.cancelCheck_calls (x : TunerId) : (s.cancelCheck x).calls = s.calls := by
  unfold State.cancelCheck; split <;> simp

@[simp] theorem State.abortSearchBy_calls (x : TunerId) : (s.abortSearchBy x).calls = s.calls := by
  unfold State.abortSearchBy
  dsimp only
  split
  · split <;> simp
  · rfl

@[simp] theorem State.takeTuner_calls (x : TunerId) (f users : Nat) (watch : Bool) :
    (s.takeTuner x f users watch).calls = s.calls := by
  unfold State.takeTuner
  dsimp only
  simp only [State.setTuner_calls, State.joinInUse_calls]
  split
  · rw [State.leaveInUse_calls]
    split <;> simp
  · split <;> simp

@[simp] theorem State.tellWatch_calls (f : Nat) (x : TunerId) : (s.tellWatch f x).calls = s.calls := rfl

@[simp] theorem State.attachWatch_calls (x : TunerId) (f : Nat) : (s.attachWatch x f).calls = s.calls := by
  simp [State.attachWatch]

@[simp] theorem State.takeForWatch_calls (x : TunerId) (f : Nat) : (s.takeForWatch x f).calls = s.calls := by
  simp [State.takeForWatch]

@[simp] theorem State.reattachWatch_calls : s.reattachWatch.calls = s.calls := by
  unfold State.reattachWatch
  split
  · rfl
  · split
    · rfl
    · split
      · simp
      · split
        · simp
        · split <;> simp

@[simp] theorem State.holdStreak_calls (x : TunerId) : (s.holdStreak x).calls = s.calls := by
  unfold State.holdStreak
  dsimp only
  rw [apply_ite State.calls, State.setTuner_calls, ite_self]

@[simp] theorem State.moveProgram_calls (x : TunerId) (k : RetuneKind) (dest : Nat) (confirm : Bool) :
    (s.moveProgram x k dest confirm).calls = s.calls := by
  unfold State.moveProgram
  dsimp only
  cases (s.tuner x).frequency with
  | none => split <;> simp
  | some f => split <;> simp

@[simp] theorem State.beginCheck_calls (x : TunerId) : (s.beginCheck x).calls = s.calls := by
  unfold State.beginCheck
  dsimp only
  split
  · split <;> simp
  · rfl

@[simp] theorem State.startPairing_calls (m p : TunerId) : (s.startPairing m p).calls = s.calls := by
  simp [State.startPairing]

@[simp] theorem State.meetPartner_calls (m p : TunerId) : (s.meetPartner m p).calls = s.calls := by
  unfold State.meetPartner
  split
  · simp
  · split <;> simp
  · rfl

@[simp] theorem State.settlePairing_calls : s.settlePairing.calls = s.calls := by
  unfold State.settlePairing
  split
  · split <;> simp
  · split <;> simp
  · rfl

end

/-! ## Reference changes (R147) -/

theorem Mic.referenceChange_twice (m : Mic) : m.referenceChange.referenceChange = m.referenceChange := by
  unfold Mic.referenceChange
  cases e : m.canceller <;> simp [e]

theorem quad_map_map {α β γ : Type} (q : Quad α) (f : α → β) (g : β → γ) : (q.map f).map g = q.map (g ∘ f) := rfl

/-- The cancellers are as they were, or as a reference change leaves them. -/
def State.MicsFollow (s t : State) : Prop :=
  t.calls.mics = s.calls.mics ∨ t.calls.mics = s.calls.mics.map Mic.referenceChange

namespace State.MicsFollow

variable {s t u : State}

theorem ofCalls (h : t.calls = s.calls) : s.MicsFollow t := .inl (by rw [h])

theorem refl (s : State) : s.MicsFollow s := .inl rfl

theorem trans (h : s.MicsFollow t) (k : t.MicsFollow u) : s.MicsFollow u := by
  have twice : (s.calls.mics.map Mic.referenceChange).map Mic.referenceChange = s.calls.mics.map Mic.referenceChange := by
    rw [quad_map_map]
    congr 1
    funext m
    exact m.referenceChange_twice
  rcases h with h | h
  · rcases k with k | k
    · exact .inl (k.trans h)
    · exact .inr (by rw [k, h])
  · rcases k with k | k
    · exact .inr (k.trans h)
    · exact .inr (by rw [k, h, twice])

theorem foldl {α : Type} (f : State → α → State) (h : ∀ (t : State) (a : α), t.MicsFollow (f t a)) (xs : List α) (s : State) :
    s.MicsFollow (xs.foldl f s) := by
  induction xs generalizing s with
  | nil => exact .refl s
  | cons a xs ih => exact (h s a).trans (ih _)

/-- What becomes of one microphone: its check stands, and an IDLE canceller stays as it is. -/
theorem mic (h : s.MicsFollow t) (i : Fin 4) :
    (t.calls.mics.get i).check = (s.calls.mics.get i).check ∧
      ((s.calls.mics.get i).canceller = .idle → t.calls.mics.get i = s.calls.mics.get i) := by
  rcases h with h | h
  · rw [h]
    exact ⟨rfl, fun _ => rfl⟩
  · rw [h, Quad.get_map]
    unfold Mic.referenceChange
    cases e : (s.calls.mics.get i).canceller <;> simp

end State.MicsFollow

section
variable (s : State)

theorem State.referenceChange_mics : s.referenceChange.calls.mics = s.calls.mics.map Mic.referenceChange := by
  unfold State.referenceChange
  rw [State.raiseIf_calls]

theorem State.putRoutes_mics (rs : List Route) : (s.putRoutes rs).calls.mics =
    if referenceMoved s.routes rs then s.calls.mics.map Mic.referenceChange else s.calls.mics := by
  unfold State.putRoutes
  dsimp only
  split
  · exact State.referenceChange_mics _
  · rfl

theorem State.putRoutes_follow (rs : List Route) : s.MicsFollow (s.putRoutes rs) := by
  unfold State.MicsFollow
  rw [s.putRoutes_mics]
  split
  · exact .inr rfl
  · exact .inl rfl

theorem State.commitRoutes_mics (rs : List Route) : (s.commitRoutes rs).calls.mics =
    if referenceMoved s.routes rs then s.calls.mics.map Mic.referenceChange else s.calls.mics := by
  unfold State.commitRoutes
  rw [State.markSlots_calls, s.putRoutes_mics]

theorem State.commitRoutes_follow (rs : List Route) : s.MicsFollow (s.commitRoutes rs) :=
  (s.putRoutes_follow rs).trans (.ofCalls (State.markSlots_calls _ _))

theorem State.rerun_follow (d : Domain) : s.MicsFollow (s.rerun d) := s.commitRoutes_follow _

theorem State.rerunAll_follow (ds : List Domain) : s.MicsFollow (s.rerunAll ds) :=
  .foldl _ (fun t d => by
    split
    · exact t.rerun_follow d
    · exact .refl t) _ s

theorem State.notice_follow (p : Route → Bool) (f : Route → Route) : s.MicsFollow (s.notice p f) :=
  (s.commitRoutes_follow _).trans (State.rerunAll_follow _ _)

theorem State.abandonRetune_follow (x : TunerId) : s.MicsFollow (s.abandonRetune x) :=
  (State.MicsFollow.ofCalls (State.setTuner_calls s x _)).trans (State.notice_follow _ _ _)

theorem State.beginTuning_follow (x : TunerId) (k : RetuneKind) : s.MicsFollow (s.beginTuning x k) := by
  have told : s.MicsFollow (s.notifyTuner x .retune) := s.notice_follow _ _
  have ended : ∀ t : Tuner, s.MicsFollow ((s.setTuner x t).abandonRetune x) := fun t =>
    (State.MicsFollow.ofCalls (State.setTuner_calls s x t)).trans (State.abandonRetune_follow _ _)
  unfold State.beginTuning
  cases k with
  | jump f => exact told.trans (.ofCalls (State.setTuner_calls _ _ _))
  | switch dest confirm =>
    dsimp only
    split
    · exact ended _
    · exact told.trans (.ofCalls (State.moveProgram_calls _ _ _ _ _))
  | revert dest decoded =>
    dsimp only
    split
    · exact ended _
    · exact told.trans (.ofCalls (State.moveProgram_calls _ _ _ _ _))

theorem State.endFade_follow (x : TunerId) : s.MicsFollow (s.endFade x) := by
  unfold State.endFade
  split
  · split
    · exact s.beginTuning_follow x _
    · exact .refl s
  · exact .refl s

theorem State.arbitrate_follow : s.MicsFollow s.arbitrate := by
  have ended : s.MicsFollow s.endFades :=
    ((s.endFade_follow .t1).trans (State.endFade_follow _ .t2)).trans (State.endFade_follow _ .t1)
  refine ended.trans (.ofCalls ?_)
  unfold State.arbitrate
  simp

end

end Sys2Proof.Machine
end

-- ==== support and settled obligations, part 22 ====
section
/-! SUPPORT. Rings that end, legs found by name, seats of the uplink, and what putting a leg on hold or making it ACTIVE does. -/

namespace Sys2Proof.Machine

/-! ## Rings (R155) -/

/-- A route that plays no RINGING leg plays no ring. -/
def Route.Unrung (e : State) (r : Route) : Prop := e.legIs r .ringing = false → r.play = none

theorem Route.ringOff_silent {r : Route} (h : r.play = none) : r.ringOff.play = none := by
  unfold Route.ringOff
  split
  · rfl
  · exact h

theorem Route.rampEnded_silent {r : Route} (h : r.play = none) : r.rampEnded.play = none := by
  rcases r.rampEnded_cases with e | ⟨-, -, e⟩ | ⟨-, e⟩
  · rw [e]; exact h
  · rw [e]; exact h
  · rw [e]; exact Route.ringOff_silent h

theorem Route.aim_silent {r : Route} (t : Gain) (k : RampClass) (h : r.play = none) : (r.aim t k).play = none := by
  obtain ⟨a, b, e | ⟨-, -, e⟩⟩ := r.aim_cases t k
  · rw [e]; exact h
  · rw [e]; exact Route.rampEnded_silent h

namespace Route.Unrung

variable {e s : State} {r n : Route}

theorem legIs_of_source (h : n.source = r.source) (st : LegState) : e.legIs n st = e.legIs r st := by
  unfold State.legIs State.legOf
  rw [h]

/-- A change that leaves what a route plays and starts no ring. -/
theorem of (u : r.Unrung e) (h : n.source = r.source) (k : e.legIs r .ringing = false → r.play = none → n.play = none) :
    n.Unrung e := by
  intro q
  rw [legIs_of_source h] at q
  exact k q (u q)

theorem enterRising (h : s.Hears e) (u : r.Unrung e) : (s.enterRising r).Unrung e := by
  refine u.of (s.enterRising_keeps r).source (fun q silent => ?_)
  unfold State.enterRising
  dsimp only
  refine Route.aim_silent _ _ ?_
  split
  · have not : s.legIs { r with state := .rising, cause := none, fadeMark := false } .ringing = false :=
      (h.legIs _ _).trans q
    rw [not]
    rfl
  · exact silent

theorem enterPending (u : r.Unrung e) : (s.enterPending r).Unrung e :=
  u.of (s.enterPending_keeps r).source (fun _ silent => Route.ringOff_silent silent)

theorem suspend (u : r.Unrung e) : r.suspend.Unrung e :=
  u.of r.suspend_keeps.source (fun _ silent => Route.ringOff_silent silent)

theorem yieldUp (u : r.Unrung e) : r.yieldUp.Unrung e :=
  u.of r.yieldUp_keeps.source (fun _ silent => Route.aim_silent (r := { r with state := .yielding, fadeMark := false }) _ _ silent)

theorem refresh (h : s.Hears e) (u : r.Unrung e) : (s.refresh r).Unrung e := by
  unfold State.refresh
  split
  · split
    · exact u.enterRising h
    · exact u
  · split
    · exact u.enterPending
    · exact u.enterPending
    · exact u.suspend
    · exact u
    · exact u

theorem judged (h : s.Hears e) (rs : List Route) (u : r.Unrung e) : (s.judged rs r).Unrung e := by
  unfold State.judged
  split
  · exact u
  · split
    · split
      · exact u.suspend
      · exact u.yieldUp
      · exact u.yieldUp
      · exact u
    · split
      · exact u.enterRising h
      · split
        · exact u.enterRising h
        · exact u.enterPending
      · exact u

theorem withDuck (d : Nat) (u : r.Unrung e) : (s.withDuck d r).Unrung e := by
  refine u.of (s.withDuck_keeps d r).source (fun _ silent => ?_)
  unfold State.withDuck State.retarget
  split
  · exact silent
  · split
    · exact Route.aim_silent (r := { r with duck := d }) _ _ silent
    · exact silent

theorem notified (h : s.Hears e) (c : Condition) (u : r.Unrung e) : (s.notified c r).Unrung e := by
  unfold State.notified
  dsimp only
  split
  · exact u.of (Route.aim_keeps _ _ _).source
      (fun _ silent => Route.aim_silent (r := { r with condition := c, fadeMark := false }) _ _ silent)
  · exact Route.Unrung.refresh (r := { r with condition := c }) h u

end Route.Unrung

/-- A route agrees with its conditions and its leg. -/
def Route.Agrees (e : State) (r : Route) : Prop := r.Fits e ∧ r.Unrung e

theorem agrees_arbitrates (e : State) : Arbitrates (State.Hears · e) (Route.StaysIn (Route.Agrees e)) where
  stays := fun _ _ f h => h.frame f
  refl := .refl
  trans := fun _ _ _ h k => h.trans k
  judged := fun s rs r h => ⟨s.judged_keeps rs r, fun ⟨f, u⟩ => ⟨State.judged_fits h rs r f, u.judged h rs⟩⟩
  ducked := fun s d r _ => ⟨s.withDuck_keeps d r, fun ⟨f, u⟩ => ⟨State.withDuck_fits d r f, u.withDuck d⟩⟩
  notified := fun s c r h => ⟨s.notified_keeps c r, fun ⟨_, u⟩ => ⟨State.notified_fits h c r, u.notified h c⟩⟩

/-! ## A leg's notice (R140) -/

/-- What a leg's notice makes of one of its routes. -/
def State.legTold (s : State) (r : Route) : Route := s.refresh (if s.legIs r .ringing then r else { r with play := none })

theorem State.legTold_keeps (s : State) (r : Route) : r.Keeps (s.legTold r) := by
  unfold State.legTold
  split
  · exact s.refresh_keeps r
  · exact Route.Keeps.trans ⟨rfl⟩ (s.refresh_keeps _)

theorem State.legTold_evolves (s : State) (r : Route) : Evolves s.sup.state s.mixer.alertFloor r (s.legTold r) := by
  unfold State.legTold
  split
  · exact s.refresh_evolves r
  · refine Evolves.trans (b := { r with play := none }) ?_ (s.refresh_evolves _)
    exact ⟨.refl r, fun c => ⟨c.cause, c.silent, c.leaving, c.marked, c.alert⟩, fun _ _ q => q, fun _ g => g, by simp_all⟩

theorem State.legTold_agrees {s e : State} (h : s.Hears e) (r : Route) : (s.legTold r).Agrees e := by
  refine ⟨State.refresh_fits h _, ?_⟩
  refine Route.Unrung.refresh h ?_
  split
  · rename_i ringing
    intro not
    rw [← h.legIs, ringing] at not
    cases not
  · exact fun _ => rfl

/-- A leg's notice makes its routes agree with it; the routes that agreed still do. -/
theorem State.legNotice_agrees {s e : State} (h : s.Hears e) (id : Nat) (reuse : Byte) :
    ∀ n ∈ (s.legNotice id reuse).routes, ∃ r ∈ s.routes, n.source = r.source ∧
      (r.source = .leg id reuse ∨ r.Agrees e → n.Agrees e) := by
  have told := (agrees_arbitrates e).toJudges.notice_told s h (fun r => r.source = .leg id reuse) s.legTold
    s.legTold_evolves s.legTold_keeps (State.legTold_agrees h)
  intro n mn
  obtain ⟨r, mr, keeps, agrees⟩ := forall₂_right told n mn
  exact ⟨r, mr, keeps.source, fun x => agrees (x.imp_left decide_eq_true)⟩

theorem State.arbitrate_agrees {s e : State} (h : s.Hears e) :
    ∀ n ∈ s.arbitrate.routes, ∃ r ∈ s.routes, n.source = r.source ∧ (r.Agrees e → n.Agrees e) := by
  intro n mn
  obtain ⟨r, mr, keeps, agrees⟩ := forall₂_right ((agrees_arbitrates e).arbitrate s h) n mn
  exact ⟨r, mr, keeps.source, agrees⟩

/-! ## Routes of a leg and their conditions (R5) -/

section
variable {e d : State} {r : Route} {id : Nat} {reuse : Byte} {l : Leg}

theorem State.condition_held (h : r.source = .leg id reuse) (f : e.leg id reuse = some l) (k : l.state = .held) :
    e.condition r = .legHeld := by
  unfold State.condition
  rw [h]
  dsimp only
  rw [f]
  dsimp only
  rw [k]

theorem State.condition_active (h : r.source = .leg id reuse) (f : e.leg id reuse = some l) (k : l.state = .active) :
    e.condition r = if e.phone.link = .up then .available else .linkDown := by
  unfold State.condition
  rw [h]
  dsimp only
  rw [f]
  dsimp only
  rw [k]

theorem State.legIs_of_leg (h : r.source = .leg id reuse) (f : e.leg id reuse = some l) (st : LegState) :
    e.legIs r st = decide (l.state = st) := by
  unfold State.legIs State.legOf
  rw [h]
  dsimp only
  rw [f]

/-- A route silent for a cause, or for want of a listener. -/
def Route.Silent (e : State) (why : Cause) (r : Route) : Prop :=
  (r.state = .pending ∧ r.cause = some (if e.listener r.zone then why else .noListener)) ∨ r.state = .suspended ∨
    r.state = .closing

/-- The cause a condition of a leg's route gives. -/
theorem Route.Fits.silent_of {c : Condition} {why : Cause} (f : r.Fits e) (h : e.condition r = c)
    (k : (c = .legHeld ∧ why = .legHeld) ∨ (c = .linkDown ∧ why = .linkDown)) : r.Silent e why := by
  have unavailable : e.available r = false := by
    unfold State.available
    rw [h]
    rcases k with ⟨k, -⟩ | ⟨k, -⟩ <;> simp [k]
  have cause : e.causeOf r = if e.listener r.zone then why else .noListener := by
    unfold State.causeOf
    rw [h]
    rcases k with ⟨k, w⟩ | ⟨k, w⟩ <;> simp [k, w]
  rcases f.silent unavailable with ⟨state, why⟩ | x
  · exact .inl ⟨state, by rw [why, cause]⟩
  · exact .inr x

/-- A leg's route that agrees, in another state in which the leg, the link and the jacks are the same. -/
theorem Route.Agrees.transfer (a : r.Agrees d) (h : r.source = .leg id reuse) (leg : e.leg id reuse = d.leg id reuse)
    (jacks : e.jacks = d.jacks) (phone : e.phone = d.phone) : r.Agrees e := by
  have listener : ∀ z, e.listener z = d.listener z := fun z => by
    unfold State.listener
    rw [jacks]
  have condition : e.condition r = d.condition r := by
    unfold State.condition
    rw [h]
    dsimp only
    rw [leg, phone]
  have legIs : e.legIs r .ringing = d.legIs r .ringing := by
    unfold State.legIs State.legOf
    rw [h]
    dsimp only
    rw [leg]
  have available : e.available r = d.available r := by
    unfold State.available
    rw [listener, condition]
  have cause : e.causeOf r = d.causeOf r := by
    unfold State.causeOf
    rw [listener, condition]
  obtain ⟨⟨p, q⟩, u⟩ := a
  exact ⟨⟨fun x => available.trans (p x), fun x => by rw [cause]; exact q (available.symm.trans x)⟩,
    fun x => u (legIs.symm.trans x)⟩

end

/-! ## Legs by name (R136) -/

section
variable {s : State} {id : Nat} {reuse : Byte} {l : Leg}

theorem State.leg_spec (h : s.leg id reuse = some l) : l ∈ s.calls.legs ∧ l.id = id ∧ l.reuse = reuse := by
  have found := List.find?_some h
  rw [Bool.and_eq_true, decide_eq_true_eq, decide_eq_true_eq] at found
  exact ⟨List.mem_of_find?_eq_some h, found⟩

theorem Calls.Consistent.unique {c : Calls} (h : c.Consistent) {a b : Leg} (ma : a ∈ c.legs) (mb : b ∈ c.legs)
    (e : a.id = b.id) : a = b := by
  by_contra ne
  have symm : Std.Symm (fun a b : Leg => a.id ≠ b.id) := ⟨fun _ _ x => Ne.symm x⟩
  exact h.ids.1.forall ma mb ne e

theorem State.leg_eq (c : s.calls.Consistent) (m : l ∈ s.calls.legs) : s.leg l.id l.reuse = some l := by
  cases f : s.leg l.id l.reuse with
  | none => simpa using List.find?_eq_none.1 f l m
  | some x =>
    obtain ⟨mx, e, -⟩ := State.leg_spec f
    rw [c.unique mx m e]

/-- The ACTIVE leg is the one leg in that state. -/
theorem Calls.Consistent.active_iff {c : Calls} (h : c.Consistent) {y : Leg} :
    c.active = some y ↔ y ∈ c.legs ∧ y.state = .active := by
  constructor
  · intro f
    exact ⟨List.mem_of_find?_eq_some f, of_decide_eq_true (List.find?_some (p := fun l : Leg => decide (l.state = .active)) f)⟩
  · rintro ⟨m, a⟩
    cases f : c.active with
    | none =>
      have none := List.find?_eq_none.1 f y m
      simp [a] at none
    | some x =>
      have mx := List.mem_of_find?_eq_some f
      have ax : x.state = .active := of_decide_eq_true (List.find?_some (p := fun l : Leg => decide (l.state = .active)) f)
      by_contra ne
      have symm : Std.Symm (fun a b : Leg => ¬(a.state = .active ∧ b.state = .active)) := ⟨fun _ _ p q => p q.symm⟩
      have apart := h.active.forall mx m (fun e => ne (by rw [e]))
      exact apart ⟨ax, a⟩

/-- A change of the legs that leaves their names, and a leg found by name. -/
theorem State.leg_of_map {e : State} (f : Leg → Leg) (legs : e.calls.legs = s.calls.legs.map f)
    (names : ∀ x, (f x).id = x.id ∧ (f x).reuse = x.reuse) : e.leg id reuse = (s.leg id reuse).map f := by
  unfold State.leg
  rw [legs, List.find?_map]
  congr 2
  funext x
  simp [names x]

end

/-! ## Seats (R143, R144) -/

theorem seatIndex_injective {x y : Seat} (h : seatIndex x = seatIndex y) : x = y := by
  cases x <;> cases y <;> simp [seatIndex] at h ⊢

theorem seats_fold (p : Seat → Bool) (f : Mic → Mic) (x : Seat) (xs : List Seat) (n : xs.Nodup) (q : Quad Mic) :
    (xs.foldl (fun q x => if p x then q.set (seatIndex x) (f (q.get (seatIndex x))) else q) q).get (seatIndex x) =
      if x ∈ xs ∧ p x = true then f (q.get (seatIndex x)) else q.get (seatIndex x) := by
  induction xs generalizing q with
  | nil => simp
  | cons y ys ih =>
    obtain ⟨out, rest⟩ := List.nodup_cons.1 n
    rw [List.foldl_cons, ih rest]
    by_cases e : x = y
    · subst e
      by_cases k : p x = true
      · simp [out, k]
      · simp [k]
    · have other : seatIndex x ≠ seatIndex y := fun h => e (seatIndex_injective h)
      by_cases k : p y = true
      · simp [k, e, Quad.get_set_ne _ _ _ _ other]
      · simp [k, e]

theorem Calls.onSeats_get (c : Calls) (p : Seat → Bool) (f : Mic → Mic) (x : Seat) :
    (c.onSeats p f).mics.get (seatIndex x) =
      if p x = true then f (c.mics.get (seatIndex x)) else c.mics.get (seatIndex x) := by
  have all : x ∈ allSeats := by cases x <;> decide
  have fold := seats_fold p f x allSeats (by decide) c.mics
  simp only [all, true_and] at fold
  exact fold

theorem State.dropSeats_get (s : State) (p : Seat → Bool) (x : Seat) : (s.dropSeats p).calls.mics.get (seatIndex x) =
    if p x = true then (s.calls.mics.get (seatIndex x)).dropped else s.calls.mics.get (seatIndex x) := by
  unfold State.dropSeats
  rw [State.raiseIf_calls]
  exact s.calls.onSeats_get p _ x

theorem State.startChecks_get (s : State) (p : Seat → Bool) (x : Seat) : (s.startChecks p).calls.mics.get (seatIndex x) =
    if p x = true then { s.calls.mics.get (seatIndex x) with check := some 100 } else s.calls.mics.get (seatIndex x) :=
  s.calls.onSeats_get p _ x

end Sys2Proof.Machine
end

-- ==== support and settled obligations, part 23 ====
section
/-! SUPPORT. Legs put on hold and made ACTIVE, and the statement on LEG_OPEN and LEG_STATE. -/

namespace Sys2Proof.Machine

/-! ## A leg put on hold (R139) -/

/-- A leg of the list put on hold. -/
def holdIn (id : Nat) (x : Leg) : Leg := if x.id = id then { x with state := .held } else x

/-- A leg of the list made ACTIVE. -/
def activateIn (id : Nat) (x : Leg) : Leg := if x.id = id then { x with state := .active } else x

theorem holdIn_names (id : Nat) (x : Leg) : (holdIn id x).id = x.id ∧ (holdIn id x).reuse = x.reuse := by
  unfold holdIn
  split <;> exact ⟨rfl, rfl⟩

theorem activateIn_names (id : Nat) (x : Leg) : (activateIn id x).id = x.id ∧ (activateIn id x).reuse = x.reuse := by
  unfold activateIn
  split <;> exact ⟨rfl, rfl⟩

section
variable (s : State) (l : Leg)

/-- The state in which a leg on hold is told to its routes. -/
def State.heldLeg : State :=
  let s1 := if l.state = .active then s.dropSeats l.seats.has else s
  { s1 with calls := s1.calls.updateLeg l.id (fun x => { x with state := .held }) }

theorem State.holdLeg_eq : s.holdLeg l = (s.heldLeg l).legNotice l.id l.reuse := rfl

theorem State.dropSeats_legs (p : Seat → Bool) : (s.dropSeats p).calls.legs = s.calls.legs := by
  unfold State.dropSeats
  rw [State.raiseIf_calls]
  rfl

theorem State.heldLeg_legs : (s.heldLeg l).calls.legs = s.calls.legs.map (holdIn l.id) := by
  unfold State.heldLeg
  dsimp only [Calls.updateLeg]
  split
  · rw [s.dropSeats_legs]
    rfl
  · rfl

theorem State.holdLeg_hears : (s.holdLeg l).Hears (s.heldLeg l) := by
  rw [s.holdLeg_eq]
  exact (State.Hears.refl _).frame (.ofRoute (State.legNotice_frame _ _ _))

theorem State.holdLeg_legs : (s.holdLeg l).calls.legs = s.calls.legs.map (holdIn l.id) :=
  (s.holdLeg_hears l).legs.trans (s.heldLeg_legs l)

theorem State.heldLeg_rest : (s.heldLeg l).jacks = s.jacks ∧ (s.heldLeg l).phone = s.phone ∧
    (s.heldLeg l).routes = s.routes ∧ (s.heldLeg l).calls.reuse = s.calls.reuse := by
  unfold State.heldLeg
  dsimp only
  split
  · have frame := s.dropSeats_frame l.seats.has
    refine ⟨?_, frame.phone, by simp, ?_⟩
    · rw [frame.rest]
    · show (s.dropSeats l.seats.has).calls.reuse = _
      rw [frame.rest]
  · exact ⟨rfl, rfl, rfl, rfl⟩

theorem State.holdLeg_rest : (s.holdLeg l).jacks = s.jacks ∧ (s.holdLeg l).phone = s.phone ∧
    (s.holdLeg l).calls.reuse = s.calls.reuse := by
  obtain ⟨jacks, phone, -, reuse⟩ := s.heldLeg_rest l
  have frame := (s.heldLeg l).legNotice_frame l.id l.reuse
  rw [← s.holdLeg_eq] at frame
  refine ⟨(s.holdLeg_hears l).jacks.trans jacks, (s.holdLeg_hears l).phone.trans phone, ?_⟩
  rw [← reuse, frame.rest]

/-- The routes of a leg put on hold agree with it. -/
theorem State.holdLeg_agrees : ∀ n ∈ (s.holdLeg l).routes, n.source = .leg l.id l.reuse → n.Agrees (s.holdLeg l) := by
  intro n mn h
  rw [s.holdLeg_eq] at mn
  obtain ⟨r, -, source, agrees⟩ := State.legNotice_agrees (State.Hears.refl (s.heldLeg l)) l.id l.reuse n mn
  have hears := s.holdLeg_hears l
  refine (agrees (.inl (source.symm.trans h))).transfer h ?_ hears.jacks hears.phone
  exact hears.leg _ _

theorem State.holdLeg_mics (a : l.state = .active) (x : Seat) (h : l.seats.has x = true) :
    ((s.holdLeg l).calls.mics.get (seatIndex x)).check = none ∧
      ((s.holdLeg l).calls.mics.get (seatIndex x)).canceller = .idle := by
  have dropped : (s.heldLeg l).calls.mics.get (seatIndex x) = (s.calls.mics.get (seatIndex x)).dropped := by
    unfold State.heldLeg
    rw [if_pos a]
    exact (s.dropSeats_get _ x).trans (if_pos h)
  obtain ⟨check, idle⟩ := ((s.heldLeg l).notice_follow _ (s.heldLeg l).legTold).mic (seatIndex x)
    (s := s.heldLeg l) (t := s.holdLeg l)
  rw [idle (by rw [dropped]; rfl), dropped]
  exact ⟨rfl, rfl⟩

end

/-! ## The ACTIVE leg put on hold (R138, R139) -/

section
variable (s : State)

/-- The legs with the ACTIVE one put on hold. -/
def holdActiveIn (x : Leg) : Leg := if x.state = .active then { x with state := .held } else x

theorem State.holdActive_none (h : s.calls.active = none) : s.holdActive = s := by
  unfold State.holdActive
  rw [h]

theorem State.holdActive_some {y : Leg} (h : s.calls.active = some y) : s.holdActive = (s.holdLeg y).raise .legChange := by
  unfold State.holdActive
  rw [h]

theorem State.holdActive_legs (c : s.calls.Consistent) : s.holdActive.calls.legs = s.calls.legs.map holdActiveIn := by
  cases h : s.calls.active with
  | none =>
    rw [s.holdActive_none h]
    symm
    refine (List.map_congr_left (g := id) (fun x mx => ?_)).trans (List.map_id _)
    have other : x.state ≠ .active := fun ax => by
      rw [c.active_iff.2 ⟨mx, ax⟩] at h
      cases h
    exact if_neg other
  | some y =>
    rw [s.holdActive_some h, State.raise_calls, s.holdLeg_legs]
    obtain ⟨my, ay⟩ := c.active_iff.1 h
    refine List.map_congr_left (fun x mx => ?_)
    unfold holdIn holdActiveIn
    by_cases e : x.id = y.id
    · rw [c.unique mx my e, if_pos rfl, if_pos ay]
    · have other : x.state ≠ .active := fun ax => by
        have := c.active_iff.2 ⟨mx, ax⟩
        rw [h] at this
        exact e (by rw [Option.some.inj this])
      rw [if_neg e, if_neg other]

theorem State.holdActive_rest : s.holdActive.jacks = s.jacks ∧ s.holdActive.phone = s.phone ∧
    s.holdActive.calls.reuse = s.calls.reuse := by
  cases h : s.calls.active with
  | none =>
    rw [s.holdActive_none h]
    exact ⟨rfl, rfl, rfl⟩
  | some y =>
    rw [s.holdActive_some h]
    exact s.holdLeg_rest y

theorem State.holdActive_agrees {y : Leg} (h : s.calls.active = some y) :
    ∀ n ∈ s.holdActive.routes, n.source = .leg y.id y.reuse → n.Agrees s.holdActive := by
  rw [s.holdActive_some h]
  exact fun n mn src => (s.holdLeg_agrees y n mn src).transfer src rfl rfl rfl

theorem State.holdActive_mics {y : Leg} (h : s.calls.active = some y) (a : y.state = .active) (x : Seat)
    (has : y.seats.has x = true) :
    (s.holdActive.calls.mics.get (seatIndex x)).check = none ∧
      (s.holdActive.calls.mics.get (seatIndex x)).canceller = .idle := by
  rw [s.holdActive_some h]
  exact s.holdLeg_mics y a x has

theorem State.holdActive_flag {y : Leg} (h : s.calls.active = some y) : s.holdActive.events.flags.getLsbD 11 = true := by
  rw [s.holdActive_some h, State.raise_flags, BitVec.getLsbD_or]
  simp [EventSource.bit, EventSource.number]

theorem holdActiveIn_names (x : Leg) : (holdActiveIn x).id = x.id ∧ (holdActiveIn x).reuse = x.reuse := by
  unfold holdActiveIn
  split <;> exact ⟨rfl, rfl⟩

/-- The leg that was ACTIVE, found after it is put on hold. -/
theorem State.holdActive_leg (c : s.calls.Consistent) {y : Leg} (m : y ∈ s.calls.legs) :
    s.holdActive.leg y.id y.reuse = some (holdActiveIn y) := by
  rw [State.leg_of_map holdActiveIn (s.holdActive_legs c) holdActiveIn_names, State.leg_eq c m]
  rfl

end

/-! ## What agreement says of a leg's routes -/

theorem Route.Agrees.held {e s : State} {n : Route} {id : Nat} {reuse : Byte} {l : Leg} (a : n.Agrees e)
    (h : n.source = .leg id reuse) (f : e.leg id reuse = some l) (k : l.state = .held) (j : e.jacks = s.jacks) :
    n.play = none ∧ n.Silent s .legHeld := by
  refine ⟨a.2 (by rw [State.legIs_of_leg h f, k]; rfl), ?_⟩
  have silent := a.1.silent_of (State.condition_held h f k) (.inl ⟨rfl, rfl⟩)
  unfold Route.Silent State.listener at silent ⊢
  rwa [j] at silent

theorem Route.Agrees.active {e s : State} {n : Route} {id : Nat} {reuse : Byte} {l : Leg} (a : n.Agrees e)
    (h : n.source = .leg id reuse) (f : e.leg id reuse = some l) (k : l.state = .active) (j : e.jacks = s.jacks)
    (p : e.phone = s.phone) :
    n.play = none ∧ (s.phone.link ≠ .up → n.Silent s .linkDown) ∧
      (s.phone.link = .up → n.state = .pending → s.listener n.zone = false) := by
  have condition := State.condition_active h f k
  rw [p] at condition
  have listener : e.listener n.zone = s.listener n.zone := by
    unfold State.listener
    rw [j]
  refine ⟨a.2 (by rw [State.legIs_of_leg h f, k]; rfl), fun down => ?_, fun up pending => ?_⟩
  · rw [if_neg down] at condition
    have silent := a.1.silent_of condition (.inr ⟨rfl, rfl⟩)
    unfold Route.Silent at silent ⊢
    rwa [listener] at silent
  · have unavailable := a.1.pending pending
    unfold State.available at unavailable
    rw [condition, if_pos up, listener] at unavailable
    simpa using unavailable

/-! ## A leg made ACTIVE (R139, R140) -/

section
variable (s : State) (l : Leg)

/-- The state in which a leg made ACTIVE is told to its routes. -/
def State.madeActive : State :=
  let t := s.holdActive
  { t with calls := t.calls.updateLeg l.id (fun x => { x with state := .active }) }.startChecks l.seats.has

theorem State.activateLeg_eq : s.activateLeg l = (s.madeActive l).legNotice l.id l.reuse := rfl

theorem State.madeActive_legs (c : s.calls.Consistent) :
    (s.madeActive l).calls.legs = s.calls.legs.map (activateIn l.id ∘ holdActiveIn) := by
  have legs : (s.madeActive l).calls.legs = s.holdActive.calls.legs.map (activateIn l.id) := rfl
  rw [legs, s.holdActive_legs c, List.map_map]

theorem State.madeActive_leg (c : s.calls.Consistent) {y : Leg} (m : y ∈ s.calls.legs) :
    (s.madeActive l).leg y.id y.reuse = some (activateIn l.id (holdActiveIn y)) := by
  rw [State.leg_of_map _ (s.madeActive_legs l c) (fun x => ?_), State.leg_eq c m]
  · rfl
  · obtain ⟨i, r⟩ := activateIn_names l.id (holdActiveIn x)
    obtain ⟨j, q⟩ := holdActiveIn_names x
    exact ⟨i.trans j, r.trans q⟩

theorem State.madeActive_rest : (s.madeActive l).jacks = s.jacks ∧ (s.madeActive l).phone = s.phone ∧
    (s.madeActive l).calls.reuse = s.calls.reuse := s.holdActive_rest

theorem State.activateLeg_hears : (s.activateLeg l).Hears (s.madeActive l) := by
  rw [s.activateLeg_eq]
  exact (State.Hears.refl _).frame (.ofRoute (State.legNotice_frame _ _ _))

/-- The routes of the leg made ACTIVE, and of the one it puts on hold, agree with them. -/
theorem State.activateLeg_agrees (c : s.calls.Consistent) :
    ∀ n ∈ (s.activateLeg l).arbitrate.routes,
      (n.source = .leg l.id l.reuse → n.Agrees (s.madeActive l)) ∧
      ∀ y ∈ s.calls.legs, y.state = .active → y.id ≠ l.id → n.source = .leg y.id y.reuse → n.Agrees (s.madeActive l) := by
  intro n mn
  obtain ⟨m, mm, source, stays⟩ := State.arbitrate_agrees (s.activateLeg_hears l) n mn
  rw [s.activateLeg_eq] at mm
  obtain ⟨r, mr, source', agrees⟩ := State.legNotice_agrees (State.Hears.refl (s.madeActive l)) l.id l.reuse m mm
  have src := source.trans source'
  refine ⟨fun h => stays (agrees (.inl (src.symm.trans h))), fun y my ay other h => stays (agrees (.inr ?_))⟩
  have from' := src.symm.trans h
  refine (s.holdActive_agrees (c.active_iff.2 ⟨my, ay⟩) r mr from').transfer from' ?_ rfl rfl
  rw [s.madeActive_leg l c my, s.holdActive_leg c my]
  exact congrArg some (if_neg (by rw [(holdActiveIn_names y).1]; exact other))

theorem State.activateLeg_mics (x : Seat) :
    ((s.activateLeg l).arbitrate.calls.mics.get (seatIndex x)).check = ((s.madeActive l).calls.mics.get (seatIndex x)).check ∧
      (((s.madeActive l).calls.mics.get (seatIndex x)).canceller = .idle →
        (s.activateLeg l).arbitrate.calls.mics.get (seatIndex x) = (s.madeActive l).calls.mics.get (seatIndex x)) := by
  have follow : (s.madeActive l).MicsFollow (s.activateLeg l).arbitrate :=
    ((s.madeActive l).notice_follow _ (s.madeActive l).legTold).trans (State.arbitrate_follow _)
  exact follow.mic (seatIndex x)

theorem State.madeActive_get (x : Seat) : (s.madeActive l).calls.mics.get (seatIndex x) =
    if l.seats.has x = true then { s.holdActive.calls.mics.get (seatIndex x) with check := some 100 }
    else s.holdActive.calls.mics.get (seatIndex x) := State.startChecks_get _ _ x

end

/-! ## Free leg identifiers (R136) -/

theorem Calls.freeId_spec {c : Calls} {k : Nat} (h : c.freeId = some k) :
    (1 ≤ k ∧ k ≤ 3) ∧ (∀ l ∈ c.legs, l.id ≠ k) ∧ ∀ j, 1 ≤ j → j < k → ∃ l ∈ c.legs, l.id = j := by
  unfold Calls.freeId at h
  obtain ⟨i, found, rfl⟩ := Option.map_eq_some_iff.1 h
  have range := List.mem_range.1 (List.mem_of_find?_eq_some found)
  have free := List.all_eq_true.1 (List.find?_some (p := fun i => c.legs.all (fun l => l.id ≠ i + 1)) found)
  refine ⟨by omega, fun l m => of_decide_eq_true (free l m), fun j low high => ?_⟩
  obtain ⟨-, as, bs, split, before⟩ := List.find?_eq_some_iff_append.1 found
  have taken : j - 1 ∈ as := by
    have at' : j - 1 ∈ List.range 3 := List.mem_range.2 (by omega)
    have sorted : (List.range 3).Pairwise (· < ·) := List.pairwise_lt_range
    rw [split] at at' sorted
    rcases List.mem_append.1 at' with m | m
    · exact m
    · rcases List.mem_cons.1 m with e | m
      · omega
      · have := (List.pairwise_cons.1 (List.pairwise_append.1 sorted).2.1).1 _ m
        omega
  have used := before _ taken
  simp only [Bool.not_eq_true', List.all_eq_false, decide_eq_true_eq, not_not] at used
  obtain ⟨l, m, e⟩ := used
  exact ⟨l, m, by omega⟩

theorem Calls.freeId_none {c : Calls} (h : c.freeId = none) : 3 ≤ c.legs.length := by
  unfold Calls.freeId at h
  have taken : List.range' 1 3 ⊆ c.legs.map (fun l => l.id) := by
    intro k m
    have range := List.mem_range'_1.1 m
    have full := List.find?_eq_none.1 (Option.map_eq_none_iff.1 h) (k - 1) (List.mem_range.2 (by omega))
    rw [List.all_eq_true] at full
    by_contra free
    refine full (fun l ml => decide_eq_true (fun e => free (List.mem_map.2 ⟨l, ml, ?_⟩)))
    omega
  have most := ((List.nodup_range' (s := 1) (n := 3)).subperm taken).length_le
  simpa using most

theorem Calls.Consistent.free {c : Calls} (h : c.Consistent) {k : Nat} (f : c.freeId = some k) : c.legs.length < 3 := by
  obtain ⟨range, free, -⟩ := Calls.freeId_spec f
  have nodup : (k :: c.legs.map (fun l => l.id)).Nodup := by
    refine List.nodup_cons.2 ⟨fun m => ?_, List.pairwise_map.2 h.ids.1⟩
    obtain ⟨l, ml, e⟩ := List.mem_map.1 m
    exact free l ml e
  have sub : k :: c.legs.map (fun l => l.id) ⊆ List.range' 1 3 := by
    intro j m
    refine List.mem_range'_1.2 ?_
    rcases List.mem_cons.1 m with rfl | m
    · omega
    · obtain ⟨l, ml, rfl⟩ := List.mem_map.1 m
      have := h.ids.2 l ml
      omega
  simpa using (nodup.subperm sub).length_le

/-! ## Frames of leg work -/

theorem LegFrame.work {s t : State} (h : LegFrame s t) (r : t.calls.reuse = s.calls.reuse) :
    State.TunerWork { s with calls.legs := t.calls.legs } t := by
  have work := h.frame.work
  rw [r] at work
  exact work

theorem State.arbitrate_reuse (s : State) : s.arbitrate.calls.reuse = s.calls.reuse := by
  rw [s.arbitrate_frame.rest]

end Sys2Proof.Machine
end

-- ==== support and settled obligations, part 24 ====
section
/-! SUPPORT. The statement on LEG_OPEN and LEG_STATE. -/

namespace Sys2Proof.Machine

/-! ## Named legs -/

section
variable {s : State} {c : Byte} {p : List Byte}

theorem legId_ok (h : 1 ≤ u8At p 0 ∧ u8At p 0 ≤ 3) : ¬(u8At p 0 < 1 || 3 < u8At p 0) = true := by
  rw [Bool.or_eq_true, decide_eq_true_eq, decide_eq_true_eq]
  omega

theorem State.namedLeg_bad (h : ¬(1 ≤ u8At p 0 ∧ u8At p 0 ≤ 3)) : s.namedLeg c p = .error .badArgument := by
  unfold State.namedLeg
  refine if_pos ?_
  rw [Bool.or_eq_true, decide_eq_true_eq, decide_eq_true_eq]
  omega

theorem State.namedLeg_none (h : 1 ≤ u8At p 0 ∧ u8At p 0 ≤ 3) (n : s.leg (u8At p 0) (p.getD 1 0) = none) :
    s.namedLeg c p = .error .notFound := by
  unfold State.namedLeg
  rw [if_neg (legId_ok h), n]

theorem State.namedLeg_other {l : Leg} (h : 1 ≤ u8At p 0 ∧ u8At p 0 ≤ 3) (n : s.leg (u8At p 0) (p.getD 1 0) = some l)
    (a : c ≠ 0) (b : c.toNat ≠ l.owner) : s.namedLeg c p = .error .notPermitted := by
  unfold State.namedLeg
  rw [if_neg (legId_ok h), n]
  exact if_neg (fun may => ((mayChange_iff _ _).1 may).elim a b)

theorem State.namedLeg_ok {l : Leg} (h : 1 ≤ u8At p 0 ∧ u8At p 0 ≤ 3) (n : s.leg (u8At p 0) (p.getD 1 0) = some l)
    (a : c = 0 ∨ c.toNat = l.owner) : s.namedLeg c p = .ok l := by
  unfold State.namedLeg
  rw [if_neg (legId_ok h), n]
  exact if_pos ((mayChange_iff _ _).2 a)

end

/-! ## LEG_OPEN (R138) -/

/-- The state in which a leg opens, before the arbiter. -/
def State.legOpened (s : State) (l : Leg) : State :=
  if l.state = .active then
    { s.holdActive with calls.legs := s.holdActive.calls.legs ++ [l] }.startChecks l.seats.has
  else { s with calls.legs := s.calls.legs ++ [l] }

theorem State.legOpened_frame (s : State) (l : Leg) : LegFrame s (s.legOpened l) := by
  unfold State.legOpened
  split
  · exact (s.holdActive_frame.trans (State.legs_frame _ _)).trans (.ofTuner (.ofRoute (State.startChecks_frame _ _)))
  · exact s.legs_frame _

/-- What LEG_OPEN of a form that is good does with the free identifier there is (R138). -/
theorem legOpen_ok {s : State} {c : Byte} {p : List Byte} {id : Nat}
    (g : p.length = 3 ∧ u8At p 0 ≤ 1 ∧ u8At p 1 ≤ 15 ∧ u8At p 2 ≤ 15) (f : s.calls.freeId = some id) :
    let l := s.newLeg id c.toNat (if u8At p 0 = 1 then .active else .ringing) (u8At p 1) (seatSetOf (u8At p 2))
    legOpen c p s = .ok (s.legOpened l).arbitrate (u8 l.id ++ [l.reuse] ++ u8 (u8At p 0) ++
      if u8At p 0 = 1 then handleBytes s.calls.activeName else [0#8, 0#8]) := by
  intro l
  have form : ¬(p.length ≠ 3 || 1 < u8At p 0 || 15 < u8At p 1 || 15 < u8At p 2) = true := by
    obtain ⟨a, b, c, d⟩ := g
    simp [a]
    omega
  unfold legOpen
  rw [if_neg form, f]
  dsimp only
  rcases (by omega : u8At p 0 = 0 ∨ u8At p 0 = 1) with zero | one
  · simp only [l, zero, State.legOpened, State.newLeg, zero_ne_one, if_false, reduceCtorEq]
    rfl
  · simp only [l, one, State.legOpened, State.newLeg, if_true]
    rfl

theorem seatSetOf_sum {n : Nat} (h : n ≤ 15) : (seatSetOf n).sum = n := by
  have all : ∀ k < 16, (seatSetOf k).sum = k := by decide
  exact all n (by omega)

theorem activeName_some {c : Calls} {l : Leg} (h : c.legs.find? (fun l => l.state = .active) = some l) :
    handleBytes c.activeName = u8 l.id ++ [l.reuse] := by
  unfold Calls.activeName Calls.active
  rw [h]
  rfl

theorem activeName_none {c : Calls} (h : c.legs.find? (fun l => l.state = .active) = none) :
    handleBytes c.activeName = [0#8, 0#8] := by
  unfold Calls.activeName Calls.active
  rw [h]
  rfl

theorem legOpened_legs (s : State) (l : Leg) (c : s.calls.Consistent) : (s.legOpened l).calls.legs =
    (if l.state = .active then s.calls.legs.map holdActiveIn else s.calls.legs) ++ [l] := by
  unfold State.legOpened
  split
  · exact congrArg (· ++ [l]) (s.holdActive_legs c)
  · rfl

theorem legOpened_reuse (s : State) (l : Leg) : (s.legOpened l).calls.reuse = s.calls.reuse := by
  unfold State.legOpened
  split
  · exact s.holdActive_rest.2.2
  · rfl

theorem State.legOpened_rest (s : State) (l : Leg) :
    (s.legOpened l).jacks = s.jacks ∧ (s.legOpened l).phone = s.phone := by
  unfold State.legOpened
  obtain ⟨jacks, phone, -⟩ := s.holdActive_rest
  split
  · exact ⟨jacks, phone⟩
  · exact ⟨rfl, rfl⟩

section
variable {s : State} {l y : Leg} (c : s.calls.Consistent) (a : l.state = .active) (my : y ∈ s.calls.legs)
  (ay : y.state = .active)
include c a my

theorem State.legOpened_leg : (s.legOpened l).leg y.id y.reuse = s.holdActive.leg y.id y.reuse := by
  have held := s.holdActive_leg c my
  unfold State.leg at held ⊢
  rw [legOpened_legs s l c, if_pos a, ← s.holdActive_legs c, List.find?_append, held]
  rfl

include ay

/-- The routes of the leg an opening puts on hold are told, and the arbiter leaves them so. -/
theorem State.legOpened_agrees : ∀ n ∈ (s.legOpened l).arbitrate.routes, n.source = .leg y.id y.reuse →
    n.Agrees (s.legOpened l) := by
  intro n mn h
  obtain ⟨r, mr, source, stays⟩ := State.arbitrate_agrees (State.Hears.refl (s.legOpened l)) n mn
  have from' := source.symm.trans h
  have routes : (s.legOpened l).routes = s.holdActive.routes := by
    unfold State.legOpened
    rw [if_pos a]
    rfl
  have rest : (s.legOpened l).jacks = s.holdActive.jacks ∧ (s.legOpened l).phone = s.holdActive.phone := by
    unfold State.legOpened
    rw [if_pos a]
    exact ⟨rfl, rfl⟩
  rw [routes] at mr
  exact stays ((s.holdActive_agrees (c.active_iff.2 ⟨my, ay⟩) r mr from').transfer from'
    (State.legOpened_leg c a my) rest.1 rest.2)

end

theorem State.legOpened_get {s : State} {l : Leg} (a : l.state = .active) (x : Seat) :
    (s.legOpened l).calls.mics.get (seatIndex x) =
      if l.seats.has x = true then { s.holdActive.calls.mics.get (seatIndex x) with check := some 100 }
      else s.holdActive.calls.mics.get (seatIndex x) := by
  unfold State.legOpened
  rw [if_pos a]
  exact State.startChecks_get _ _ x

/-- The part of O49 on LEG_OPEN. -/
theorem legOpen_opens (s : State) (c : Byte) (p : List Byte) (acc : s.Accepts .legOpen c p) (ok : s.calls.Consistent) :
    let good := p.length = 3 ∧ u8At p 0 ≤ 1 ∧ u8At p 1 ≤ 15 ∧ u8At p 2 ≤ 15
    (¬good → exec (.legOpen c p) s = .next (s.declined .legOpen c p .badArgument)) ∧
    (good → s.calls.legs.length = 3 → exec (.legOpen c p) s = .next (s.declined .legOpen c p .tableFull)) ∧
    (good → s.calls.legs.length < 3 → ∃ id, s.calls.freeId = some id ∧
      let l := s.newLeg id c.toNat (if u8At p 0 = 1 then .active else .ringing) (u8At p 1) (seatSetOf (u8At p 2))
      exec (.legOpen c p) s = .next (s.served (s.legOpened l).arbitrate .legOpen c p
        (u8 l.id ++ [l.reuse] ++ u8 (u8At p 0) ++ if u8At p 0 = 1 then handleBytes s.calls.activeName else [0#8, 0#8]))) := by
  intro good
  have form : ¬good → (p.length ≠ 3 || 1 < u8At p 0 || 15 < u8At p 1 || 15 < u8At p 2) = true := fun bad => by
    simp only [Bool.or_eq_true, decide_eq_true_eq]
    by_contra x
    exact bad ⟨by omega, by omega, by omega, by omega⟩
  refine ⟨fun bad => congrArg _ (acc.refused (if_pos (form bad))), fun g full => ?_, fun g room => ?_⟩
  · refine congrArg _ (acc.refused ?_)
    have none : s.calls.freeId = none := by
      cases f : s.calls.freeId with
      | none => rfl
      | some k =>
        have := ok.free f
        omega
    unfold legOpen
    obtain ⟨a, b, d, e⟩ := g
    rw [if_neg (by simp [a]; omega), none]
  · cases f : s.calls.freeId with
    | none =>
      have := Calls.freeId_none f
      omega
    | some id => exact ⟨id, rfl, congrArg _ (acc.ok (legOpen_ok g f))⟩

/-! ## LEG_STATE (R139) -/

theorem legState_forms (s : State) (c : Byte) (p : List Byte) (acc : s.Accepts .legState c p) :
    let good := p.length = 3 ∧ (1 ≤ u8At p 0 ∧ u8At p 0 ≤ 3) ∧ (u8At p 2 = 1 ∨ u8At p 2 = 2)
    (¬good → exec (.legState c p) s = .next (s.declined .legState c p .badArgument)) ∧
    (good → s.leg (u8At p 0) (p.getD 1 0) = none →
      exec (.legState c p) s = .next (s.declined .legState c p .notFound)) ∧
    ∀ l, good → s.leg (u8At p 0) (p.getD 1 0) = some l →
      (c ≠ 0 → c.toNat ≠ l.owner → exec (.legState c p) s = .next (s.declined .legState c p .notPermitted)) ∧
      (c = 0 ∨ c.toNat = l.owner →
        (u8At p 2 = 1 → l.state = .active →
          exec (.legState c p) s = .next (s.served s .legState c p [1#8, 0#8, 0#8])) ∧
        (u8At p 2 = 2 → l.state = .held →
          exec (.legState c p) s = .next (s.served s .legState c p [2#8, 0#8, 0#8])) ∧
        (u8At p 2 = 2 → l.state ≠ .held →
          exec (.legState c p) s = .next (s.served (s.holdLeg l).arbitrate .legState c p [2#8, 0#8, 0#8])) ∧
        (u8At p 2 = 1 → l.state ≠ .active →
          exec (.legState c p) s =
            .next (s.served (s.activateLeg l).arbitrate .legState c p ([1#8] ++ handleBytes s.calls.activeName)))) := by
  intro good
  have form : p.length = 3 ∧ (u8At p 2 = 1 ∨ u8At p 2 = 2) ↔ ¬(p.length ≠ 3 || (u8At p 2 ≠ 1 && u8At p 2 ≠ 2)) = true := by
    simp only [Bool.or_eq_true, Bool.and_eq_true, decide_eq_true_eq]
    omega
  have named : ∀ e, good → s.namedLeg c p = .error e → legState c p s = .refuse s e := fun e ⟨a, _, b⟩ n => by
    unfold legState
    rw [if_neg (form.1 ⟨a, b⟩), n]
  refine ⟨fun bad => ?_, fun g none => ?_, fun l g found => ⟨fun a b => ?_, fun a => ?_⟩⟩
  · refine congrArg _ (acc.refused ?_)
    unfold legState
    by_cases f : p.length = 3 ∧ (u8At p 2 = 1 ∨ u8At p 2 = 2)
    · rw [if_neg (form.1 f), State.namedLeg_bad (fun slots => bad ⟨f.1, slots, f.2⟩)]
    · exact if_pos (by_contra (fun x => f (form.2 x)))
  · exact congrArg _ (acc.refused (named _ g (State.namedLeg_none g.2.1 none)))
  · exact congrArg _ (acc.refused (named _ g (State.namedLeg_other g.2.1 found a b)))
  · obtain ⟨len, range, op⟩ := g
    have body : ∀ b : Answer, (legState c p s = b) ↔
        ((if u8At p 2 = 2 then
          if l.state = .held then Answer.ok s (u8 LegState.held.code ++ [0, 0])
          else .ok (s.holdLeg l).arbitrate (u8 LegState.held.code ++ [0, 0])
        else if l.state = .active then .ok s (u8 LegState.active.code ++ [0, 0])
        else .ok (s.activateLeg l).arbitrate (u8 LegState.active.code ++ handleBytes s.calls.activeName)) = b) := by
      intro b
      unfold legState
      rw [if_neg (form.1 ⟨len, op⟩), State.namedLeg_ok range found a]
    refine ⟨fun one active => ?_, fun two held => ?_, fun two free => ?_, fun one idle => ?_⟩
    · refine congrArg _ (acc.ok ((body _).2 ?_))
      rw [if_neg (by omega), if_pos active]
      rfl
    · refine congrArg _ (acc.ok ((body _).2 ?_))
      rw [if_pos two, if_pos held]
      rfl
    · refine congrArg _ (acc.ok ((body _).2 ?_))
      rw [if_pos two, if_neg free]
      rfl
    · refine congrArg _ (acc.ok ((body _).2 ?_))
      rw [if_neg (by omega), if_neg idle]
      rfl

end Sys2Proof.Machine
end

-- ==== support and settled obligations, part 25 ====
section
/-! SUPPORT. The statement on LEG_OPEN and LEG_STATE, settled. -/

namespace Sys2Proof.Machine

/-- The part of O49 on a leg put on hold by LEG_STATE. -/
theorem holdLeg_done {s : State} {l : Leg} (ok : s.calls.Consistent) (m : l ∈ s.calls.legs) :
    State.TunerWork { s with calls.legs := (s.holdLeg l).arbitrate.calls.legs } (s.holdLeg l).arbitrate ∧
      (s.holdLeg l).arbitrate.calls.legs = s.calls.legs.map (fun x => if x.id = l.id then { x with state := .held } else x) ∧
      (∀ r ∈ (s.holdLeg l).arbitrate.routes, r.source = .leg l.id l.reuse → r.play = none ∧ r.Silent s .legHeld) ∧
      (l.state = .active → ∀ x, l.seats.has x = true →
        ((s.holdLeg l).arbitrate.calls.mics.get (seatIndex x)).check = none ∧
          ((s.holdLeg l).arbitrate.calls.mics.get (seatIndex x)).canceller = .idle) := by
  obtain ⟨jacks, -, reuse⟩ := s.holdLeg_rest l
  have legs := (State.arbitrate_frame (s.holdLeg l)).legs.trans (s.holdLeg_legs l)
  refine ⟨?_, legs, fun r mr h => ?_, fun a x has => ?_⟩
  · exact ((s.holdLeg_frame l).trans (.ofTuner (State.arbitrate_frame _))).work ((State.arbitrate_reuse _).trans reuse)
  · obtain ⟨n, mn, source, stays⟩ := State.arbitrate_agrees (State.Hears.refl (s.holdLeg l)) r mr
    have found : (s.holdLeg l).leg l.id l.reuse = some (holdIn l.id l) := by
      rw [State.leg_of_map (holdIn l.id) (s.holdLeg_legs l) (holdIn_names l.id), State.leg_eq ok m]
      rfl
    exact (stays (s.holdLeg_agrees l n mn (source.symm.trans h))).held h found (by unfold holdIn; rw [if_pos rfl]) jacks
  · obtain ⟨check, idle⟩ := s.holdLeg_mics l a x has
    obtain ⟨same, still⟩ := (State.arbitrate_follow (s.holdLeg l)).mic (seatIndex x)
    exact ⟨same.trans check, by rw [still idle]; exact idle⟩

/-- The part of O49 on a leg made ACTIVE by LEG_STATE. -/
theorem activateLeg_done {s : State} {l : Leg} (ok : s.calls.Consistent) (m : l ∈ s.calls.legs) (idle : l.state ≠ .active) :
    let u := (s.activateLeg l).arbitrate
    State.TunerWork { s with calls.legs := u.calls.legs } u ∧
      u.calls.legs = s.calls.legs.map (fun x =>
        if x.id = l.id then { x with state := .active } else if x.state = .active then { x with state := .held } else x) ∧
      (∀ r ∈ u.routes, r.source = .leg l.id l.reuse → r.play = none ∧ (s.phone.link ≠ .up → r.Silent s .linkDown) ∧
        (s.phone.link = .up → r.state = .pending → s.listener r.zone = false)) ∧
      (∀ y ∈ s.calls.legs, y.state = .active → ∀ r ∈ u.routes, r.source = .leg y.id y.reuse →
        r.play = none ∧ r.Silent s .legHeld) ∧
      (∀ x, l.seats.has x = true → (u.calls.mics.get (seatIndex x)).check = some 100) ∧
      (∀ y ∈ s.calls.legs, y.state = .active → ∀ x, y.seats.has x = true →
        (u.calls.mics.get (seatIndex x)).canceller = .idle ∧
          (l.seats.has x = false → (u.calls.mics.get (seatIndex x)).check = none)) ∧
      ((∃ y ∈ s.calls.legs, y.state = .active) → u.events.flags.getLsbD 11 = true) := by
  intro u
  obtain ⟨jacks, phone, reuse⟩ := s.madeActive_rest l
  have told := (s.madeActive l).legNotice_frame l.id l.reuse
  have frame : TunerFrame (s.madeActive l) u := (TunerFrame.ofRoute told).trans (State.arbitrate_frame _)
  have legs : u.calls.legs = s.calls.legs.map (activateIn l.id ∘ holdActiveIn) := frame.legs.trans (s.madeActive_legs l ok)
  have apart : ∀ y ∈ s.calls.legs, y.state = .active → y.id ≠ l.id := fun y my ay e =>
    idle (ok.unique my m e ▸ ay)
  refine ⟨?_, ?_, fun r mr h => ?_, fun y my ay r mr h => ?_, fun x has => ?_, fun y my ay x has => ?_, ?_⟩
  · refine ((s.activateLeg_frame l).trans (.ofTuner (State.arbitrate_frame _))).work ?_
    rw [State.arbitrate_reuse, ← reuse, s.activateLeg_eq, told.rest]
  · rw [legs]
    refine List.map_congr_left (fun x mx => ?_)
    unfold activateIn holdActiveIn
    dsimp only [Function.comp]
    by_cases e : x.id = l.id
    · obtain rfl := ok.unique mx m e
      simp [idle]
    · by_cases ax : x.state = .active <;> simp [ax, e]
  · have found : (s.madeActive l).leg l.id l.reuse = some (activateIn l.id (holdActiveIn l)) := s.madeActive_leg l ok m
    have state : (activateIn l.id (holdActiveIn l)).state = .active := by
      unfold activateIn
      rw [if_pos (holdActiveIn_names l).1]
    exact ((s.activateLeg_agrees l ok r mr).1 h).active h found state jacks phone
  · have found := s.madeActive_leg l ok my
    have state : (activateIn l.id (holdActiveIn y)).state = .held := by
      unfold activateIn
      rw [if_neg (by rw [(holdActiveIn_names y).1]; exact apart y my ay)]
      unfold holdActiveIn
      rw [if_pos ay]
    exact ((s.activateLeg_agrees l ok r mr).2 y my ay (apart y my ay) h).held h found state jacks
  · rw [(s.activateLeg_mics l x).1, s.madeActive_get, if_pos has]
  · obtain ⟨check, idles⟩ := s.holdActive_mics (ok.active_iff.2 ⟨my, ay⟩) ay x has
    obtain ⟨same, still⟩ := s.activateLeg_mics l x
    have get := s.madeActive_get l x
    have quiet : ((s.madeActive l).calls.mics.get (seatIndex x)).canceller = .idle := by
      rw [get]
      split <;> exact idles
    refine ⟨by rw [still quiet]; exact quiet, fun out => ?_⟩
    rw [same, get, if_neg (by rw [out]; simp)]
    exact check
  · rintro ⟨y, my, ay⟩
    exact flag_stands frame.flags (s.holdActive_flag (ok.active_iff.2 ⟨my, ay⟩))

/-- Settles O49: the legs are set first, then the routes of each leg are told and agree with it. -/
theorem legsAreOpenedAndMoved : Obligations.LegsAreOpenedAndMoved := by
  refine ⟨fun s c p acc ok => ?_, fun s c p acc ok => ?_⟩
  · obtain ⟨bad, full, opens⟩ := legOpen_opens s c p acc ok
    refine ⟨bad, full, fun g room => ?_⟩
    obtain ⟨id, free, ran⟩ := opens g room
    obtain ⟨range, fresh, lower⟩ := Calls.freeId_spec free
    let n := s.newLeg id c.toNat (if u8At p 0 = 1 then .active else .ringing) (u8At p 1) (seatSetOf (u8At p 2))
    have active : u8At p 0 = 1 → n.state = .active := fun one => if_pos one
    have ringing : u8At p 0 ≠ 1 → n.state ≠ .active := fun other => by
      show (if u8At p 0 = 1 then LegState.active else LegState.ringing) ≠ .active
      rw [if_neg other]
      simp
    obtain ⟨jacks, -⟩ := s.legOpened_rest n
    have follow := State.arbitrate_follow (s.legOpened n)
    refine ⟨(s.legOpened n).arbitrate, n, ?_, ?_, ?_, range, fresh, lower, rfl, rfl, rfl, rfl, seatSetOf_sum g.2.2.2, rfl, rfl,
      rfl, fun one x has => ?_, fun one _ _ y my ay r mr h => ?_, fun one y my ay x has => ?_⟩
    · refine ran.trans ?_
      congr 4
      cases f : s.calls.legs.find? (fun l => l.state = .active) with
      | some l => rw [activeName_some f]
      | none =>
        rw [activeName_none f]
        exact ite_self _
    · exact ((s.legOpened_frame n).trans (.ofTuner (State.arbitrate_frame _))).work
        ((State.arbitrate_reuse _).trans (legOpened_reuse s n))
    · rw [(State.arbitrate_frame _).legs, legOpened_legs s n ok]
      by_cases one : u8At p 0 = 1
      · rw [if_pos one, if_pos (active one)]
        rfl
      · rw [if_neg one, if_neg (ringing one)]
    · rw [(follow.mic (seatIndex x)).1, State.legOpened_get (active one), if_pos has]
    · have found := (State.legOpened_leg ok (active one) my).trans (s.holdActive_leg ok my)
      exact (State.legOpened_agrees ok (active one) my ay r mr h).held h found (by unfold holdActiveIn; rw [if_pos ay]) jacks
    · obtain ⟨check, idle⟩ := s.holdActive_mics (ok.active_iff.2 ⟨my, ay⟩) ay x has
      obtain ⟨same, still⟩ := follow.mic (seatIndex x)
      have get := State.legOpened_get (s := s) (active one) x
      have quiet : ((s.legOpened n).calls.mics.get (seatIndex x)).canceller = .idle := by
        rw [get]
        split <;> exact idle
      refine ⟨by rw [still quiet]; exact quiet, fun out => ?_⟩
      rw [same, get, if_neg (by rw [out]; simp)]
      exact check
  · intro silent unrung good
    obtain ⟨bad, missing, found⟩ := legState_forms s c p acc
    refine ⟨bad, missing, fun l g e => ⟨(found l g e).1, fun a => ?_⟩⟩
    obtain ⟨sameActive, sameHeld, holds, activates⟩ := (found l g e).2 a
    have m := (State.leg_spec e).1
    refine ⟨sameActive, sameHeld, fun two free => ?_, fun one idle => ?_⟩
    · obtain ⟨work, legs, routes, mics⟩ := holdLeg_done ok m
      exact ⟨_, holds two free, work, legs, fun _ _ => ⟨fun r mr h => (routes r mr h).2, fun r mr h => (routes r mr h).1⟩, mics⟩
    · obtain ⟨work, legs, mine, held, checks, dropped, flag⟩ := activateLeg_done ok m idle
      refine ⟨_, ?_, work, legs, fun _ _ => ⟨fun r mr h => (mine r mr h).1,
        fun down r mr h => (mine r mr h).2.1 down, fun up r mr h => (mine r mr h).2.2 up, fun y my ay => ⟨fun r mr h =>
          (held y my ay r mr h).2, fun r mr h => (held y my ay r mr h).1⟩⟩, checks, dropped, flag⟩
      rw [activates one idle]
      congr 4
      cases f : s.calls.legs.find? (fun l => l.state = .active) with
      | some l => exact activeName_some f
      | none => exact activeName_none f

end Sys2Proof.Machine
end

-- ==== support and settled obligations, part 26 ====
section
/-! SUPPORT. Changes that are no reference change, and the link's entry into and exit from UP. -/

namespace Sys2Proof.Machine

/-! ## No reference change outside the cabin group (R147) -/

/-- Where no cabin-group route starts or stops sounding there is no reference change. -/
theorem referenceMoved_of_cabin {rs ns : List Route}
    (h : List.Forall₂ (fun r n : Route => r.zone.domain = .cabinGroup → n.state.sounding = r.state.sounding) rs ns) :
    referenceMoved rs ns = false := by
  unfold referenceMoved
  induction h with
  | nil => rfl
  | @cons r n rs ns e _ ih =>
    rw [List.zip_cons_cons, List.any_cons, ih, Bool.or_false]
    by_cases k : r.zone.domain = .cabinGroup
    · simp [e k]
    · simp [k]

/-- A change of the routes of other domains than the cabin group. -/
def Route.Outside (r n : Route) : Prop := n.zone = r.zone ∧ (r.zone.domain = .cabinGroup → n = r)

theorem Route.Outside.refl (r : Route) : r.Outside r := ⟨rfl, fun _ => rfl⟩

theorem Route.Outside.trans {a b c : Route} (h : a.Outside b) (k : b.Outside c) : a.Outside c :=
  ⟨k.1.trans h.1, fun e => (k.2 (by rw [h.1]; exact e)).trans (h.2 e)⟩

theorem referenceMoved_of_outside {rs ns : List Route} (h : List.Forall₂ Route.Outside rs ns) :
    referenceMoved rs ns = false :=
  referenceMoved_of_cabin (h.imp (fun _ _ k e => by rw [k.2 e]))

section
variable (s : State)

theorem State.rerunRoutes_outside {d : Domain} (h : d ≠ .cabinGroup) (rs : List Route) :
    List.Forall₂ Route.Outside rs (s.rerunRoutes d rs) := by
  have class' : ∀ k xs, List.Forall₂ Route.Outside xs (s.judgeClass d k xs) := fun k xs => forall₂_map_of _ _ (fun r _ => by
    split
    · rename_i e
      simp only [Bool.and_eq_true, decide_eq_true_eq] at e
      exact ⟨(s.judged_keeps xs r).zone, fun c => absurd (e.1.symm.trans c) h⟩
    · exact .refl r)
  have duck : ∀ xs, List.Forall₂ Route.Outside xs (s.duckPass d xs) := fun xs => forall₂_map_of _ _ (fun r _ => by
    split
    · rename_i e
      exact ⟨(s.withDuck_keeps _ r).zone, fun c => absurd (e.symm.trans c) h⟩
    · exact .refl r)
  have trans : ∀ a b c : Route, a.Outside b → b.Outside c → a.Outside c := fun _ _ _ => .trans
  unfold State.rerunRoutes
  exact forall₂_trans trans (forall₂_trans trans (forall₂_trans trans (forall₂_trans trans
    (forall₂_trans trans (class' _ _) (class' _ _)) (class' _ _)) (class' _ _)) (class' _ _)) (duck _)

theorem State.rerun_mics {d : Domain} (h : d ≠ .cabinGroup) : (s.rerun d).calls.mics = s.calls.mics := by
  unfold State.rerun
  rw [State.commitRoutes_mics, referenceMoved_of_outside (s.rerunRoutes_outside h s.routes)]
  rfl

theorem State.rerunAll_mics {ds : List Domain} (h : .cabinGroup ∉ ds) : (s.rerunAll ds).calls.mics = s.calls.mics := by
  have step : ∀ (t : State) (d : Domain), (if d ∈ ds then t.rerun d else t).calls.mics = t.calls.mics := fun t d => by
    split
    · rename_i m
      exact t.rerun_mics (fun e => h (e ▸ m))
    · rfl
  unfold State.rerunAll
  simp only [List.foldl_cons, List.foldl_nil, step]

/-- A notice to routes outside the cabin group is no reference change. -/
theorem State.notice_mics (p : Route → Bool) (f : Route → Route)
    (h : ∀ r ∈ s.routes, p r = true → r.zone.domain ≠ .cabinGroup) : (s.notice p f).calls.mics = s.calls.mics := by
  have still : List.Forall₂ (fun r n : Route => r.zone.domain = .cabinGroup → n.state.sounding = r.state.sounding) s.routes
      (s.routes.map (fun r => if p r then f r else r)) := forall₂_map_of _ _ (fun r m c => by
    split
    · rename_i e
      exact absurd c (h r m e)
    · rfl)
  have outside : Domain.cabinGroup ∉ domainsOf p s.routes := by
    intro m
    obtain ⟨r, mr, e⟩ := List.mem_map.1 m
    obtain ⟨mr, told⟩ := List.mem_filter.1 mr
    exact h r mr told e
  unfold State.notice
  dsimp only
  rw [State.rerunAll_mics _ outside, State.commitRoutes_mics, referenceMoved_of_cabin still]
  rfl

end

/-! ## Cancellers at the link's changes (R148) -/

theorem State.callsLinkUp_get (s : State) (x : Seat) : s.callsLinkUp.calls.mics.get (seatIndex x) =
    Mic.linkUp (s.calls.included x) s.phone.mode (s.calls.mics.get (seatIndex x)) := by
  have seats : ∀ (xs : List Seat), xs.Nodup → ∀ c : Calls,
      (xs.foldl (fun c y => c.onSeats (· = y) (Mic.linkUp (s.calls.included y) s.phone.mode)) c).mics.get (seatIndex x) =
        if x ∈ xs then Mic.linkUp (s.calls.included x) s.phone.mode (c.mics.get (seatIndex x)) else c.mics.get (seatIndex x) := by
    intro xs
    induction xs with
    | nil => intro _ c; simp
    | cons y ys ih =>
      intro n c
      obtain ⟨out, rest⟩ := List.nodup_cons.1 n
      rw [List.foldl_cons, ih rest, Calls.onSeats_get]
      by_cases e : x = y
      · subst e
        simp [out]
      · simp [e]
  have all : x ∈ allSeats := by cases x <;> decide
  unfold State.callsLinkUp
  rw [State.raiseIf_calls]
  exact (seats allSeats (by decide) s.calls).trans (if_pos all)

theorem State.callsLinkDown_mics (s : State) : s.callsLinkDown.calls.mics = s.calls.mics.map Mic.linkDown := by
  unfold State.callsLinkDown
  rw [State.raiseIf_calls]

theorem Calls.included_of {c d : Calls} (legs : d.legs = c.legs) {x : Seat}
    (mic : (d.mics.get (seatIndex x)).check = (c.mics.get (seatIndex x)).check ∧
      (d.mics.get (seatIndex x)).health = (c.mics.get (seatIndex x)).health) : d.included x = c.included x := by
  unfold Calls.included Calls.active
  rw [legs]
  simp only [mic.1, mic.2]

theorem Mic.referenceChange_health (m : Mic) : m.referenceChange.health = m.health ∧ m.referenceChange.check = m.check := by
  unfold Mic.referenceChange
  cases m.canceller <;> exact ⟨rfl, rfl⟩

/-! ## The notices of the link -/

/-- The routes on the ACTIVE leg told of the link leave the cancellers as a reference change does, and only where one of
them is in the cabin group. -/
theorem State.routesLink_mics (s : State) : s.routesLink.calls.mics = s.calls.mics ∨
    ((∃ r ∈ s.routes, r.zone.domain = .cabinGroup ∧ s.legIs r .active = true) ∧
      s.routesLink.calls.mics = s.calls.mics.map Mic.referenceChange) := by
  by_cases h : ∃ r ∈ s.routes, r.zone.domain = .cabinGroup ∧ s.legIs r .active = true
  · exact (s.notice_follow _ _).imp_right (fun e => ⟨h, e⟩)
  · exact .inl (s.notice_mics _ _ (fun r m told c => h ⟨r, m, c, told⟩))

/-- The routes on the ACTIVE leg agree with the link once they are told. -/
theorem State.routesLink_fits {s e : State} (h : s.Hears e) :
    ∀ n ∈ s.routesLink.routes, e.legIs n .active = true → n.Fits e := by
  intro n mn active
  have told := State.notice_fits h (fun r => s.legIs r .active) s.refresh s.refresh_evolves s.refresh_keeps (State.refresh_fits h)
  obtain ⟨r, mr, keeps, fits⟩ := forall₂_right told n mn
  refine fits (.inl ?_)
  rw [h.legIs, ← Route.Unrung.legIs_of_source keeps.source]
  exact active

theorem State.arbitrate_fits {s e : State} (h : s.Hears e) (k : ∀ n ∈ s.routes, e.legIs n .active = true → n.Fits e) :
    ∀ n ∈ s.arbitrate.routes, e.legIs n .active = true → n.Fits e := by
  intro n mn active
  obtain ⟨r, mr, keeps, fits⟩ := forall₂_right ((fits_arbitrates e).arbitrate s h) n mn
  refine fits (k r mr ?_)
  rw [← Route.Unrung.legIs_of_source keeps.source]
  exact active

theorem State.NoRetune.arbitrate_mics {s : State} (h : s.NoRetune) : s.arbitrate.calls.mics = s.calls.mics := by
  unfold State.arbitrate
  simp [h.endFades]

/-- One of the two orders of the notices at a change of the link, with what the Call Processor does. -/
def State.NoticedBy (s t : State) (calls : State → State) : Prop :=
  t = (calls s).routesLink.arbitrate ∨ t = (calls s.routesLink).arbitrate

theorem State.noticeUp_by (s : State) : { s with freeCount := s.freeCount + 1 }.NoticedBy s.noticeUp State.callsLinkUp := by
  unfold State.noticeUp State.eitherOrder
  dsimp only
  split
  · exact .inl rfl
  · exact .inr rfl

theorem State.noticeNotUp_by (s : State) :
    { s with freeCount := s.freeCount + 1 }.NoticedBy s.noticeNotUp State.callsLinkDown := by
  unfold State.noticeNotUp State.eitherOrder
  dsimp only
  split
  · exact .inl rfl
  · exact .inr rfl

/-- After the notices every route on an ACTIVE leg agrees with the link. -/
theorem State.NoticedBy.fits {s t : State} {calls : State → State} (h : s.NoticedBy t calls)
    (frame : ∀ u, RouteFrame u (calls u)) (routes : ∀ u, (calls u).routes = u.routes) :
    ∀ n ∈ t.routes, s.legIs n .active = true → n.Fits s := by
  rcases h with rfl | rfl
  · have hears : (calls s).Hears s := (State.Hears.refl s).frame (.ofRoute (frame s))
    exact State.arbitrate_fits (hears.frame (.ofRoute (State.routesLink_frame _))) (State.routesLink_fits hears)
  · have hears : s.routesLink.Hears s := (State.Hears.refl s).frame (.ofRoute s.routesLink_frame)
    refine State.arbitrate_fits (hears.frame (.ofRoute (frame _))) (fun n mn active => ?_)
    rw [routes] at mn
    exact State.routesLink_fits (State.Hears.refl s) n mn active

/-- A reference change before or after what a link's change does to a microphone, where one happens. -/
def Mic.LinkMoves (g : Mic → Mic) (moved : Prop) (m n : Mic) : Prop :=
  n = g m ∨ (moved ∧ (n = (g m).referenceChange ∨ n = g m.referenceChange))

/-- Whether a route on an ACTIVE leg sounds in the cabin group. -/
def State.legInCabin (s : State) : Prop := ∃ r ∈ s.routes, r.zone.domain = .cabinGroup ∧ s.legIs r .active = true

/-- What the notices of a change of the link make of each microphone, with no retune in progress. -/
theorem State.NoticedBy.mic {s t : State} {calls : State → State} {g : State → Seat → Mic → Mic} (h : s.NoticedBy t calls)
    (frame : ∀ u, RouteFrame u (calls u)) (routes : ∀ u, (calls u).routes = u.routes)
    (get : ∀ u x, (calls u).calls.mics.get (seatIndex x) = g u x (u.calls.mics.get (seatIndex x)))
    (same : ∀ x, g s.routesLink x = g s x) (still : s.NoRetune) (x : Seat) :
    Mic.LinkMoves (g s x) s.legInCabin (s.calls.mics.get (seatIndex x)) (t.calls.mics.get (seatIndex x)) := by
  rcases h with rfl | rfl
  · have tuners : (calls s).routesLink.NoRetune := by
      unfold State.NoRetune
      rw [(calls s).routesLink_frame.rest, (frame s).rest]
      exact still
    rw [tuners.arbitrate_mics]
    rcases (calls s).routesLink_mics with e | ⟨⟨r, m, c, a⟩, e⟩
    · exact .inl (by rw [e, get])
    · have hears : (calls s).Hears s := (State.Hears.refl s).frame (.ofRoute (frame s))
      rw [routes] at m
      rw [hears.legIs] at a
      exact .inr ⟨⟨r, m, c, a⟩, .inl (by rw [e, Quad.get_map, get])⟩
  · have tuners : (calls s.routesLink).NoRetune := by
      unfold State.NoRetune
      rw [(frame s.routesLink).rest, s.routesLink_frame.rest]
      exact still
    rw [tuners.arbitrate_mics, get, same]
    rcases s.routesLink_mics with e | ⟨moved, e⟩
    · exact .inl (by rw [e])
    · exact .inr ⟨moved, .inr (by rw [e, Quad.get_map])⟩

end Sys2Proof.Machine
end

-- ==== support and settled obligations, part 27 ====
section
/-! SUPPORT. The statement on the link's changes and reference changes. -/

namespace Sys2Proof.Machine

/-! ## The phone port's record replaced (R132) -/

/-- The state in which a change of the link is told: the port's record replaced, its report raised, a free value taken. -/
def State.withPhone (s : State) (p : Phone) : State :=
  let o := s.phone
  let rose :=
    o.link ≠ p.link || (!o.ownFault && p.ownFault) || (!o.detectionFault && p.detectionFault) ||
      (!o.partnerFault && p.partnerFault)
  let s1 := { s with phone := p }.raiseIf rose .phoneLink
  { s1 with freeCount := s1.freeCount + 1 }

theorem State.withPhone_rest (s : State) (p : Phone) : (s.withPhone p).routes = s.routes ∧ (s.withPhone p).calls = s.calls ∧
    (s.withPhone p).phone = p ∧ (s.withPhone p).jacks = s.jacks ∧ (s.withPhone p).tuners = s.tuners := by
  unfold State.withPhone
  dsimp only
  exact ⟨by simp, by simp, by simp, by simp, by simp⟩

theorem State.setPhone_up {s : State} {p : Phone} (a : s.phone.link ≠ .up) (b : p.link = .up) :
    (s.withPhone p).NoticedBy (s.setPhone p) State.callsLinkUp := by
  unfold State.setPhone
  dsimp only
  rw [if_pos (by simp [a, b])]
  exact State.noticeUp_by _

theorem State.setPhone_notUp {s : State} {p : Phone} (a : s.phone.link = .up) (b : p.link ≠ .up) :
    (s.withPhone p).NoticedBy (s.setPhone p) State.callsLinkDown := by
  unfold State.setPhone
  dsimp only
  rw [if_neg (by simp [a]), if_pos (by simp [a, b])]
  exact State.noticeNotUp_by _

theorem State.withPhone_legIs (s : State) (p : Phone) (r : Route) (st : LegState) :
    (s.withPhone p).legIs r st = s.legIs r st := by
  unfold State.legIs State.legOf State.leg
  rw [(s.withPhone_rest p).2.1]

theorem State.withPhone_listener (s : State) (p : Phone) (z : Zone) : (s.withPhone p).listener z = s.listener z := by
  unfold State.listener
  rw [(s.withPhone_rest p).2.2.2.1]

theorem State.withPhone_legInCabin {s : State} {p : Phone} (h : (s.withPhone p).legInCabin) :
    ∃ r ∈ s.routes, r.zone.domain = .cabinGroup ∧ s.legIs r .active = true := by
  obtain ⟨r, m, c, a⟩ := h
  rw [(s.withPhone_rest p).1] at m
  rw [s.withPhone_legIs] at a
  exact ⟨r, m, c, a⟩

theorem State.condition_of_active {s : State} {r : Route} (h : s.legIs r .active = true) :
    s.condition r = if s.phone.link = .up then .available else .linkDown := by
  unfold State.legIs State.legOf at h
  cases source : r.source with
  | leg id reuse =>
    rw [source] at h
    dsimp only at h
    cases found : s.leg id reuse with
    | none =>
      rw [found] at h
      cases h
    | some l =>
      rw [found] at h
      exact State.condition_active source found (of_decide_eq_true h)
  | _ =>
    rw [source] at h
    cases h

/-- A request leaves the routes, the calls and the port as its owning block leaves them, or as they were. -/
theorem State.request_leaves (s : State) (k : Request) (c : Byte) (p : List Byte) (body : State → Answer) :
    ∃ u, (u = s ∨ u = (body s).state) ∧ (s.request k c p body).routes = u.routes ∧ (s.request k c p body).calls = u.calls ∧
      (s.request k c p body).phone = u.phone := by
  have answered : ∀ (u v : State) (a b : List Byte), v = u ∨ v = u.validRequest →
      (v.answered a b).routes = u.routes ∧ (v.answered a b).calls = u.calls ∧ (v.answered a b).phone = u.phone := by
    rintro u v a b (rfl | rfl) <;> simp
  unfold State.request
  dsimp only
  split
  · exact ⟨s, .inl rfl, by simp⟩
  · split
    · exact ⟨s, .inl rfl, answered s s _ _ (.inl rfl)⟩
    · split
      · exact ⟨s, .inl rfl, answered s _ _ _ (.inr rfl)⟩
      · refine ⟨_, .inr rfl, answered (body s).state _ _ _ ?_⟩
        unfold State.watchdogAfter
        split
        · exact .inl rfl
        · exact .inr rfl

/-- A state with the port's record replaced, as to routes, calls and port, or one with the record as it was. -/
def State.TakesPhone (s t : State) : Prop :=
  t.phone = s.phone ∨ ∃ p, t.routes = (s.setPhone p).routes ∧ t.calls = (s.setPhone p).calls ∧ t.phone = p

theorem State.TakesPhone.set (s : State) (p : Phone) : s.TakesPhone (s.setPhone p) := .inr ⟨p, rfl, rfl, s.setPhone_phone p⟩

theorem State.TakesPhone.refl (s : State) : s.TakesPhone s := .inl rfl

theorem State.TakesPhone.working {s u : State} (h : s.TakesPhone u) : s.TakesPhone (s.unlessHeld u) := by
  unfold State.unlessHeld
  split
  · exact .refl s
  · exact h

theorem State.TakesPhone.restart (s : State) (c : Byte) (p : List Byte) :
    s.TakesPhone (s.request .phoneRestart c p (phoneRestart c p)) := by
  obtain ⟨u, from', routes, calls, phone⟩ := s.request_leaves .phoneRestart c p (phoneRestart c p)
  have taken : s.TakesPhone u := by
    rcases from' with rfl | rfl
    · exact .refl _
    · unfold phoneRestart
      split
      · exact .refl s
      · split
        · exact .refl s
        · exact .set s _
  rcases taken with same | ⟨q, r, k, f⟩
  · exact .inl (phone.trans same)
  · exact .inr ⟨q, routes.trans r, calls.trans k, phone.trans f⟩

/-- What the port's events and PHONE_RESTART do to the port's record. -/
theorem exec_takesPhone (s t : State) (i : Instr)
    (h : i = .clockDetectPresent ∨ i = .clockDetectAbsent ∨ (∃ rate, i = .rateSpanEnd rate) ∨ (∃ b, i = .partnerWord b) ∨
      i = .silenceTimerExpiry ∨ i = .holdOffExpiry ∨ ∃ c p, i = .phoneRestart c p) (e : exec i s = .next t) :
    s.TakesPhone t := by
  have either : ∀ (b : Prop) [Decidable b] (p : Phone), s.TakesPhone (if b then s.setPhone p else s) := fun b _ p => by
    split
    · exact .set s p
    · exact .refl s
  rcases h with rfl | rfl | ⟨rate, rfl⟩ | ⟨b, rfl⟩ | rfl | rfl | ⟨c, p, rfl⟩ <;> obtain rfl := Host.Outcome.next.inj e
  · refine State.TakesPhone.working ?_
    split
    · exact .refl s
    · exact .set s _
  · exact (either _ _).working
  · exact (State.TakesPhone.set s _).working
  · refine State.TakesPhone.working ?_
    split
    · exact .set s _
    · exact .refl s
  · exact (either _ _).working
  · exact (either _ _).working
  · exact .restart s c p

/-! ## Entry into and exit from UP (R148) -/

/-- A microphone at the link's entry into UP, and what a reference change beside it adds. -/
theorem Mic.linkUp_moves {incl : Bool} {mode : Option Mode} {moved : Prop} {m n : Mic}
    (h : Mic.LinkMoves (Mic.linkUp incl mode) moved m n) :
    let fresh : Mic := { m with
      canceller := .converging, sustain := 0, divergence := 0, filterEmpty := true, lastMode := mode
      remembered := none }
    (m.canceller = .idle → n = if incl = true then fresh else m) ∧
    (m.canceller = .frozen → m.lastMode ≠ mode → n = fresh) ∧
    (m.canceller = .frozen → m.lastMode = mode →
      n = { m with canceller := n.canceller, sustain := 0, divergence := 0, remembered := none } ∧
      (m.remembered ≠ some true → n.canceller = .converging) ∧
      (m.remembered = some true → n.canceller = .converged ∨ (moved ∧ n.canceller = .converging))) := by
  intro fresh
  refine ⟨fun idle => ?_, fun frozen other => ?_, fun frozen same => ?_⟩
  · rcases h with rfl | ⟨-, rfl | rfl⟩ <;> cases incl <;>
      simp [Mic.linkUp, Mic.referenceChange, Mic.converge, idle, fresh]
  · rcases h with rfl | ⟨-, rfl | rfl⟩ <;> simp [Mic.linkUp, Mic.referenceChange, Mic.converge, frozen, other, fresh]
  · by_cases k : m.remembered = some true
    · rcases h with rfl | ⟨moves, rfl | rfl⟩
      · simp [Mic.linkUp, frozen, same, k]
      · simp [Mic.linkUp, Mic.referenceChange, frozen, same, k, moves]
      · simp [Mic.linkUp, Mic.referenceChange, frozen, same, k, moves]
    · rcases h with rfl | ⟨-, rfl | rfl⟩
      · simp [Mic.linkUp, frozen, same, k]
      · simp [Mic.linkUp, Mic.referenceChange, frozen, same, k]
      · simp [Mic.linkUp, Mic.referenceChange, frozen, same, k]

/-- A microphone when the link leaves UP, and what a reference change beside it adds. -/
theorem Mic.linkDown_moves {moved : Prop} {m n : Mic} (h : Mic.LinkMoves Mic.linkDown moved m n) :
    (m.canceller = .idle → n = m) ∧
    (m.canceller = .converging ∨ m.canceller = .converged →
      n = { m with
        canceller := .frozen, sustain := n.sustain, divergence := n.divergence, remembered := n.remembered } ∧
      (m.canceller = .converging → n.remembered = some false) ∧
      (m.canceller = .converged → n.remembered = some true ∨ (moved ∧ n.remembered = some false)) ∧
      (¬moved → n.sustain = m.sustain ∧ n.divergence = m.divergence)) := by
  refine ⟨fun idle => ?_, fun runs => ?_⟩
  · rcases h with rfl | ⟨-, rfl | rfl⟩ <;> simp [Mic.linkDown, Mic.referenceChange, idle]
  · rcases runs with runs | runs
    · rcases h with rfl | ⟨moves, rfl | rfl⟩
      · simp [Mic.linkDown, runs]
      · simp [Mic.linkDown, Mic.referenceChange, runs, moves]
      · simp [Mic.linkDown, Mic.referenceChange, runs, moves]
    · rcases h with rfl | ⟨moves, rfl | rfl⟩
      · simp [Mic.linkDown, runs]
      · simp [Mic.linkDown, Mic.referenceChange, runs, moves]
      · simp [Mic.linkDown, Mic.referenceChange, runs, moves]

theorem Mic.LinkMoves.mono {g : Mic → Mic} {a b : Prop} {m n : Mic} (h : Mic.LinkMoves g a m n) (k : a → b) :
    Mic.LinkMoves g b m n := h.imp_right (And.imp_left k)

/-- Entry into UP. -/
theorem State.setPhone_enters {s : State} {p : Phone} (still : s.NoRetune) (a : s.phone.link ≠ .up) (b : p.link = .up) :
    (∀ n ∈ (s.setPhone p).routes, (s.withPhone p).legIs n .active = true → n.state = .pending →
      s.listener n.zone = false) ∧
    ∀ x : Seat, Mic.LinkMoves (Mic.linkUp (s.calls.included x) p.mode)
      (∃ r ∈ s.routes, r.zone.domain = .cabinGroup ∧ s.legIs r .active = true)
      (s.calls.mics.get (seatIndex x)) ((s.setPhone p).calls.mics.get (seatIndex x)) := by
  have noticed := State.setPhone_up a b
  obtain ⟨-, calls, phone, -, tuners⟩ := s.withPhone_rest p
  refine ⟨fun n mn active pending => ?_, fun x => ?_⟩
  · have fits := noticed.fits State.callsLinkUp_frame (fun u => u.callsLinkUp_routes) n mn active
    have unavailable := fits.pending pending
    unfold State.available at unavailable
    rw [State.condition_of_active active, phone, if_pos b, s.withPhone_listener] at unavailable
    simpa using unavailable
  · have moves := noticed.mic (g := fun u x => Mic.linkUp (u.calls.included x) u.phone.mode) State.callsLinkUp_frame
      (fun u => u.callsLinkUp_routes) State.callsLinkUp_get (fun x => ?_) (by unfold State.NoRetune; rw [tuners]; exact still) x
    · rw [calls, phone] at moves
      exact moves.mono State.withPhone_legInCabin
    · have frame := (s.withPhone p).routesLink_frame
      have incl : (s.withPhone p).routesLink.calls.included x = (s.withPhone p).calls.included x := by
        refine Calls.included_of (by rw [frame.rest]) ?_
        rcases (s.withPhone p).routesLink_mics with e | ⟨-, e⟩
        · rw [e]
          exact ⟨rfl, rfl⟩
        · rw [e, Quad.get_map]
          exact (Mic.referenceChange_health _).symm
      rw [incl, frame.phone]

/-- Exit from UP. -/
theorem State.setPhone_leaves {s : State} {p : Phone} (still : s.NoRetune) (a : s.phone.link = .up) (b : p.link ≠ .up) :
    (∀ n ∈ (s.setPhone p).routes, (s.withPhone p).legIs n .active = true → n.Silent s .linkDown) ∧
    ∀ x : Seat, Mic.LinkMoves Mic.linkDown
      (∃ r ∈ s.routes, r.zone.domain = .cabinGroup ∧ s.legIs r .active = true)
      (s.calls.mics.get (seatIndex x)) ((s.setPhone p).calls.mics.get (seatIndex x)) := by
  have noticed := State.setPhone_notUp a b
  obtain ⟨-, calls, phone, -, tuners⟩ := s.withPhone_rest p
  refine ⟨fun n mn active => ?_, fun x => ?_⟩
  · have fits := noticed.fits State.callsLinkDown_frame (fun u => u.callsLinkDown_routes) n mn active
    have condition := State.condition_of_active active
    rw [phone, if_neg b] at condition
    have silent := fits.silent_of condition (.inr ⟨rfl, rfl⟩)
    unfold Route.Silent at silent ⊢
    rwa [s.withPhone_listener] at silent
  · have moves := noticed.mic (g := fun _ _ => Mic.linkDown) State.callsLinkDown_frame (fun u => u.callsLinkDown_routes)
      (fun u y => by rw [u.callsLinkDown_mics, Quad.get_map]) (fun _ => rfl) (by unfold State.NoRetune; rw [tuners]; exact still) x
    rw [calls] at moves
    exact moves.mono State.withPhone_legInCabin

/-! ## A retirement as reference change (R147) -/

theorem referenceMoved_onSlot {rs : List Route} (o : Rising rs) {r : Route} (m : r ∈ rs) (f : Route → Route)
    (c : r.zone.domain = .cabinGroup) (h : r.state.sounding ≠ (f r).state.sounding) :
    referenceMoved rs (onSlot r.slot f rs) = true := by
  unfold referenceMoved
  refine List.any_eq_true.2 ⟨(r, f r), ?_, ?_⟩
  · have zip : rs.zip (rs.map (fun x => if x.slot = r.slot then f r else x)) =
        rs.map (fun x => (x, if x.slot = r.slot then f r else x)) := by
      conv_lhs => rw [← List.map_id rs, List.map_map, List.zip_map']
      rfl
    rw [onSlot_eq o m f, zip]
    exact List.mem_map.2 ⟨r, m, by rw [if_pos rfl]⟩
  · dsimp only
    rw [Bool.and_eq_true]
    exact ⟨decide_eq_true c, by simpa using h⟩

/-- The retirement of a route that sounds in the cabin group is a reference change (R147). -/
theorem State.retireSlot_references {s : State} (o : Rising s.routes) {r : Route} (m : r ∈ s.routes)
    (c : r.zone.domain = .cabinGroup) (sounds : r.state = .rising ∨ r.state = .playing) (audible : r.applied ≠ .mute)
    (auto own : Bool) :
    (s.retireSlot auto own r.slot).calls.mics = s.calls.mics.map Mic.referenceChange ∧
      (s.calls.anyConverged = true → (s.retireSlot auto own r.slot).events.flags.getLsbD 10 = true) := by
  let t := s.putRoutes (onSlot r.slot Route.close s.routes)
  have sounding := (RouteState.sounding_iff r.state).2 sounds
  have moved : referenceMoved s.routes (onSlot r.slot Route.close s.routes) = true :=
    referenceMoved_onSlot o m Route.close c (by rw [sounding, Route.close_state]; simp [RouteState.sounding])
  have done : s.retireSlot auto own r.slot = if auto then t.markSlots (slotBit r.slot) else t := by
    unfold State.retireSlot
    rw [State.routeIn_eq o m]
    dsimp only
    rcases sounds with x | x <;> rw [x] <;> exact if_neg audible
  have mics : t.calls.mics = s.calls.mics.map Mic.referenceChange := by
    rw [s.putRoutes_mics, if_pos moved]
  have flag : s.calls.anyConverged = true → t.events.flags.getLsbD 10 = true := by
    intro any
    show (s.putRoutes _).events.flags.getLsbD 10 = true
    unfold State.putRoutes
    dsimp only
    rw [if_pos moved]
    unfold State.referenceChange State.raiseIf
    rw [if_pos any, State.raise_flags, BitVec.getLsbD_or]
    simp [EventSource.bit, EventSource.number]
  rw [done]
  cases auto with
  | false => exact ⟨mics, flag⟩
  | true =>
    exact ⟨by rw [if_pos rfl, State.markSlots_calls]; exact mics,
      fun any => flag_stands (t.markSlots_frame _).flags (flag any)⟩

/-- A reference change taken once more changes no canceller. -/
theorem State.MicsFollow.after {s t : State} (h : s.MicsFollow t) {q : Quad Mic} (k : s.calls.mics = q.map Mic.referenceChange) :
    t.calls.mics = q.map Mic.referenceChange := by
  rcases h with e | e
  · rw [e, k]
  · rw [e, k, quad_map_map]
    congr 1
    funext m
    exact m.referenceChange_twice

theorem Calls.anyConverged_of {c : Calls} {i : Fin 4} (h : (c.mics.get i).canceller = .converged) : c.anyConverged = true := by
  unfold Calls.anyConverged
  refine List.any_eq_true.2 ⟨c.mics.get i, ?_, decide_eq_true h⟩
  unfold Quad.toList
  match i with
  | 0 => simp [Quad.get]
  | 1 => simp [Quad.get]
  | 2 => simp [Quad.get]
  | 3 => simp [Quad.get]

theorem State.served_calls (s t : State) (k : Request) (c : Byte) (p reply : List Byte) :
    (s.served t k c p reply).calls = t.calls := by
  unfold State.served State.watchdogAfter
  split <;> simp

/-- An answer leaves the flags pending that were. -/
theorem State.served_flag {s t : State} (k : Request) (c : Byte) (p reply : List Byte) {i : Nat}
    (h : t.events.flags.getLsbD i = true) : (s.served t k c p reply).events.flags.getLsbD i = true := by
  have valid : t.validRequest.events.flags.getLsbD i = true := by
    unfold State.validRequest
    split
    · exact flag_stands (State.raiseIf_frame _ _ _).flags h
    · exact h
  unfold State.served State.watchdogAfter
  rw [State.answered_events]
  split
  · exact h
  · exact valid

/-- A microphone at a reference change (R147). -/
theorem Mic.referenceChange_spec (m : Mic) :
    (m.canceller = .idle → m.referenceChange = m) ∧
    (m.canceller = .converging ∨ m.canceller = .converged →
      m.referenceChange = { m with canceller := .converging, sustain := 0, divergence := 0 }) ∧
    (m.canceller = .frozen → m.referenceChange = { m with remembered := m.remembered.map (fun _ => false) }) := by
  unfold Mic.referenceChange
  refine ⟨fun h => ?_, fun h => ?_, fun h => ?_⟩
  · rw [h]
  · rcases h with h | h
    · rw [h]
    · rw [h]
  · rw [h]

/-- Settles O53: the notices in either order make of each microphone what the link's change and at most a reference change
make of it; a retirement from sounding in the cabin group makes one. -/
theorem linkAndReferenceChangesAct : Obligations.LinkAndReferenceChangesAct := by
  refine ⟨fun s t i still _ event e => ?_, fun s c p r acc o len low high named may cabin sounds audible => ?_⟩
  · intro moved
    rcases exec_takesPhone s t i event e with same | ⟨p, routes, calls, phone⟩
    · exact ⟨fun a b => absurd (by rw [← same]; exact b) a, fun a b => absurd (by rw [same]; exact a) b⟩
    · have legIs : ∀ n st, t.legIs n st = (s.withPhone p).legIs n st := fun n st => by
        have legs : t.calls.legs = s.calls.legs := by
          rw [calls, (s.setPhone_frame p).frame.rest]
        rw [s.withPhone_legIs]
        unfold State.legIs State.legOf State.leg
        rw [legs]
      refine ⟨fun a b => ?_, fun a b => ?_⟩
      · rw [phone] at b
        obtain ⟨heard, moves⟩ := State.setPhone_enters still a b
        rw [routes, calls, phone]
        refine ⟨fun n mn active => heard n mn (by rw [← legIs]; exact active), fun x => ?_⟩
        exact Mic.linkUp_moves (moves x)
      · rw [phone] at b
        obtain ⟨silent, moves⟩ := State.setPhone_leaves still a b
        rw [routes, calls]
        exact ⟨fun n mn active => silent n mn (by rw [← legIs]; exact active), fun x => Mic.linkDown_moves (moves x)⟩
  · obtain ⟨-, -, found⟩ := exec_routeRetire s c p acc
    obtain ⟨m, -⟩ := State.routeOf_mem named
    obtain ⟨mics, flag⟩ := State.retireSlot_references o m cabin sounds audible false true
    let u := s.retireSlot false true r.slot
    have run : (s.retireSlots false true [r.slot]).arbitrate =
        (u.rerunAll (domainsOf (fun r' => r'.slot ∈ [r.slot] && r'.state ≠ .closing) s.routes)).arbitrate := rfl
    have follow : u.MicsFollow (s.retireSlots false true [r.slot]).arbitrate := by
      rw [run]
      exact (u.rerunAll_follow _).trans (State.arbitrate_follow _)
    have frame : TunerFrame u (s.retireSlots false true [r.slot]).arbitrate := by
      rw [run]
      exact (TunerFrame.ofRoute (u.rerunAll_frame _)).trans (State.arbitrate_frame _)
    refine ⟨_, (found r ⟨len, low, high⟩ named).2 may, fun x => ?_⟩
    have after : (s.served (s.retireSlots false true [r.slot]).arbitrate .routeRetire c p
        (if r.state = .pending ∨ r.state = .suspended then [0#8] else [1#8])).calls.mics.get (seatIndex x) =
        (s.calls.mics.get (seatIndex x)).referenceChange := by
      rw [State.served_calls, follow.after mics, Quad.get_map]
    obtain ⟨idle, runs, frozen⟩ := (s.calls.mics.get (seatIndex x)).referenceChange_spec
    refine ⟨fun h => after.trans (idle h), fun h => after.trans (runs h), fun h => after.trans (frozen h), fun h => ?_⟩
    exact State.served_flag _ _ _ _ (flag_stands frame.flags (flag (Calls.anyConverged_of h)))

end Sys2Proof.Machine
end

-- ==== support and settled obligations, part 28 ====
section
/-! SUPPORT. After a precedence re-run a route is YIELDING or SUSPENDED exactly where it is outranked. -/

namespace Sys2Proof.Machine

/-! ## What precedence is read from (R25 to R27) -/

/-- A change of a route that leaves what makes it a candidate and how it ranks. -/
structure Route.Weighs (r n : Route) : Prop where
  zone : n.zone = r.zone
  cls : n.cls = r.cls
  rank : n.rank = r.rank
  source : n.source = r.source
  closing : n.state = .closing ↔ r.state = .closing

theorem Route.Weighs.refl (r : Route) : r.Weighs r := ⟨rfl, rfl, rfl, rfl, Iff.rfl⟩

theorem Route.Weighs.ofKeeps {r n : Route} (h : r.Keeps n) (k : n.state = .closing ↔ r.state = .closing) : r.Weighs n :=
  ⟨h.zone, h.cls, h.rank, h.source, k⟩

/-- One that leaves, in the classes told, whether the route counts too. -/
def Route.Steady (told : Domain → RouteClass → Prop) (r n : Route) : Prop :=
  r.Weighs n ∧ (told r.zone.domain r.cls → n.state.counts = r.state.counts)

theorem forall₂_all {R : Route → Route → Prop} {p q : Route → Bool} {rs ns : List Route} (f : List.Forall₂ R rs ns)
    (h : ∀ r n, R r n → q n = p r) : ns.all q = rs.all p := by
  induction f with
  | nil => rfl
  | cons e _ ih => rw [List.all_cons, List.all_cons, h _ _ e, ih]

theorem forall₂_any {R : Route → Route → Prop} {p q : Route → Bool} {rs ns : List Route} (f : List.Forall₂ R rs ns)
    (h : ∀ r n, R r n → q n = p r) : ns.any q = rs.any p := by
  induction f with
  | nil => rfl
  | cons e _ ih => rw [List.any_cons, List.any_cons, h _ _ e, ih]

theorem State.legIs_weighs (s : State) {r n : Route} (h : r.Weighs n) (st : LegState) : s.legIs n st = s.legIs r st :=
  Route.Unrung.legIs_of_source h.source st

theorem State.winner_congr (s : State) {rs ns : List Route} (f : List.Forall₂ Route.Weighs rs ns) {r n : Route}
    (h : r.Weighs n) : s.winner ns n = s.winner rs r := by
  have picked : ∀ x y : Route, x.Weighs y →
      (y.zone.domain = n.zone.domain && y.cls = n.cls && y.state ≠ .closing) =
        (x.zone.domain = r.zone.domain && x.cls = r.cls && x.state ≠ .closing) := fun x y k => by
    rw [k.zone, k.cls, h.zone, h.cls]
    by_cases c : x.state = .closing
    · simp [c, k.closing.2 c]
    · have c' : y.state ≠ .closing := fun e => c (k.closing.1 e)
      simp [c, c']
  unfold State.winner newestOf candidates
  dsimp only
  simp only [List.all_filter, List.any_filter]
  have any := forall₂_any (p := fun x => x.zone.domain = r.zone.domain && x.cls = r.cls && x.state ≠ .closing && s.legIs x .active)
    (q := fun x => x.zone.domain = n.zone.domain && x.cls = n.cls && x.state ≠ .closing && s.legIs x .active) f
    (fun x y k => by rw [picked x y k, s.legIs_weighs k])
  have all := forall₂_all
    (p := fun x => !(x.zone.domain = r.zone.domain && x.cls = r.cls && x.state ≠ .closing) || decide (x.rank ≤ r.rank))
    (q := fun x => !(x.zone.domain = n.zone.domain && x.cls = n.cls && x.state ≠ .closing) || decide (x.rank ≤ n.rank)) f
    (fun x y k => by rw [picked x y k, k.rank, h.rank])
  have allActive := forall₂_all
    (p := fun x => !(x.zone.domain = r.zone.domain && x.cls = r.cls && x.state ≠ .closing) ||
      (!s.legIs x .active || decide (x.rank ≤ r.rank)))
    (q := fun x => !(x.zone.domain = n.zone.domain && x.cls = n.cls && x.state ≠ .closing) ||
      (!s.legIs x .active || decide (x.rank ≤ n.rank))) f
    (fun x y k => by rw [picked x y k, k.rank, h.rank, s.legIs_weighs k])
  rw [any, all, allActive, h.cls, s.legIs_weighs h]

theorem anyCounts_congr {told : Domain → RouteClass → Prop} {rs ns : List Route} (f : List.Forall₂ (Route.Steady told) rs ns)
    {d : Domain} {k : RouteClass} (h : told d k) : anyCounts d k ns = anyCounts d k rs := by
  refine forall₂_any f (fun r n ⟨w, counts⟩ => ?_)
  rw [w.zone, w.cls]
  by_cases here : r.zone.domain = d ∧ r.cls = k
  · obtain ⟨hd, hk⟩ := here
    rw [counts (by rw [hd, hk]; exact h)]
  · have out : (r.zone.domain = d && r.cls = k) = false := by simpa using here
    rw [out, Bool.false_and, Bool.false_and]

/-- The classes whose counting routes outrank a class (R26). -/
def RouteClass.above (k : RouteClass) : List RouteClass :=
  match k with
  | .announcement => [.call]
  | .media => [.call, .announcement]
  | _ => []

/-- What outranks a route is read of the winners of its class and of the classes above it. -/
theorem State.outranked_congr (s : State) {told : Domain → RouteClass → Prop} {rs ns : List Route}
    (f : List.Forall₂ (Route.Steady told) rs ns) {r n : Route} (h : r.Weighs n)
    (above : ∀ k ∈ r.cls.above, told r.zone.domain k) : s.outranked ns n = s.outranked rs r := by
  have winner := s.winner_congr (f.imp (fun _ _ k => k.1)) h
  unfold State.outranked
  rw [winner, h.cls, h.zone]
  cases cls : r.cls with
  | alert => rfl
  | prompt => rfl
  | call => rfl
  | announcement =>
    have call := anyCounts_congr f (above .call (by simp [RouteClass.above, cls]))
    dsimp only
    rw [call]
  | media =>
    have call := anyCounts_congr f (above .call (by simp [RouteClass.above, cls]))
    have announcement := anyCounts_congr f (above .announcement (by simp [RouteClass.above, cls]))
    dsimp only
    rw [call, announcement]

/-! ## One class judged, then another -/

theorem State.judged_closing (s : State) (rs : List Route) (r : Route) :
    (s.judged rs r).state = .closing ↔ r.state = .closing := by
  unfold State.judged
  split
  · rfl
  · rename_i open'
    have left : ∀ n : Route, n.state ≠ .closing → (n.state = .closing ↔ r.state = .closing) :=
      fun n h => ⟨fun e => absurd e h, fun e => absurd e open'⟩
    refine left _ ?_
    split
    · split
      · simp
      · rcases r.yieldUp_state with e | e <;> simp [e]
      · rcases r.yieldUp_state with e | e <;> simp [e]
      · exact open'
    · split
      · rcases s.enterRising_state r with e | e <;> simp [e]
      · split
        · rcases s.enterRising_state r with e | e <;> simp [e]
        · simp
      · exact open'

/-- A route judged is YIELDING or SUSPENDED exactly where it is outranked (R11, R12). -/
theorem State.judged_placed (s : State) (rs : List Route) (r : Route) (open' : r.state ≠ .closing) :
    ((s.judged rs r).state = .yielding ∨ (s.judged rs r).state = .suspended) ↔ s.outranked rs r = true := by
  unfold State.judged
  rw [if_neg open']
  cases out : s.outranked rs r with
  | true =>
    rw [if_pos rfl]
    refine ⟨fun _ => rfl, fun _ => ?_⟩
    split
    · exact .inr rfl
    · exact r.yieldUp_state
    · exact r.yieldUp_state
    · rename_i np nr npl
      cases x : r.state <;> simp_all
  | false =>
    rw [if_neg (by simp)]
    refine ⟨fun h => ?_, fun h => by cases h⟩
    exfalso
    split at h
    · rcases s.enterRising_state r with e | e <;> simp [e] at h
    · split at h
      · rcases s.enterRising_state r with e | e <;> simp [e] at h
      · simp at h
    · rename_i ny ns
      exact h.elim ny ns

/-- The routes of the classes told are YIELDING or SUSPENDED exactly where they are outranked. -/
def State.Placed (s : State) (told : Domain → RouteClass → Prop) (rs : List Route) : Prop :=
  ∀ r ∈ rs, told r.zone.domain r.cls → r.state ≠ .closing →
    ((r.state = .yielding ∨ r.state = .suspended) ↔ s.outranked rs r = true)

section
variable {s : State} {told : Domain → RouteClass → Prop} {rs : List Route}

/-- A class judged is placed, and so stay the classes it does not outrank. -/
theorem State.Placed.judgeClass (h : s.Placed told rs) (d : Domain) (k : RouteClass) (self : k ∉ k.above)
    (apart : ∀ c, told d c → k ∉ c.above) :
    s.Placed (fun e c => told e c ∨ (e = d ∧ c = k)) (s.judgeClass d k rs) := by
  have f : List.Forall₂ (Route.Steady (fun e c => ¬(e = d ∧ c = k))) rs (s.judgeClass d k rs) :=
    forall₂_map_of _ _ (fun r _ => by
      split
      · rename_i here
        simp only [Bool.and_eq_true, decide_eq_true_eq] at here
        exact ⟨.ofKeeps (s.judged_keeps rs r) (s.judged_closing rs r), fun out => absurd here out⟩
      · exact ⟨.refl r, fun _ => rfl⟩)
  intro n mn toldN open'
  obtain ⟨r, mr, e⟩ := List.mem_map.1 mn
  by_cases here : r.zone.domain = d ∧ r.cls = k
  · rw [if_pos (by simpa using here)] at e
    subst e
    have openR : r.state ≠ .closing := fun c => open' ((s.judged_closing rs r).2 c)
    rw [s.judged_placed rs r openR,
      s.outranked_congr f (.ofKeeps (s.judged_keeps rs r) (s.judged_closing rs r)) (fun c m => ?_)]
    rintro ⟨-, rfl⟩
    rw [here.2] at m
    exact self m
  · rw [if_neg (by simpa using here)] at e
    subst e
    have was := toldN.resolve_right here
    rw [h r mr was open', s.outranked_congr f (.refl r) (fun c m => ?_)]
    rintro ⟨rd, rfl⟩
    exact apart r.cls (by rw [← rd]; exact was) m

theorem State.withDuck_closing_iff (s : State) (d : Nat) (r : Route) :
    (s.withDuck d r).state = .closing ↔ r.state = .closing := by
  rcases s.withDuck_cases d r with e | ⟨a, b, -⟩
  · rw [e]
  · constructor
    · intro h
      simp [h, RouteState.sounding] at b
    · intro h
      simp [h, RouteState.sounding] at a

/-- Duck attenuations change no route's place. -/
theorem State.Placed.duckPass (h : s.Placed told rs) (d : Domain) : s.Placed told (s.duckPass d rs) := by
  have f : List.Forall₂ (fun r n : Route => Route.Steady (fun _ _ => True) r n ∧
      ((n.state = .yielding ∨ n.state = .suspended) ↔ (r.state = .yielding ∨ r.state = .suspended))) rs (s.duckPass d rs) :=
    forall₂_map_of _ _ (fun r _ => by
      split
      · refine ⟨⟨.ofKeeps (s.withDuck_keeps _ r) (s.withDuck_closing_iff _ r), fun _ => s.withDuck_counts _ r⟩, ?_⟩
        rcases s.withDuck_cases (s.duckOf rs r) r with e | ⟨a, b, -⟩
        · rw [e]
        · rw [RouteState.sounding_iff] at a b
          rcases a with a | a <;> rcases b with b | b <;> simp [a, b]
      · exact ⟨⟨.refl r, fun _ => rfl⟩, Iff.rfl⟩)
  intro n mn toldN open'
  obtain ⟨r, mr, ⟨w, -⟩, place⟩ := forall₂_right f n mn
  rw [place, h r mr (by rw [← w.zone, ← w.cls]; exact toldN) (fun c => open' (w.closing.2 c)),
    s.outranked_congr (f.imp (fun _ _ k => k.1)) w (fun _ _ => trivial)]

theorem State.Placed.mono {less : Domain → RouteClass → Prop} (h : s.Placed told rs) (k : ∀ e c, less e c → told e c) :
    s.Placed less rs := fun r m t open' => h r m (k _ _ t) open'

/-- A re-run places all routes of its domain, and leaves those of the others in place. -/
theorem State.Placed.rerunRoutes (h : s.Placed told rs) (d : Domain) (fresh : ∀ c, ¬told d c) :
    s.Placed (fun e c => told e c ∨ e = d) (s.rerunRoutes d rs) := by
  have alert := h.judgeClass d .alert (by decide) (fun c t => absurd t (fresh c))
  have call := alert.judgeClass d .call (by decide) (by
    rintro c (t | ⟨-, rfl⟩)
    · exact absurd t (fresh c)
    · decide)
  have prompt := call.judgeClass d .prompt (by decide) (by
    rintro c ((t | ⟨-, rfl⟩) | ⟨-, rfl⟩)
    · exact absurd t (fresh c)
    · decide
    · decide)
  have announcement := prompt.judgeClass d .announcement (by decide) (by
    rintro c (((t | ⟨-, rfl⟩) | ⟨-, rfl⟩) | ⟨-, rfl⟩)
    · exact absurd t (fresh c)
    · decide
    · decide
    · decide)
  have media := announcement.judgeClass d .media (by decide) (by
    rintro c ((((t | ⟨-, rfl⟩) | ⟨-, rfl⟩) | ⟨-, rfl⟩) | ⟨-, rfl⟩)
    · exact absurd t (fresh c)
    · decide
    · decide
    · decide
    · decide)
  refine (media.duckPass d).mono (fun e c t => ?_)
  rcases t with t | rfl
  · exact .inl (.inl (.inl (.inl (.inl t))))
  · cases c <;> simp

end

/-- States in which the same routes are outranked. -/
theorem State.outranked_same {s t : State} (sup : t.sup.state = s.sup.state) (legs : t.calls.legs = s.calls.legs)
    (rs : List Route) (r : Route) : t.outranked rs r = s.outranked rs r := by
  have legIs : ∀ (r : Route) (st : LegState), t.legIs r st = s.legIs r st := fun r st => by
    unfold State.legIs State.legOf State.leg
    rw [legs]
  unfold State.outranked State.winner
  simp only [sup, legIs]

theorem State.Placed.same {s t : State} {told : Domain → RouteClass → Prop} {rs : List Route} (h : s.Placed told rs)
    (sup : t.sup.state = s.sup.state) (legs : t.calls.legs = s.calls.legs) : t.Placed told rs := by
  intro r m k open'
  rw [State.outranked_same sup legs]
  exact h r m k open'

theorem State.Placed.rerun {s : State} {told : Domain → RouteClass → Prop} (h : s.Placed told s.routes) (d : Domain)
    (fresh : ∀ c, ¬told d c) : (s.rerun d).Placed (fun e c => told e c ∨ e = d) (s.rerun d).routes := by
  have frame := s.rerun_frame d
  rw [s.rerun_routes]
  exact (h.rerunRoutes d fresh).same (by rw [frame.rest]) (by rw [frame.rest])

/-- Precedence judged anew in all domains: a route that is not CLOSING is YIELDING or SUSPENDED exactly where it is outranked
(R12, R25). -/
theorem State.rerunAll_placed (s : State) : (s.rerunAll [.cabinGroup, .hp1, .hp2]).Placed (fun _ _ => True)
    (s.rerunAll [.cabinGroup, .hp1, .hp2]).routes := by
  have none : s.Placed (fun _ _ => False) s.routes := fun _ _ t => t.elim
  have all := ((none.rerun .cabinGroup (by simp)).rerun .hp1 (by simp)).rerun .hp2 (by simp)
  rw [s.rerunAll_all]
  exact all.mono (fun e _ _ => by cases e <;> simp)

end Sys2Proof.Machine
end

-- ==== support and settled obligations, part 29 ====
section
/-! SUPPORT. What a tuner taken for a program is, and what the others keep (R65, R69, R84, R91). -/

namespace Sys2Proof.Machine

variable {s : State}

/-! ## The in-use set (R91) -/

/-- The code a frequency's record carries, none without a record. -/
def Stations.codeAt (t : Stations) (f : Nat) : Option Nat := (t.find f).bind Station.code

theorem Stations.codeAt_of_some {t : Stations} {f : Nat} {r : Station} (h : t.find f = some r) : t.codeAt f = r.code := by
  unfold Stations.codeAt
  rw [h]
  rfl

theorem Stations.codeAt_of_none {t : Stations} {f : Nat} (h : t.find f = none) : t.codeAt f = none := by
  unfold Stations.codeAt
  rw [h]
  rfl

theorem Stations.codeAt_records {t u : Stations} (h : u.records = t.records) (f : Nat) : u.codeAt f = t.codeAt f := by
  unfold Stations.codeAt Stations.find
  rw [h]

theorem find_insertRecord (r : Station) (rs : List Station) (h : rs.find? (fun x => x.frequency = r.frequency) = none) :
    (insertRecord r rs).find? (fun x => x.frequency = r.frequency) = some r := by
  induction rs with
  | nil => simp [insertRecord]
  | cons x xs ih =>
    rw [List.find?_cons] at h
    split at h
    · cases h
    · rename_i no
      unfold insertRecord
      split
      · simp
      · rw [List.find?_cons, no, ih h]

theorem find_dropRecord_none {f v : Nat} {rs : List Station} (h : rs.find? (fun x => x.frequency = f) = none) :
    (dropRecord v rs).find? (fun x => x.frequency = f) = none := by
  rw [List.find?_eq_none] at h ⊢
  exact fun x m => h x (List.mem_of_mem_filter m)

/-- A record made to exist carries the code that was found, if any: a new one has none (R88, R90). -/
theorem State.ensureStation_codeAt (f : Nat) : (s.ensureStation f).stations.codeAt f = s.stations.codeAt f := by
  unfold State.ensureStation
  split
  · rfl
  · rename_i absent
    rw [Stations.codeAt_of_none absent]
    have placed : ∀ rs : List Station, rs.find? (fun x => x.frequency = f) = none →
        ∀ t : Stations, t.records = insertRecord (Station.new f) rs → t.codeAt f = none := fun rs h t e => by
      have found : t.find f = some (Station.new f) := by
        unfold Stations.find
        rw [e]
        exact find_insertRecord (Station.new f) rs h
      rw [Stations.codeAt_of_some found]
      rfl
    unfold State.insertStation
    split
    · rename_i rs inserted
      unfold Stations.inserted at inserted
      split at inserted
      · cases inserted
        exact placed _ absent _ rfl
      · split at inserted
        · cases inserted
          exact placed _ (find_dropRecord_none absent) _ rfl
        · cases inserted
    · unfold State.reportFull
      split
      · split
        · exact Stations.codeAt_of_none absent
        · exact Stations.codeAt_of_none absent
      · exact Stations.codeAt_of_none absent

/-- Stations but for the records and the in-use set with its STATION_TABLE_FULL marks. -/
structure Stations.Beside (t u : Stations) : Prop where
  watch : u.watch = t.watch
  returned : u.returned = t.returned
  reserved : ∀ x, u.reserved x = t.reserved x

theorem Stations.Beside.refl (t : Stations) : t.Beside t := ⟨rfl, rfl, fun _ => rfl⟩

theorem Stations.Beside.trans {t u v : Stations} (h : t.Beside u) (k : u.Beside v) : t.Beside v :=
  ⟨k.watch.trans h.watch, k.returned.trans h.returned, fun x => (k.reserved x).trans (h.reserved x)⟩

theorem State.ensureStation_beside (f : Nat) : s.stations.Beside (s.ensureStation f).stations ∧
    (s.ensureStation f).stations.inUse = s.stations.inUse ∧ (s.ensureStation f).tuners = s.tuners := by
  have same : ∀ t : Stations, t.watch = s.stations.watch → t.returned = s.stations.returned →
      t.reserved1 = s.stations.reserved1 → t.reserved2 = s.stations.reserved2 → s.stations.Beside t :=
    fun t a b c d => ⟨a, b, fun x => by cases x <;> assumption⟩
  unfold State.ensureStation
  split
  · exact ⟨.refl _, rfl, rfl⟩
  · unfold State.insertStation
    split
    · exact ⟨same _ rfl rfl rfl rfl, rfl, rfl⟩
    · unfold State.reportFull
      split
      · split
        · exact ⟨.refl _, rfl, rfl⟩
        · exact ⟨same _ rfl rfl rfl rfl, rfl, rfl⟩
      · exact ⟨.refl _, rfl, rfl⟩

theorem State.joinInUse_tuners (f : Nat) : (s.joinInUse f).tuners = s.tuners := State.ensureStation_beside f |>.2.2

theorem State.joinInUse_beside (f : Nat) : s.stations.Beside (s.joinInUse f).stations := by
  let t : State := { s with stations.inUse := f :: s.stations.inUse.filter (· ≠ f) }
  have joined : s.stations.Beside t.stations := ⟨rfl, rfl, fun x => by cases x <;> rfl⟩
  exact joined.trans (State.ensureStation_beside (s := t) f).1

theorem State.joinInUse_inUse (f : Nat) : (s.joinInUse f).stations.inUse = f :: s.stations.inUse.filter (· ≠ f) :=
  (State.ensureStation_beside f).2.1

theorem State.joinInUse_codeAt (f : Nat) : (s.joinInUse f).stations.codeAt f = s.stations.codeAt f :=
  (State.ensureStation_codeAt f).trans (Stations.codeAt_records rfl f)

theorem State.leaveInUse_beside (f : Nat) : s.stations.Beside (s.leaveInUse f).stations :=
  ⟨rfl, rfl, fun x => by cases x <;> rfl⟩

/-! ## What is given up (R72, R74, R76, R84) -/

theorem State.tuner_setTuner_ne {x y : TunerId} (h : y ≠ x) (t : Tuner) : (s.setTuner x t).tuner y = s.tuner y := by
  cases x <;> cases y
  · exact absurd rfl h
  · rfl
  · rfl
  · exact absurd rfl h

theorem State.setTuner_shared (x : TunerId) (t : Tuner) :
    (s.setTuner x t).tuners.watch = s.tuners.watch ∧ (s.setTuner x t).tuners.link = s.tuners.link ∧
      (s.setTuner x t).tuners.interval = s.tuners.interval := by
  cases x <;> exact ⟨rfl, rfl, rfl⟩

/-- Records, watch and frequencies as they were, whatever work was given up. -/
structure State.Yields (s t : State) : Prop where
  watch : t.tuners.watch = s.tuners.watch
  told : t.stations.watch = s.stations.watch
  records : t.stations.records = s.stations.records
  inUse : t.stations.inUse = s.stations.inUse
  tuners : ∀ y, (t.tuner y).frequency = (s.tuner y).frequency ∧ (t.tuner y).watch = (s.tuner y).watch ∧
    (t.tuner y).streak = (s.tuner y).streak

theorem State.Yields.refl (s : State) : s.Yields s := ⟨rfl, rfl, rfl, rfl, fun _ => ⟨rfl, rfl, rfl⟩⟩

theorem State.Yields.trans {s t u : State} (h : s.Yields t) (k : t.Yields u) : s.Yields u where
  watch := k.watch.trans h.watch
  told := k.told.trans h.told
  records := k.records.trans h.records
  inUse := k.inUse.trans h.inUse
  tuners := fun y => by
    obtain ⟨a, b, c⟩ := h.tuners y
    obtain ⟨d, e, f⟩ := k.tuners y
    exact ⟨d.trans a, e.trans b, f.trans c⟩

theorem State.setTuner_yields {x : TunerId} {t : Tuner} (h : t.frequency = (s.tuner x).frequency)
    (k : t.watch = (s.tuner x).watch) (l : t.streak = (s.tuner x).streak) : s.Yields (s.setTuner x t) where
  watch := (State.setTuner_shared x t).1
  told := by simp
  records := by simp
  inUse := by simp
  tuners := fun y => by
    by_cases e : y = x
    · subst e
      rw [State.tuner_setTuner_same]
      exact ⟨h, k, l⟩
    · rw [State.tuner_setTuner_ne e]
      exact ⟨rfl, rfl, rfl⟩

theorem Stations.giveBack_records (t : Stations) (x : TunerId) :
    (t.giveBack x).records = t.records ∧ (t.giveBack x).watch = t.watch ∧ (t.giveBack x).inUse = t.inUse := by
  unfold Stations.giveBack
  split
  · cases x <;> exact ⟨rfl, rfl, rfl⟩
  · exact ⟨rfl, rfl, rfl⟩

theorem mem_insertOrdered (f : Nat) (fs : List Nat) : f ∈ insertOrdered f fs := by
  induction fs with
  | nil => simp [insertOrdered]
  | cons x xs ih =>
    unfold insertOrdered
    split
    · exact List.mem_cons_self
    · exact List.mem_cons_of_mem _ ih

/-- A reservation given back is free, and its frequency is in the return list (R97). -/
theorem Stations.giveBack_spec (t : Stations) (x : TunerId) :
    (t.giveBack x).reserved x = none ∧ ∀ g, t.reserved x = some g → g ∈ (t.giveBack x).returned := by
  unfold Stations.giveBack
  split
  · rename_i f held
    refine ⟨by cases x <;> rfl, fun g e => ?_⟩
    rw [held] at e
    cases e
    cases x <;> exact mem_insertOrdered _ _
  · rename_i free
    exact ⟨free, fun g e => by rw [free] at e; cases e⟩

theorem State.cancelScan_yields (x : TunerId) : s.Yields (s.cancelScan x) := by
  unfold State.cancelScan
  split
  · obtain ⟨records, watch, inUse⟩ := s.stations.giveBack_records x
    have given : s.Yields { s with stations := s.stations.giveBack x } :=
      ⟨rfl, watch, records, inUse, fun y => by cases y <;> exact ⟨rfl, rfl, rfl⟩⟩
    refine given.trans (State.setTuner_yields ?_ ?_ ?_) <;> cases x <;> rfl
  · exact .refl s

theorem State.cancelCheck_yields (x : TunerId) : s.Yields (s.cancelCheck x) := by
  unfold State.cancelCheck
  split
  · exact State.setTuner_yields rfl rfl rfl
  · exact .refl s

theorem State.abortSearchBy_yields (x : TunerId) : s.Yields (s.abortSearchBy x) := by
  unfold State.abortSearchBy
  dsimp only
  split
  · split
    · exact State.setTuner_yields rfl rfl rfl
    · exact .refl s
  · exact .refl s

/-- A partner given up keeps its frequency, its watch and its streak. -/
theorem Tuner.unpartnered_keeps (t : Tuner) : t.unpartnered.frequency = t.frequency ∧ t.unpartnered.watch = t.watch ∧
    t.unpartnered.streak = t.streak := by
  unfold Tuner.unpartnered
  split <;> exact ⟨rfl, rfl, rfl⟩

theorem State.unpair_tuner (y : TunerId) : s.unpair.tuner y = (s.tuner y).unpartnered := by cases y <;> rfl

theorem State.unpair_yields : s.Yields s.unpair :=
  ⟨rfl, rfl, rfl, rfl, fun y => by
    rw [State.unpair_tuner]
    exact (s.tuner y).unpartnered_keeps⟩

theorem State.cancelCheck_stations (x : TunerId) : (s.cancelCheck x).stations = s.stations := by
  unfold State.cancelCheck
  split
  · simp
  · rfl

theorem State.abortSearchBy_stations (x : TunerId) : (s.abortSearchBy x).stations = s.stations := by
  unfold State.abortSearchBy
  dsimp only
  split
  · split
    · simp
    · rfl
  · rfl

theorem State.cancelScan_other (x : TunerId) : (s.cancelScan x).tuner (otherTuner x) = s.tuner (otherTuner x) := by
  unfold State.cancelScan
  split
  · rw [State.tuner_setTuner_other]
    cases x <;> rfl
  · rfl

theorem State.cancelCheck_other (x : TunerId) : (s.cancelCheck x).tuner (otherTuner x) = s.tuner (otherTuner x) := by
  unfold State.cancelCheck
  split
  · rw [State.tuner_setTuner_other]
  · rfl

/-- A partner search through a tuner that is taken ends (R84). -/
theorem State.abortSearchBy_search (x : TunerId) {q : Search} (h : (s.tuner (otherTuner x)).search = some q)
    (k : q.partner = true) : ((s.abortSearchBy x).tuner (otherTuner x)).search = none ∧
      ((s.abortSearchBy x).tuner (otherTuner x)).af = .idle := by
  unfold State.abortSearchBy
  dsimp only
  rw [h]
  dsimp only
  rw [if_pos k, State.tuner_setTuner_same]
  exact ⟨rfl, rfl⟩

theorem State.abortSearchBy_other_free {x : TunerId} (h : s.tuner (otherTuner x) = .free) :
    (s.abortSearchBy x).tuner (otherTuner x) = .free := by
  unfold State.abortSearchBy
  rw [h]
  exact h

/-- A tuner as it was, or with its partner search ended (R84). -/
def Tuner.Ends (t u : Tuner) : Prop := u = t ∨ (t.search ≠ none ∧ u = { t with search := none, af := .idle })

theorem Tuner.Ends.role {t u : Tuner} (h : t.Ends u) : u.role = t.role := by
  rcases h with rfl | ⟨-, rfl⟩ <;> rfl

theorem State.abortSearchBy_ends (x : TunerId) :
    (s.tuner (otherTuner x)).Ends ((s.abortSearchBy x).tuner (otherTuner x)) := by
  unfold State.abortSearchBy
  dsimp only
  split
  · rename_i q e
    split
    · rw [State.tuner_setTuner_same]
      exact .inr ⟨by rw [e]; simp, rfl⟩
    · exact .inl rfl
  · exact .inl rfl

/-! ## A tuner taken (R65, R69) -/

/-- What a tuner taken for a frequency is, and what of the rest stands. -/
structure State.Takes (s u : State) (x : TunerId) (f users : Nat) (watch : Bool) : Prop where
  tuner : u.tuner x = { Tuner.free with
    role := .program, frequency := some f, code := s.stations.codeAt f, users := users, watch := watch, activity := .retune }
  inUse : f ∈ u.stations.inUse
  link : u.tuners.link = .none
  watch : u.tuners.watch = s.tuners.watch
  told : u.stations.watch = s.stations.watch
  other : (u.tuner (otherTuner x)).frequency = (s.tuner (otherTuner x)).frequency ∧
    (u.tuner (otherTuner x)).watch = (s.tuner (otherTuner x)).watch ∧
    (u.tuner (otherTuner x)).streak = (s.tuner (otherTuner x)).streak
  scan : (s.tuner x).activity = .scanStep → u.stations.reserved x = none ∧
    ∀ g, s.stations.reserved x = some g → g ∈ u.stations.returned
  search : ∀ q, (s.tuner (otherTuner x)).search = some q → q.partner = true →
    (u.tuner (otherTuner x)).search = none ∧ (u.tuner (otherTuner x)).af = .idle
  free : s.tuner (otherTuner x) = .free → u.tuner (otherTuner x) = .free
  program : (s.tuner (otherTuner x)).role = .program → (s.tuner (otherTuner x)).Ends (u.tuner (otherTuner x))

theorem State.takeTuner_takes (s : State) (x : TunerId) (f users : Nat) (watch : Bool) :
    s.Takes (s.takeTuner x f users watch) x f users watch := by
  unfold State.takeTuner
  extract_lets s1 s2 s3 s4 code
  have y1 : s.Yields s1 :=
    (State.cancelScan_yields x).trans ((State.cancelCheck_yields x).trans (State.abortSearchBy_yields x))
  have stations1 : s1.stations = (s.cancelScan x).stations := by
    rw [show s1.stations = _ from State.abortSearchBy_stations x, State.cancelCheck_stations]
  have unpaired : s1.Yields s2 ∧ s2.stations = s1.stations ∧ s2.tuners.link = .none ∧
      ((s2.tuner (otherTuner x)).search = (s1.tuner (otherTuner x)).search ∧
        (s2.tuner (otherTuner x)).af = (s1.tuner (otherTuner x)).af) ∧
      (s1.tuner (otherTuner x) = .free → s2.tuner (otherTuner x) = .free) ∧
      ((s1.tuner (otherTuner x)).role = .program → s2.tuner (otherTuner x) = s1.tuner (otherTuner x)) := by
    by_cases link : s1.tuners.link = .none
    · rw [show s2 = s1 from if_pos link]
      exact ⟨.refl _, rfl, link, ⟨rfl, rfl⟩, id, fun _ => rfl⟩
    · rw [show s2 = s1.unpair from if_neg link]
      refine ⟨State.unpair_yields, rfl, rfl, ?_, fun e => by rw [State.unpair_tuner, e]; rfl, fun e => ?_⟩
      · rw [State.unpair_tuner]
        unfold Tuner.unpartnered
        split <;> exact ⟨rfl, rfl⟩
      · rw [State.unpair_tuner]
        unfold Tuner.unpartnered
        rw [e]
        rfl
  obtain ⟨y2, stations2, link2, ⟨search2, af2⟩, free2, program2⟩ := unpaired
  have left : s3.tuners = s2.tuners ∧ s2.stations.Beside s3.stations ∧ s3.stations.records = s2.stations.records := by
    unfold s3
    cases (s2.tuner x).frequency with
    | none => exact ⟨rfl, .refl _, rfl⟩
    | some old => exact ⟨rfl, State.leaveInUse_beside old, rfl⟩
  obtain ⟨tuners3, beside3, records3⟩ := left
  have tuners4 : s4.tuners = s2.tuners := (State.joinInUse_tuners f).trans tuners3
  have beside4 : s1.stations.Beside s4.stations := by
    rw [← stations2]
    exact beside3.trans (State.joinInUse_beside f)
  have y := y1.trans y2
  have coded : code = s.stations.codeAt f := by
    have eq : code = s4.stations.codeAt f := by
      unfold code Stations.codeAt
      cases s4.stations.find f <;> rfl
    rw [eq, show s4.stations.codeAt f = s3.stations.codeAt f from State.joinInUse_codeAt f]
    exact Stations.codeAt_records (records3.trans y.records) f
  have tuner4 : ∀ z, s4.tuner z = s2.tuner z := fun z => by
    unfold State.tuner
    rw [tuners4]
  obtain ⟨watchSame, linkSame, -⟩ := State.setTuner_shared (s := s4) x
    { Tuner.free with
      role := .program, frequency := some f, code := code, users := users, watch := watch, activity := .retune }
  refine ⟨by rw [State.tuner_setTuner_same, coded], ?_, ?_, ?_, ?_, ?_, fun scanning => ?_, fun q e k => ?_,
    fun e => ?_, fun e => ?_⟩
  · rw [State.setTuner_stations, show s4.stations.inUse = _ from State.joinInUse_inUse f]
    exact List.mem_cons_self
  · rw [linkSame, tuners4, link2]
  · rw [watchSame, tuners4, y.watch]
  · rw [State.setTuner_stations, beside4.watch, y1.told]
  · rw [State.tuner_setTuner_other, tuner4]
    exact y.tuners _
  · obtain ⟨free, back⟩ := s.stations.giveBack_spec x
    have cancelled : (s.cancelScan x).stations = s.stations.giveBack x := by
      unfold State.cancelScan
      rw [if_pos scanning, State.setTuner_stations]
    rw [State.setTuner_stations, beside4.reserved, beside4.returned, stations1, cancelled]
    exact ⟨free, back⟩
  · rw [State.tuner_setTuner_other, tuner4, search2, af2]
    refine State.abortSearchBy_search x (q := q) ?_ k
    rw [State.cancelCheck_other, State.cancelScan_other, e]
  · rw [State.tuner_setTuner_other, tuner4]
    refine free2 (State.abortSearchBy_other_free ?_)
    rw [State.cancelCheck_other, State.cancelScan_other, e]
  · rw [State.tuner_setTuner_other, tuner4]
    have before : ((s.cancelScan x).cancelCheck x).tuner (otherTuner x) = s.tuner (otherTuner x) := by
      rw [State.cancelCheck_other, State.cancelScan_other]
    have ended := State.abortSearchBy_ends (s := (s.cancelScan x).cancelCheck x) x
    rw [before] at ended
    rw [program2 (ended.role.trans e)]
    exact ended

end Sys2Proof.Machine
end

-- ==== support and settled obligations, part 30 ====
section
/-! SUPPORT. What the arbiter's claims on FREE tuners leave of a program (R72, R74, R81). -/

namespace Sys2Proof.Machine

variable {s : State}

/-! ## Claims on FREE tuners -/

/-- The claims on FREE tuners that follow a change, in the order of R72. -/
def State.assign (s : State) : State := ((s.beginCheck .t1).beginCheck .t2).settlePairing

theorem State.arbitrate_eq (s : State) : s.arbitrate = s.endFades.reattachWatch.assign := rfl

theorem State.beginCheck_yields (x : TunerId) : s.Yields (s.beginCheck x) := by
  unfold State.beginCheck
  extract_lets o s1
  split
  · split
    · rename_i c rest found _ _
      have one : s.Yields (s.setTuner x { s.tuner x with search := some ⟨true, rest, found⟩ }) :=
        State.setTuner_yields rfl rfl rfl
      have two := one.trans (State.setTuner_yields (x := otherTuner x)
        (t := { (s.setTuner x { s.tuner x with search := some ⟨true, rest, found⟩ }).tuner (otherTuner x) with
          activity := .afCheckForMaster, check := some ⟨c, none⟩ }) rfl rfl rfl)
      exact two.trans ⟨rfl, rfl, rfl, rfl, fun y => by cases y <;> exact ⟨rfl, rfl, rfl⟩⟩
    · exact .refl s
  · exact .refl s

/-- A check begun changes of a program nothing but its own search. -/
theorem State.beginCheck_program {x : TunerId} (h : (s.tuner x).role = .program) (y : TunerId) :
    (s.beginCheck y).tuner x = { s.tuner x with search := ((s.beginCheck y).tuner x).search } := by
  unfold State.beginCheck
  extract_lets o s1 s2
  split
  · split
    · rename_i free
      by_cases e : x = y
      · subst e
        cases x <;> rfl
      · have other : x = otherTuner y := by
          cases x <;> cases y
          · exact absurd rfl e
          · rfl
          · rfl
          · exact absurd rfl e
        subst other
        have program : o.role = .program := h
        rw [program] at free
        simp at free
    · rfl
  · rfl

theorem State.pairReady_spec {m p : TunerId} (h : s.pairReady = some (m, p)) :
    (s.tuner m).role = .program ∧ (s.tuner p).role = .free ∧ p = otherTuner m := by
  unfold State.pairReady at h
  split at h
  · split at h
    · rename_i c
      cases h
      simp only [Bool.and_eq_true, decide_eq_true_eq] at c
      exact ⟨c.1.1, c.1.2, rfl⟩
    · split at h
      · rename_i c
        cases h
        simp only [Bool.and_eq_true, decide_eq_true_eq] at c
        exact ⟨c.1.1, c.1.2, rfl⟩
      · cases h
  · cases h

/-- A pairing begun changes neither the master nor any frequency. -/
theorem State.startPairing_master (m : TunerId) : s.Yields (s.startPairing m (otherTuner m)) ∧
    (s.startPairing m (otherTuner m)).tuner m = s.tuner m := by
  let t := s.setTuner (otherTuner m)
    { s.tuner (otherTuner m) with role := .partner, partnerOf := some m, activity := .partnerHold }
  have one : s.Yields t := State.setTuner_yields rfl rfl rfl
  have two : t.Yields (s.startPairing m (otherTuner m)) := ⟨rfl, rfl, rfl, rfl, fun y => by cases y <;> exact ⟨rfl, rfl, rfl⟩⟩
  exact ⟨one.trans two, by cases m <;> rfl⟩

theorem State.meetPartner_master (m : TunerId) : s.Yields (s.meetPartner m (otherTuner m)) ∧
    (s.meetPartner m (otherTuner m)).tuner m = s.tuner m := by
  have requested : s.Yields { s with tuners.link := .requested } ∧ State.tuner { s with tuners.link := .requested } m = s.tuner m :=
    ⟨⟨rfl, rfl, rfl, rfl, fun y => by cases y <;> exact ⟨rfl, rfl, rfl⟩⟩, by cases m <;> rfl⟩
  unfold State.meetPartner
  split
  · exact State.startPairing_master m
  · split
    · obtain ⟨yields, master⟩ := State.startPairing_master (s := s.cancelScan (otherTuner m)) m
      refine ⟨(State.cancelScan_yields _).trans yields, master.trans ?_⟩
      have cancelled := State.cancelScan_other (s := s) (otherTuner m)
      rw [show otherTuner (otherTuner m) = m by cases m <;> rfl] at cancelled
      exact cancelled
    · exact requested
  · exact requested

theorem State.settlePairing_spec (s : State) : s.Yields s.settlePairing ∧
    ∀ x, (s.tuner x).role = .program → s.settlePairing.tuner x = s.tuner x := by
  have ready : ∀ m p, s.pairReady = some (m, p) → s.Yields (s.meetPartner m p) ∧
      ∀ x, (s.tuner x).role = .program → (s.meetPartner m p).tuner x = s.tuner x := fun m p e => by
    obtain ⟨-, free, rfl⟩ := State.pairReady_spec e
    obtain ⟨yields, master⟩ := State.meetPartner_master (s := s) m
    refine ⟨yields, fun x h => ?_⟩
    by_cases same : x = m
    · rw [same]
      exact master
    · have other : x = otherTuner m := by
        cases x <;> cases m
        · exact absurd rfl same
        · rfl
        · rfl
        · exact absurd rfl same
      rw [other, free] at h
      cases h
  unfold State.settlePairing
  split
  · split
    · rename_i m p e
      exact ready m p e
    · exact ⟨.refl s, fun _ _ => rfl⟩
  · split
    · rename_i m p e
      exact ready m p e
    · exact ⟨⟨rfl, rfl, rfl, rfl, fun y => by cases y <;> exact ⟨rfl, rfl, rfl⟩⟩, fun x _ => by cases x <;> rfl⟩
  · exact ⟨.refl s, fun _ _ => rfl⟩

theorem State.assign_yields (s : State) : s.Yields s.assign :=
  ((State.beginCheck_yields .t1).trans (State.beginCheck_yields .t2)).trans (State.settlePairing_spec _).1

/-- Claims on FREE tuners change of a program nothing but its search. -/
theorem State.assign_program {x : TunerId} (h : (s.tuner x).role = .program) :
    s.assign.tuner x = { s.tuner x with search := (s.assign.tuner x).search } := by
  have one := State.beginCheck_program h .t1
  have role1 : ((s.beginCheck .t1).tuner x).role = .program := by rw [one]; exact h
  have two := State.beginCheck_program role1 .t2
  have role2 : (((s.beginCheck .t1).beginCheck .t2).tuner x).role = .program := by rw [two]; exact role1
  unfold State.assign
  rw [(State.settlePairing_spec _).2 x role2, two, one]

theorem State.assign_of_quiet (a : (s.tuner .t1).search = none) (b : (s.tuner .t2).search = none) :
    s.assign = s.settlePairing := by
  unfold State.assign
  rw [State.beginCheck_of_none a, State.beginCheck_of_none b]

/-- Without a program no pairing is made (R74). -/
theorem State.settlePairing_of_free (k : s.tuners.link = .none) (h : ∀ x, (s.tuner x).role ≠ .program) :
    s.settlePairing = s := by
  unfold State.settlePairing
  rw [k]
  have none : s.pairReady = none := by
    cases e : s.pairReady with
    | none => rfl
    | some mp =>
      obtain ⟨m, p⟩ := mp
      exact absurd (State.pairReady_spec e).1 (h m)
  simp only [none]

/-! ## The watch attached (R69, R70) -/

theorem State.tellWatch_tuner (f : Nat) (x y : TunerId) : (s.tellWatch f x).tuner y = s.tuner y := by cases y <;> rfl

/-- The tuner a WAITING watch takes where no tuner holds a program. -/
theorem State.reattachWatch_free {f : Nat} (h : s.tuners.watch = some f) (out : s.sup.state ≠ .quiet)
    (a : s.tuners.t1 = .free) (b : s.tuners.t2 = .free) : s.reattachWatch = s.takeForWatch .t1 f := by
  unfold State.reattachWatch State.holder
  rw [h, a, b]
  simp [out, Tuner.free, Tuner.holds]

end Sys2Proof.Machine
end

-- ==== support and settled obligations, part 31 ====
section
/-! SUPPORT. The statement on RESUME, QUIET_EXIT and QUIET_ENTER. -/

namespace Sys2Proof.Machine

variable {s : State}

/-! ## RESUME (R164) -/

theorem State.rerunAll_still {ds : List Domain} (h : s.NoRetune) : (s.rerunAll ds).NoRetune := by
  have tuners : (s.rerunAll ds).tuners = s.tuners := by rw [(s.rerunAll_frame ds).rest]
  unfold State.NoRetune
  rw [tuners]
  exact h

/-- Without a retune LIMP is left with precedence judged anew, and nothing follows for the routes (R164). -/
theorem State.leaveLimp_routes (h : s.NoRetune) :
    s.leaveLimp.routes = (State.rerunAll { s with sup.state := .run } [.cabinGroup, .hp1, .hp2]).routes := by
  unfold State.leaveLimp
  have still : State.NoRetune { s with sup.state := .run } := h
  rw [State.arbitrate_routes, (State.rerunAll_still still).endFades]

theorem State.leaveLimp_placed (h : s.NoRetune) : s.leaveLimp.Placed (fun _ _ => True) s.leaveLimp.routes := by
  rw [State.leaveLimp_routes h]
  let t : State := { s with sup.state := .run }
  have judged := t.rerunAll_frame [.cabinGroup, .hp1, .hp2]
  have left := s.leaveLimp_frame
  exact t.rerunAll_placed.same (by rw [left.rest, judged.rest]) (by rw [left.rest, judged.rest])

theorem exec_resume (s : State) (c : Byte) (p : List Byte) (acc : s.Accepts .resume c p) :
    (p = [] → c = 0 → exec (.resume c p) s =
      .next (s.served (if s.sup.state = .limp then s.leaveLimp else s) .resume c p [0#8])) ∧
    (p = [] → c ≠ 0 → exec (.resume c p) s = .next (s.declined .resume c p .notPermitted)) ∧
    (p ≠ [] → exec (.resume c p) s = .next (s.declined .resume c p .badArgument)) := by
  refine ⟨fun empty client => ?_, fun empty client => ?_, fun long => ?_⟩
  · refine congrArg Host.Outcome.next (acc.ok ?_)
    unfold resumeRun
    rw [empty, if_neg (by simp), if_neg (by simpa using client)]
    rfl
  · refine congrArg Host.Outcome.next (acc.refused ?_)
    unfold resumeRun
    rw [empty, if_neg (by simp), if_pos client]
  · refine congrArg Host.Outcome.next (acc.refused ?_)
    unfold resumeRun
    rw [if_pos (by simpa using long)]

theorem resume_acts (s : State) (c : Byte) (p : List Byte) (acc : s.Accepts .resume c p) :
    (p = [] → c = 0 → s.sup.state = .limp → ∃ u, exec (.resume c p) s = .next (s.served u .resume c p [0#8]) ∧
      State.TunerWork { s with sup.state := .run } u ∧
      (s.NoRetune →
        u.routes = (State.rerunAll { s with sup.state := .run } [.cabinGroup, .hp1, .hp2]).routes ∧
        ∀ r ∈ u.routes, r.state ≠ .closing →
          ((r.state = .yielding ∨ r.state = .suspended) ↔ u.outranked u.routes r = true))) ∧
    (p = [] → c = 0 → s.sup.state ≠ .limp → exec (.resume c p) s = .next (s.served s .resume c p [0#8])) ∧
    (p = [] → c ≠ 0 → exec (.resume c p) s = .next (s.declined .resume c p .notPermitted)) ∧
    (p ≠ [] → exec (.resume c p) s = .next (s.declined .resume c p .badArgument)) := by
  obtain ⟨ok, permitted, fits⟩ := exec_resume s c p acc
  refine ⟨fun e k limp => ⟨s.leaveLimp, ?_, s.leaveLimp_frame.work, fun still => ⟨State.leaveLimp_routes still,
    fun r m open' => State.leaveLimp_placed still r m trivial open'⟩⟩, fun e k run => ?_, permitted, fits⟩
  · rw [ok e k, if_pos limp]
  · rw [ok e k, if_neg run]

/-! ## QUIET_EXIT (R167) -/

/-- The state in which QUIET is left, before what follows in the Allocator: the port negotiates with a clock (R133). -/
def State.awake (s : State) : State :=
  let t := { s with sup.state := .run }
  if t.phone.clock then t.setPhone t.phone.toNegotiating else t

theorem State.leaveQuiet_eq (s : State) : s.leaveQuiet = s.awake.arbitrate := rfl

theorem State.awake_spec (down : s.phone.link = .down) : s.awake.routes = s.routes ∧ s.awake.calls = s.calls ∧
    s.awake.tuners = s.tuners ∧ s.awake.stations = s.stations ∧ s.awake.sup.state = .run ∧
    s.awake.phone = if s.phone.clock then s.phone.toNegotiating else s.phone := by
  unfold State.awake
  dsimp only
  cases clock : s.phone.clock with
  | false => exact ⟨rfl, rfl, rfl, rfl, rfl, rfl⟩
  | true =>
    unfold State.setPhone
    simp [down, Phone.toNegotiating]

/-- A WAITING watch takes T1 of a part without programs (R69, R70). -/
theorem State.takeForWatch_free {f : Nat} (watch : s.tuners.watch = some f) (b : s.tuner .t2 = .free) :
    ∃ u, s.takeForWatch .t1 f = u ∧ u.routes = s.routes ∧ u.calls = s.calls ∧
      u.tuner .t1 = { Tuner.free with
        role := .program, frequency := some f, watch := true, activity := .retune, code := s.stations.codeAt f } ∧
      u.tuner .t2 = .free ∧ u.tuners.watch = some f ∧ u.stations.watch = some (f, .t1) ∧ f ∈ u.stations.inUse := by
  obtain ⟨t1, joined, -, waits, -, -, -, -, free, -⟩ := s.takeTuner_takes .t1 f 0 true
  have t2 := free b
  have routes := s.takeTuner_routes .t1 f 0 true
  have calls := s.takeTuner_calls .t1 f 0 true
  unfold State.takeForWatch
  generalize s.takeTuner .t1 f 0 true = u at *
  exact ⟨_, rfl, routes, calls, (State.tellWatch_tuner f .t1 .t1).trans t1, (State.tellWatch_tuner f .t1 .t2).trans t2,
    waits.trans watch, rfl, joined⟩

/-- What the Allocator makes of a part without programs that is no longer in QUIET: T1 is taken for a WAITING watch. -/
theorem State.arbitrate_free (a : s.tuner .t1 = .free) (b : s.tuner .t2 = .free) (link : s.tuners.link = .none)
    (run : s.sup.state = .run) : s.arbitrate.routes = s.routes ∧ s.arbitrate.calls = s.calls ∧
      (s.tuners.watch = none → s.arbitrate = s) ∧
      ∀ f, s.tuners.watch = some f →
        s.arbitrate.tuners.watch = some f ∧ s.arbitrate.stations.watch = some (f, .t1) ∧ f ∈ s.arbitrate.stations.inUse ∧
        s.arbitrate.tuner .t1 = { Tuner.free with
          role := .program, frequency := some f, watch := true, activity := .retune, code := s.stations.codeAt f } ∧
        (s.arbitrate.tuner .t2).frequency = none ∧ (s.arbitrate.tuner .t2).watch = false := by
  have still : s.NoRetune := ⟨congrArg Tuner.retune a, congrArg Tuner.retune b⟩
  have roles : ∀ x, (s.tuner x).role ≠ .program := fun x => by
    cases x
    · rw [a]; decide
    · rw [b]; decide
  rw [State.arbitrate_eq, still.endFades]
  cases watch : s.tuners.watch with
  | none =>
    have settled : s.WatchSettled := .inl watch
    have same : s.reattachWatch.assign = s := by
      rw [settled.reattachWatch, State.assign_of_quiet (congrArg Tuner.search a) (congrArg Tuner.search b),
        State.settlePairing_of_free link roles]
    rw [same]
    exact ⟨rfl, rfl, fun _ => rfl, fun f e => by cases e⟩
  | some f =>
    obtain ⟨u, taken, routes, calls, t1, t2, waits, told, joined⟩ := State.takeForWatch_free watch b
    have taker := (u.settlePairing_spec.2 .t1 (congrArg Tuner.role t1)).trans t1
    have yields := u.settlePairing_spec.1
    obtain ⟨frequency, held, -⟩ := yields.tuners .t2
    have routes' : u.settlePairing.routes = s.routes := u.settlePairing_routes.trans routes
    have calls' : u.settlePairing.calls = s.calls := u.settlePairing_calls.trans calls
    rw [t2] at frequency held
    rw [← yields.watch] at waits
    rw [← yields.told] at told
    rw [← yields.inUse] at joined
    rw [State.reattachWatch_free watch (by rw [run]; decide) a b, taken,
      State.assign_of_quiet (congrArg Tuner.search t1) (congrArg Tuner.search t2)]
    generalize u.settlePairing = v at *
    refine ⟨routes', calls', (fun e => by cases e), fun g e => ?_⟩
    cases e
    exact ⟨waits, told, joined, taker, frequency, held⟩

/-- Leaving QUIET with the link DOWN brings no notice of an entry into or exit from UP (R132). -/
theorem State.awake_frame (down : s.phone.link = .down) :
    TunerFrame { s with sup.state := .run, phone := s.awake.phone } s.awake := by
  rw [(State.awake_spec down).2.2.2.2.2]
  unfold State.awake
  dsimp only
  cases clock : s.phone.clock with
  | false => exact .refl _
  | true =>
    have frame := State.raiseIf_frame
      (s := { s with sup.state := .run, phone := s.phone.toNegotiating })
    unfold State.setPhone
    simp [down, Phone.toNegotiating]
    exact .ofRoute (frame _ _)

theorem State.leaveQuiet_work (down : s.phone.link = .down) :
    State.TunerWork { s with sup.state := .run, phone := s.leaveQuiet.phone } s.leaveQuiet := by
  have phone : s.leaveQuiet.phone = s.awake.phone := s.awake.arbitrate_frame.phone
  rw [phone]
  exact ((State.awake_frame down).trans s.awake.arbitrate_frame).work

theorem exec_quietExit (s : State) (c : Byte) (p : List Byte) (acc : s.Accepts .quietExit c p) :
    (p = [] → c = 0 → exec (.quietExit c p) s =
      .next (s.served (if s.sup.state = .quiet then s.leaveQuiet else s) .quietExit c p [0#8])) ∧
    (p = [] → c ≠ 0 → exec (.quietExit c p) s = .next (s.declined .quietExit c p .notPermitted)) ∧
    (p ≠ [] → exec (.quietExit c p) s = .next (s.declined .quietExit c p .badArgument)) := by
  refine ⟨fun empty client => ?_, fun empty client => ?_, fun long => ?_⟩
  · refine congrArg Host.Outcome.next (acc.ok ?_)
    unfold quietExit
    rw [empty, if_neg (by simp), if_neg (by simpa using client)]
    rfl
  · refine congrArg Host.Outcome.next (acc.refused ?_)
    unfold quietExit
    rw [empty, if_neg (by simp), if_pos client]
  · refine congrArg Host.Outcome.next (acc.refused ?_)
    unfold quietExit
    rw [if_pos (by simpa using long)]

theorem quietExit_acts (s : State) (c : Byte) (p : List Byte) (acc : s.Accepts .quietExit c p) :
    (p = [] → c = 0 → s.sup.state = .quiet → s.QuietBare →
      ∃ u, exec (.quietExit c p) s = .next (s.served u .quietExit c p [0#8]) ∧
        State.TunerWork { s with sup.state := .run, phone := u.phone } u ∧ u.routes = s.routes ∧ u.calls = s.calls ∧
        (s.phone.clock = false → u.phone = s.phone) ∧
        (s.phone.clock = true →
          u.phone.link = .negotiating ∧ u.phone.inUse = s.phone.stored ∧ u.phone.silence = some 300) ∧
        (s.tuners.watch = none → u.tuners = s.tuners ∧ u.stations = s.stations) ∧
        (∀ f, s.tuners.watch = some f →
          u.tuners.watch = some f ∧ u.stations.watch = some (f, .t1) ∧ f ∈ u.stations.inUse ∧
          u.tuners.t1 = { Tuner.free with
            role := .program, frequency := some f, watch := true, activity := .retune, code := u.tuners.t1.code } ∧
          (∀ r, s.stations.find f = some r → u.tuners.t1.code = r.code) ∧
          (s.stations.find f = none → u.tuners.t1.code = none) ∧
          u.tuners.t2.frequency = none ∧ u.tuners.t2.watch = false)) ∧
    (p = [] → c = 0 → s.sup.state ≠ .quiet → exec (.quietExit c p) s = .next (s.served s .quietExit c p [0#8])) ∧
    (p = [] → c ≠ 0 → exec (.quietExit c p) s = .next (s.declined .quietExit c p .notPermitted)) ∧
    (p ≠ [] → exec (.quietExit c p) s = .next (s.declined .quietExit c p .badArgument)) := by
  obtain ⟨ok, permitted, fits⟩ := exec_quietExit s c p acc
  refine ⟨fun e k quiet bare => ?_, fun e k run => by rw [ok e k, if_neg run], permitted, fits⟩
  obtain ⟨-, ⟨t1, t2⟩, ⟨link, -⟩, -, -, ⟨down, -⟩⟩ := bare
  obtain ⟨routes, calls, tuners, stations, run, phone⟩ := State.awake_spec down
  have heard : s.leaveQuiet.phone = s.awake.phone := s.awake.arbitrate_frame.phone
  obtain ⟨routes', calls', idle, taken⟩ := State.arbitrate_free (s := s.awake)
    ((congrArg Tuners.t1 tuners).trans t1) ((congrArg Tuners.t2 tuners).trans t2) ((congrArg Tuners.link tuners).trans link) run
  rw [tuners, stations] at taken
  rw [tuners] at idle
  refine ⟨s.leaveQuiet, by rw [ok e k, if_pos quiet], State.leaveQuiet_work down, routes'.trans routes, calls'.trans calls,
    fun clock => ?_, fun clock => ?_, fun none => ?_, fun f some => ?_⟩
  · rw [heard, phone, clock]
    rfl
  · rw [heard, phone, clock]
    exact ⟨rfl, rfl, rfl⟩
  · rw [State.leaveQuiet_eq, idle none]
    exact ⟨tuners, stations⟩
  · obtain ⟨watch, told, inUse, taker, frequency, held⟩ := taken f some
    have code : s.leaveQuiet.tuners.t1.code = s.stations.codeAt f := congrArg Tuner.code taker
    refine ⟨watch, told, inUse, ?_, fun r found => ?_, fun absent => ?_, frequency, held⟩
    · rw [code]
      exact taker
    · rw [code, Stations.codeAt_of_some found]
    · rw [code, Stations.codeAt_of_none absent]

end Sys2Proof.Machine
end

-- ==== support and settled obligations, part 32 ====
section
/-! SUPPORT. The statement on RESUME, QUIET_EXIT and QUIET_ENTER, settled. -/

namespace Sys2Proof.Machine

variable {s : State}

/-! ## Records stand while QUIET is entered (R31, R64) -/

theorem State.freeTuner_records (x : TunerId) : (s.freeTuner x).stations.records = s.stations.records := by
  unfold State.freeTuner
  extract_lets t s1 s2 s3
  have left : s1.stations.records = s.stations.records := by
    unfold s1
    cases t.frequency <;> rfl
  have cancelled : s2.stations = s1.stations := by
    unfold s2
    split
    · exact State.cancelCheck_stations _
    · rfl
  have unpaired : s3.stations = s2.stations := by
    unfold s3
    split <;> rfl
  rw [State.setTuner_stations, unpaired, cancelled, left]

theorem State.leaveTuner_records (quiet : s.sup.state = .quiet) (x : TunerId) :
    (s.leaveTuner x).stations.records = s.stations.records := by
  unfold State.leaveTuner
  extract_lets t s1 s2
  have freed : s2.stations.records = s.stations.records := by
    unfold s2 State.freeIfUnheld
    dsimp only
    split
    · rw [State.freeTuner_records]
      simp [s1]
    · simp [s1]
  have still : s2.sup.state = .quiet := by
    rw [(State.freeIfUnheld_frame _ _).sup]
    simpa [s1] using quiet
  split
  · rw [State.reattachWatch_quiet still, freed]
  · exact freed

theorem State.releaseRoute_records (quiet : s.sup.state = .quiet) (r : Route) :
    (s.releaseRoute r).stations.records = s.stations.records := by
  unfold State.releaseRoute
  split
  · exact State.leaveTuner_records quiet _
  · exact State.leaveTuner_records quiet _
  · rfl
  · rfl

theorem State.removeRoute_records (quiet : s.sup.state = .quiet) (slot : Nat) (mark : Bool) :
    (s.removeRoute slot mark).stations.records = s.stations.records := by
  unfold State.removeRoute
  split
  · rfl
  · rename_i r h
    extract_lets left ranked s1 s2
    have released : s2.stations.records = s.stations.records := State.releaseRoute_records (s := s1) quiet r
    split
    · rw [(State.markSlots_frame s2 _).rest]
      exact released
    · exact released

theorem removeSlots_records (slots : List Nat) (s : State) (quiet : s.sup.state = .quiet) :
    (slots.foldl (fun u k => u.removeRoute k true) s).stations.records = s.stations.records := by
  induction slots generalizing s with
  | nil => rfl
  | cons k ks ih =>
    have frame := State.removeRoute_frame (fun _ => True) True stays_true s k true
    rw [List.foldl_cons, ih _ (by rw [frame.sup]; exact quiet), State.removeRoute_records quiet]

/-! ## What the forced removals leave (R31) -/

theorem State.removeRoute_names (slot : Nat) (mark : Bool) : (s.removeRoute slot mark).routes.map Route.identity =
    (s.routes.map Route.identity).filter (fun i => i.handle.slot ≠ slot) := by
  cases h : s.routeIn slot with
  | none =>
    unfold State.removeRoute
    rw [h, ← names_filter (p := fun r => r.slot ≠ slot) (q := fun i => i.handle.slot ≠ slot) (fun _ => rfl),
      List.filter_eq_self.2 (fun r m => by simpa using List.find?_eq_none.1 h r m)]
  | some r =>
    obtain ⟨-, e⟩ := s.routeIn_mem h
    rw [s.removeRoute_routes h, ← unranked_names, unranked_withoutRoute, e,
      names_filter (p := fun r => r.slot ≠ slot) (q := fun i => i.handle.slot ≠ slot) (fun _ => rfl), unranked_names]

theorem removeSlots_names (slots : List Nat) (s : State) :
    (slots.foldl (fun u k => u.removeRoute k true) s).routes.map Route.identity =
      (s.routes.map Route.identity).filter (fun i => i.handle.slot ∉ slots) := by
  induction slots generalizing s with
  | nil => simp
  | cons k ks ih =>
    rw [List.foldl_cons, ih, State.removeRoute_names, List.filter_filter]
    exact List.filter_congr (fun i _ => by simp [Bool.and_comm])

theorem State.forceRemovals_spec (o : Rising s.routes) (quiet : s.sup.state = .quiet) :
    s.forceRemovals.routes.map Route.identity = (s.routes.filter s.keptInQuiet).map Route.identity ∧
      s.forceRemovals.stations.records = s.stations.records := by
  unfold State.forceRemovals
  extract_lets gone t u
  have told : u.routes = t.routes ∧ u.stations = t.stations := by
    show (if _ then _ else _ : State).routes = _ ∧ (if _ then _ else _ : State).stations = _
    split
    · exact ⟨by simp [State.referenceChange], by simp [State.referenceChange]⟩
    · exact ⟨rfl, rfl⟩
  have judged := u.rerunAll_frame [.cabinGroup, .hp1, .hp2]
  refine ⟨?_, ?_⟩
  · rw [judged.each.names, told.1, show t.routes.map Route.identity = _ from removeSlots_names _ s,
      ← names_filter (p := fun r => r.slot ∉ gone.map (fun r => r.slot)) (fun _ => rfl)]
    refine congrArg (List.map Route.identity) (List.filter_congr (fun r m => ?_))
    cases kept : s.keptInQuiet r with
    | true =>
      refine decide_eq_true (fun out => ?_)
      obtain ⟨x, mx, e⟩ := List.mem_map.1 out
      obtain ⟨ms, left⟩ := List.mem_filter.1 mx
      rw [o.unique x ms r m e, kept] at left
      cases left
    | false =>
      exact decide_eq_false (not_not.2 (List.mem_map.2 ⟨r, List.mem_filter.2 ⟨m, by rw [kept]; rfl⟩, rfl⟩))
  · rw [judged.rest]
    exact (congrArg Stations.records told.2).trans (removeSlots_records _ s quiet)

/-! ## The port's record with the link DOWN (R133) -/

/-- In QUIET nothing in the Station Table follows a link that leaves UP. -/
theorem State.Bare.noticeNotUp_stations (b : s.Bare) : s.noticeNotUp.stations = s.stations := by
  have told : ∀ t : State, t.Bare → t.callsLinkDown.routesLink.arbitrate.stations = t.stations := fun t c => by
    have first := t.callsLinkDown_frame
    have second := State.routesLink_frame t.callsLinkDown
    rw [((c.route first).route second).arbitrate, second.rest, first.rest]
  have told' : ∀ t : State, t.Bare → t.routesLink.callsLinkDown.arbitrate.stations = t.stations := fun t c => by
    have first := t.routesLink_frame
    have second := State.callsLinkDown_frame t.routesLink
    rw [((c.route first).route second).arbitrate, second.rest, first.rest]
  have counted : { s with freeCount := s.freeCount + 1 }.Bare := b.rest rfl rfl rfl ⟨rfl, rfl, rfl⟩ rfl ⟨rfl, rfl⟩
  unfold State.noticeNotUp State.eitherOrder
  dsimp only
  split
  · exact told _ counted
  · exact told' _ counted

theorem State.Bare.setPhone_stations {p : Phone} (b : { s with phone := p }.Bare) :
    (s.setPhone p).stations = s.stations := by
  have down : p.link = .down := b.2.link.1
  have raised : ∀ c, (State.raiseIf { s with phone := p } c .phoneLink).Bare := fun c => b.route (State.raiseIf_frame _ _ _)
  unfold State.setPhone
  dsimp only
  rw [if_neg (by simp [down])]
  split
  · rw [(raised _).noticeNotUp_stations]
    simp
  · simp

/-! ## QUIET_ENTER (R166) -/

theorem Line.quieted_eq (l : Line) :
    l.quieted = if l.state = .asserted ∧ l.quiet = false then { l with routes := [] } else l := by
  unfold Line.quieted
  by_cases a : l.state = .asserted
  · cases q : l.quiet <;> simp [a]
  · simp [a]

/-- The part in QUIET after the forced removals. -/
def State.stripped (s : State) : State := State.forceRemovals { s with sup := { s.sup with state := .quiet, left := none } }

/-- Tuners, stations and lines told of QUIET. -/
def State.hushed (s : State) : State :=
  let u := s.quietTuners.quietStations
  { u with lines := u.lines.map Line.quieted }

theorem State.hushed_phone (s : State) : s.hushed.phone = s.quietTuners.quietStations.phone := rfl

theorem State.enterQuiet_eq (s : State) : s.enterQuiet = s.stripped.hushed.setPhone s.stripped.hushed.phone.toDown := by
  rw [State.hushed_phone]
  rfl

/-- What the entry into QUIET leaves alone, and what the lines become. -/
structure State.Hushes (s u : State) : Prop where
  sup : u.sup = { s.sup with state := .quiet, left := none }
  lines : u.lines = s.lines.map Line.quieted
  mixer : u.mixer = s.mixer
  thermal : u.thermal = s.thermal
  store : u.store = s.store
  port : u.port = s.port
  jacks : u.jacks = s.jacks
  policy : u.tuners.policy = s.tuners.policy

theorem State.Hushes.tuner {s u v : State} (h : s.Hushes u) {p : Phone} {n : Nat}
    (f : TunerFrame { u with phone := p, freeCount := n } v) : s.Hushes v := by
  obtain ⟨sup, lines, mixer, thermal, store, port, jacks, policy⟩ := h
  rw [f.rest]
  exact ⟨sup, lines, mixer, thermal, store, port, jacks, policy⟩

theorem State.stripped_frame (s : State) : TableFrame (fun _ => True) True
    { s with sup := { s.sup with state := .quiet, left := none } } s.stripped :=
  State.forceRemovals_frame (fun _ => True) True stays_true _

theorem State.hushed_frame (s : State) : TunerFrame { s with lines := s.lines.map Line.quieted } s.hushed := by
  have told := s.quietTuners_frame.trans s.quietTuners.quietStations_frame
  unfold State.hushed
  dsimp only
  generalize s.quietTuners.quietStations = u at told ⊢
  obtain ⟨rest, flags, each⟩ := told
  refine ⟨?_, flags, each⟩
  rw [rest]

theorem State.stripped_hushes (s : State) : s.Hushes s.stripped.hushed ∧ s.stripped.hushed.phone = s.phone ∧
    s.stripped.hushed.calls.legs = s.calls.legs := by
  have stripped := s.stripped_frame.rest
  have told := s.stripped.hushed_frame.rest
  generalize s.stripped.hushed = v at *
  generalize s.stripped = u at *
  rw [told, stripped]
  exact ⟨⟨rfl, rfl, rfl, rfl, rfl, rfl, rfl, rfl⟩, rfl, rfl⟩

theorem State.hushed_routes (s : State) : s.hushed.routes = s.routes := by
  unfold State.hushed
  simp

theorem State.hushed_records (s : State) : s.hushed.stations.records = s.stations.records := by
  have cancelled := ((State.cancelScan_yields (s := s) .t1).trans (State.cancelScan_yields .t2)).records
  rw [← cancelled]
  rfl

theorem State.hushed_tuners (s : State) : (s.hushed.tuners.t1 = .free ∧ s.hushed.tuners.t2 = .free) ∧
    (s.hushed.tuners.link = .none ∧ s.hushed.tuners.waiting = []) ∧
    (s.hushed.stations.inUse = [] ∧ s.hushed.stations.watch = none ∧ s.hushed.stations.announcing = false) :=
  ⟨⟨rfl, rfl⟩, ⟨rfl, rfl⟩, ⟨rfl, rfl, rfl⟩⟩

/-- Without programs, watch and waiting claims, a part told of QUIET is bare once its link is DOWN. -/
theorem State.hushed_bare (quiet : s.hushed.sup.state = .quiet) (legs : s.hushed.calls.legs = [])
    (owners : ∀ n ∈ s.routes, n.owner = 7) : { s.hushed with phone := s.hushed.phone.toDown }.Bare := by
  obtain ⟨tuners, pairing, stations⟩ := s.hushed_tuners
  rw [← s.hushed_routes] at owners
  generalize s.hushed = u at *
  exact ⟨quiet, owners, tuners, pairing, stations, legs, rfl, rfl⟩

theorem State.stripped_owners (s : State) : ∀ n ∈ s.stripped.routes, n.owner = 7 := State.forceRemovals_owners _

theorem State.stripped_spec (o : Rising s.routes) :
    s.stripped.routes.map Route.identity = (s.routes.filter s.keptInQuiet).map Route.identity ∧
      s.stripped.stations.records = s.stations.records := by
  unfold State.stripped
  exact State.forceRemovals_spec o rfl

/-- The entry into QUIET of a part without a leg: what goes and what stands (R31, R64, R166). -/
theorem State.enterQuiet_spec (o : Rising s.routes) (legs : s.calls.legs = []) :
    s.Hushes s.enterQuiet ∧ s.enterQuiet.routes.map Route.identity = (s.routes.filter s.keptInQuiet).map Route.identity ∧
      s.enterQuiet.stations.records = s.stations.records ∧ s.enterQuiet.phone.stored = s.phone.stored := by
  obtain ⟨names, records⟩ := State.stripped_spec o
  obtain ⟨hushes, phone, stand⟩ := s.stripped_hushes
  have quiet : s.stripped.hushed.sup.state = .quiet := congrArg Supervision.state hushes.sup
  rw [legs] at stand
  have bare := s.stripped.hushed_bare quiet stand s.stripped_owners
  rw [← s.stripped.hushed_routes] at names
  rw [← s.stripped.hushed_records] at records
  rw [s.enterQuiet_eq]
  generalize s.stripped.hushed = u at *
  have down := (u.setPhone_frame u.phone.toDown).frame
  refine ⟨hushes.tuner down, down.each.names.trans names, ?_, ?_⟩
  · rw [bare.setPhone_stations, records]
  · rw [u.setPhone_phone, phone]
    rfl

theorem exec_quietEnter (s : State) (c : Byte) (p : List Byte) (acc : s.Accepts .quietEnter c p) :
    (p = [] → c = 0 → s.sup.state ≠ .quiet → s.calls.legs = [] → exec (.quietEnter c p) s =
      .next (s.served s.enterQuiet .quietEnter c p (u8 (s.routes.filter (fun r => !s.keptInQuiet r)).length))) ∧
    (p = [] → c = 0 → s.sup.state = .quiet → exec (.quietEnter c p) s = .next (s.served s .quietEnter c p [0#8])) ∧
    (p = [] → c = 0 → s.sup.state ≠ .quiet → s.calls.legs ≠ [] →
      exec (.quietEnter c p) s = .next (s.declined .quietEnter c p .callPresent)) ∧
    (p = [] → c ≠ 0 → exec (.quietEnter c p) s = .next (s.declined .quietEnter c p .notPermitted)) ∧
    (p ≠ [] → exec (.quietEnter c p) s = .next (s.declined .quietEnter c p .badArgument)) := by
  refine ⟨fun empty client run legs => ?_, fun empty client quiet => ?_, fun empty client run legs => ?_,
    fun empty client => ?_, fun long => ?_⟩
  · refine congrArg Host.Outcome.next (acc.ok ?_)
    unfold quietEnter
    rw [empty, if_neg (by simp), if_neg (by simpa using client), if_neg run, if_neg (by simpa using legs)]
  · refine congrArg Host.Outcome.next (acc.ok ?_)
    unfold quietEnter
    rw [empty, if_neg (by simp), if_neg (by simpa using client), if_pos quiet]
    rfl
  · refine congrArg Host.Outcome.next (acc.refused ?_)
    unfold quietEnter
    rw [empty, if_neg (by simp), if_neg (by simpa using client), if_neg run, if_pos legs]
  · refine congrArg Host.Outcome.next (acc.refused ?_)
    unfold quietEnter
    rw [empty, if_neg (by simp), if_pos client]
  · refine congrArg Host.Outcome.next (acc.refused ?_)
    unfold quietEnter
    rw [if_pos (by simpa using long)]

/-- The routes that go and those that are kept are all. -/
theorem length_gone (p : Route → Bool) (rs : List Route) :
    (rs.filter (fun r => !p r)).length = rs.length - (rs.filter p).length := by
  have all := List.length_eq_length_filter_add (l := rs) p
  omega

/-- Settles O56: precedence judged anew places every route; a part without programs takes T1 for a WAITING watch; the forced
removals leave the kept routes, and QUIET is bare. -/
theorem limpAndQuietRequests : Obligations.LimpAndQuietRequests := by
  refine ⟨fun s c p => ⟨resume_acts s c p, quietExit_acts s c p⟩, fun s c p acc o => ?_⟩
  obtain ⟨enters, quiet, calls, permitted, fits⟩ := exec_quietEnter s c p acc
  refine ⟨fun empty client run legs => ?_, quiet, calls, permitted, fits⟩
  intro keeps
  have kept : keeps = s.keptInQuiet := by
    funext r
    unfold State.keptInQuiet
    cases line : r.line <;> simp [keeps, line]
  obtain ⟨⟨sup, lines, mixer, thermal, store, port, jacks, policy⟩, names, records, stored⟩ := State.enterQuiet_spec o legs
  refine ⟨s.enterQuiet, ?_, sup, (s.enterQuiet_bare legs).2, by rw [kept]; exact names, fun i => ?_, mixer, thermal, store,
    port, jacks, records, policy, stored⟩
  · rw [enters empty client run legs, length_gone, kept]
  · rw [lines, Quad.get_map, Line.quieted_eq]

end Sys2Proof.Machine
end

-- ==== support and settled obligations, part 33 ====
section
/-! SUPPORT. What ROUTE_OPEN makes of the Route Table, and what it reports (R7, R18, R19). -/

namespace Sys2Proof.Machine

variable {s : State}

/-! ## The lowest free slot (R19) -/

theorem State.freeSlot_lowest {k : Nat} (h : s.freeSlot = some k) : ∀ j, 1 ≤ j → j < k → ∃ r ∈ s.routes, r.slot = j := by
  unfold State.freeSlot at h
  obtain ⟨i, found, rfl⟩ := Option.map_eq_some_iff.1 h
  obtain ⟨-, before, after, split, none⟩ := List.find?_eq_some_iff_append.1 found
  intro j low high
  have at' : (List.range 24)[j - 1]? = some (j - 1) := by
    have m := List.mem_of_find?_eq_some found
    rw [List.mem_range] at m
    rw [List.getElem?_range (by omega)]
  have placed : before.length = i := by
    have m : (before ++ i :: after)[before.length]? = some i := by simp
    rw [← split] at m
    obtain ⟨short, e⟩ := List.getElem?_eq_some_iff.1 m
    rw [List.getElem_range] at e
    exact e
  rw [split, List.getElem?_append_left (by omega)] at at'
  have taken := none (j - 1) (List.mem_of_getElem? at')
  rw [Bool.not_eq_eq_eq_not, Bool.not_true, List.all_eq_false] at taken
  obtain ⟨r, m, e⟩ := taken
  refine ⟨r, m, ?_⟩
  have here : r.slot = j - 1 + 1 := by simpa using e
  omega

/-! ## The first state (R7) -/

theorem Route.aim_cause (r : Route) (g : Gain) (k : RampClass) (h : r.cause = none) : (r.aim g k).cause = none := by
  have ended : ∀ n : Route, n.cause = none → n.rampEnded.cause = none := fun n e => by
    rcases n.rampEnded_cases with q | ⟨-, -, q⟩ | ⟨-, q⟩
    · rw [q, e]
    · rw [q]
      exact e
    · rw [q]
      unfold Route.ringOff
      split <;> exact e
  obtain ⟨a, b, q | ⟨-, -, q⟩⟩ := r.aim_cases g k
  · rw [q]
    exact h
  · rw [q]
    exact ended _ h

theorem State.enterRising_cause (s : State) (r : Route) : (s.enterRising r).cause = none := by
  unfold State.enterRising
  dsimp only
  refine Route.aim_cause _ _ _ ?_
  split <;> rfl

theorem State.firstState_cases (s : State) (r : Route) :
    s.firstState r = .suspended ∨ s.firstState r = .rising ∨ s.firstState r = .pending := by
  unfold State.firstState
  split
  · exact .inl rfl
  · split
    · exact .inr (.inl rfl)
    · exact .inr (.inr rfl)

/-- A route that opens pending has its cause, any other none (R5, R7). -/
theorem State.firstEntry_cause (s : State) (r : Route) :
    (s.firstEntry r).cause = if s.firstState r = .pending then some (s.causeOf r) else none := by
  unfold State.firstEntry
  rcases s.firstState_cases r with e | e | e
  · rw [e]
    rfl
  · rw [e]
    exact s.enterRising_cause r
  · rw [e]
    rfl

theorem State.available_listener {r : Route} (h : s.available r = true) : s.listener r.zone = true := by
  unfold State.available at h
  simp only [Bool.and_eq_true] at h
  exact h.1

theorem State.firstState_rising {r : Route} (h : s.firstState r = .rising) : s.listener r.zone = true := by
  unfold State.firstState at h
  split at h
  · cases h
  · split at h
    · rename_i a
      exact State.available_listener a
    · cases h

/-! ## The route opened (R19) -/

theorem State.rerun_rest (d : Domain) : (s.rerun d).reuse = s.reuse := (s.rerun_frame d).reuse

theorem State.openRoute_reuse (s : State) (r : Route) : (s.openRoute r).reuse = s.reuse := by
  unfold State.openRoute
  extract_lets n s1 s2
  rw [State.rerun_rest]
  show (if _ then _ else _ : State).reuse = _
  split
  · exact (State.referenceChange_frame _).reuse
  · rfl

/-- A route opened into a free slot and the arbiter's work: the table has that route and the routes it had. -/
theorem State.opened_routes (s : State) (r : Route) (free : ∀ x ∈ s.routes, x.slot ≠ r.slot) :
    (∃ n ∈ (s.openRoute r).arbitrate.routes, r.Keeps n) ∧
      ((s.openRoute r).arbitrate.routes.filter (fun x => x.slot ≠ r.slot)).map Route.identity = s.routes.map Route.identity := by
  have settles := forall₂_trans (R := Route.Settles) (fun _ _ _ => .trans) (s.openRoute_settles r) (s.openRoute r).arbitrate_settles
  have first := s.firstEntry_keeps r
  refine ⟨?_, ?_⟩
  · obtain ⟨n, m, kept⟩ := forall₂_left settles _ ((mem_insertRoute _ _ _).2 (.inl rfl))
    exact ⟨n, m, first.trans kept.keeps⟩
  · rw [names_filter (p := fun x => x.slot ≠ r.slot) (q := fun i => i.handle.slot ≠ r.slot) (fun _ => rfl),
      forall₂_map_eq settles Route.identity (fun _ _ k => k.keeps.same.identity),
      ← names_filter (p := fun x => x.slot ≠ r.slot) (q := fun i => i.handle.slot ≠ r.slot) (fun _ => rfl),
      insertRoute_filter _ _ _ (by simp [first.slot]),
      List.filter_eq_self.2 (fun x m => by simpa using free x m)]

/-- The bytes of a ROUTE_OPEN carried out: those of the route as it was made, with its first state and cause (R19). -/
theorem openReply_eq (s : State) (r : Route) : openReply (s.firstEntry r) (s.firstState r) =
    u8 r.slot ++ [r.reuse] ++ u8 (s.firstState r).code ++
      u8 (causeCode (if s.firstState r = .pending then some (s.causeOf r) else none)) ++ i16 r.level ++ u8 r.ramp.code ++
      (r.maxDuration.map u8).getD [] := by
  have kept := s.firstEntry_keeps r
  have cause := s.firstEntry_cause r
  generalize s.firstEntry r = n at *
  unfold openReply
  rw [cause, kept.rest]
  dsimp only
  cases r.maxDuration <;> rfl

/-- The maximum duration of a route opened with some fields (R1, R18). -/
theorem State.openDuration_eq (s : State) (o : OpenFields) : s.openDuration o =
    if o.cls = .alert then some (if o.duration = 0 then s.alertMax else o.duration) else none := rfl

section
variable {c : Byte} {p : List Byte}

theorem routeOpen_fields (h : openFields s.tuners.plan p = none) : routeOpen c p s = .refuse s .badArgument := by
  unfold routeOpen
  rw [h]

theorem routeOpen_leg {o : OpenFields} (h : openFields s.tuners.plan p = some o) {e : Result}
    (k : s.legCheck c o.source = some e) : routeOpen c p s = .refuse s e := by
  unfold routeOpen
  rw [h]
  dsimp only
  rw [k]

theorem routeOpen_full {o : OpenFields} (h : openFields s.tuners.plan p = some o) (k : s.legCheck c o.source = none)
    (full : s.freeSlot = none) : routeOpen c p s = .refuse s .tableFull := by
  unfold routeOpen
  rw [h]
  dsimp only
  rw [k, full]

theorem routeOpen_busy {o : OpenFields} (h : openFields s.tuners.plan p = some o) (k : s.legCheck c o.source = none)
    {slot : Nat} (free : s.freeSlot = some slot) (busy : s.serve o.source ⟨slot, tabGet s.reuse (slot - 1) 0⟩ = none) :
    routeOpen c p s = .refuse s .tunerBusy := by
  unfold routeOpen
  rw [h]
  dsimp only
  rw [k, free]
  dsimp only
  rw [busy]

theorem routeOpen_served {o : OpenFields} (h : openFields s.tuners.plan p = some o) (k : s.legCheck c o.source = none)
    {slot : Nat} (free : s.freeSlot = some slot) {v : State} {x : Option TunerId} {cond : Condition}
    (served : s.serve o.source ⟨slot, tabGet s.reuse (slot - 1) 0⟩ = some (v, x, cond)) :
    let r := v.newRoute slot c.toNat o.zone o.cls o.source o.level ((rampOf o.ramp).getD (v.defaultRamp.get o.cls))
      (v.openDuration o) x cond none
    routeOpen c p s = .ok (v.openRoute r).arbitrate (openReply (v.firstEntry r) (v.firstState r)) := by
  unfold routeOpen
  rw [h]
  dsimp only
  rw [k, free]
  dsimp only
  rw [served]

/-- ROUTE_OPEN carried out (R7, R18, R19). -/
theorem routeOpen_opens (acc : s.Accepts .routeOpen c p) {o : OpenFields} (h : openFields s.tuners.plan p = some o)
    (k : s.legCheck c o.source = none) {slot : Nat} (free : s.freeSlot = some slot) {v : State} {x : Option TunerId}
    {cond : Condition} (served : s.serve o.source ⟨slot, tabGet s.reuse (slot - 1) 0⟩ = some (v, x, cond)) :
    let ramp := (rampOf o.ramp).getD (s.defaultRamp.get o.cls)
    let duration := s.openDuration o
    let r := v.newRoute slot c.toNat o.zone o.cls o.source o.level ramp duration x cond none
    let first := v.firstState r
    ∃ u, exec (.routeOpen c p) s = .next (s.served u .routeOpen c p (openReply (v.firstEntry r) first)) ∧
      s.TableWork u ∧ u.reuse = s.reuse ∧ r.reuse = tabGet s.reuse (slot - 1) 0 ∧
      r.rank = (s.routes.filter (fun r => r.zone.domain = o.zone.domain)).length + 1 ∧
      (∃ n ∈ u.routes, r.Keeps n) ∧ (first = .rising → s.listener o.zone = true) ∧
      (u.routes.filter (fun r => r.slot ≠ slot)).map Route.identity = s.routes.map Route.identity := by
  intro ramp duration r first
  have claimed := s.serve_frame _ _ served
  have routes : v.routes = s.routes := s.serve_routes _ _ served
  have ramps : v.defaultRamp = s.defaultRamp := by rw [claimed.rest]
  have longest : v.openDuration o = s.openDuration o := by
    rw [State.openDuration_eq, State.openDuration_eq, claimed.rest]
  have jacks : v.jacks = s.jacks := by rw [claimed.rest]
  have carried := routeOpen_served (c := c) h k free served
  rw [ramps, longest] at carried
  have frame := (routeOpen_frame c p s).work
  rw [carried] at frame
  have reuse : v.reuse = s.reuse := claimed.reuse
  obtain ⟨opened, others⟩ := v.opened_routes r (by rw [routes]; exact (s.freeSlot_spec free).2)
  refine ⟨(v.openRoute r).arbitrate, congrArg Host.Outcome.next (acc.ok carried), frame, ?_, ?_, ?_, opened, fun rises => ?_,
    ?_⟩
  · exact (State.arbitrate_frame _).reuse.trans ((State.openRoute_reuse v r).trans reuse)
  · show tabGet v.reuse _ _ = _
    rw [reuse]
  · show (v.routes.filter _).length + 1 = _
    rw [routes]
  · have heard := State.firstState_rising rises
    unfold State.listener at heard ⊢
    rw [jacks] at heard
    exact heard
  · rw [← routes]
    exact others

end

end Sys2Proof.Machine
end

-- ==== support and settled obligations, part 34 ====
section
/-! SUPPORT. Claims of tuners by frequency and by code, the fields of ROUTE_OPEN, and the statement on it. -/

namespace Sys2Proof.Machine

variable {s : State}

/-! ## Claims (R65, R66) -/

theorem State.serve_of_claim {f : Nat} {h : Handle} {t : State} {x : TunerId} {c : Condition}
    (e : s.claim f = (t, some (x, c))) : s.serve (.tunerFrequency f) h = some (t, some x, c) := by
  unfold State.serve
  dsimp only
  rw [e]

theorem State.serve_of_refusal {f : Nat} {h : Handle} {t : State} (e : s.claim f = (t, none)) :
    s.serve (.tunerFrequency f) h = none := by
  unfold State.serve
  dsimp only
  rw [e]

theorem State.holder_eq {f : Nat} {x : TunerId} (a : (s.tuner x).holds f = true)
    (b : x = .t2 → ¬(s.tuner .t1).holds f = true) : s.holder f = some x := by
  unfold State.holder
  cases x with
  | t1 => exact if_pos a
  | t2 => exact (if_neg (b rfl)).trans (if_pos a)

theorem State.holder_none {f : Nat} (h : ∀ x, (s.tuner x).holds f = false) : s.holder f = none := by
  unfold State.holder
  have one : s.tuners.t1.holds f = false := h .t1
  have two : s.tuners.t2.holds f = false := h .t2
  simp [one, two]

/-- A claim on a frequency that is held shares the program (R65, case 1). -/
theorem State.claim_shared {f : Nat} {x : TunerId} (h : s.holder f = some x) : s.claim f = s.share x := by
  unfold State.claim
  rw [h]

/-- One on a tuner without a program takes it (R65, case 2). -/
theorem State.claim_free {f : Nat} {x : TunerId} (h : s.holder f = none) (a : (s.tuner x).role ≠ .program)
    (b : x = .t2 → ¬(s.tuner .t1).role ≠ .program) : s.claim f = (s.takeTuner x f 1 false, some (x, .sourceAbsent)) := by
  unfold State.claim
  rw [h]
  dsimp only
  cases x with
  | t1 => exact if_pos a
  | t2 => exact (if_neg (b rfl)).trans (if_pos a)

section
variable {f : Nat} (h : s.holder f = none) (a : ¬(s.tuner .t1).role ≠ .program) (b : ¬(s.tuner .t2).role ≠ .program)
include h a b

theorem State.claim_taken : s.claim f =
    if s.tuners.t1.watchOnly then ((s.dropWatch .t1).takeTuner .t1 f 1 false, some (.t1, .sourceAbsent))
    else if s.tuners.t2.watchOnly then ((s.dropWatch .t2).takeTuner .t2 f 1 false, some (.t2, .sourceAbsent))
    else (s, none) := by
  unfold State.claim
  rw [h]
  dsimp only
  exact (if_neg a).trans (if_neg b)

/-- One with both tuners in programs takes one that the watch alone holds (R65, case 3; R70). -/
theorem State.claim_lone {x : TunerId} (c : (s.tuner x).watchOnly = true) (d : x = .t2 → ¬(s.tuner .t1).watchOnly = true) :
    s.claim f = ((s.dropWatch x).takeTuner x f 1 false, some (x, .sourceAbsent)) := by
  rw [State.claim_taken h a b]
  cases x with
  | t1 => exact if_pos c
  | t2 => exact (if_neg (d rfl)).trans (if_pos c)

theorem State.claim_busy (c : ¬(s.tuner .t1).watchOnly = true) (d : ¬(s.tuner .t2).watchOnly = true) :
    s.claim f = (s, none) := by
  rw [State.claim_taken h a b]
  exact (if_neg c).trans (if_neg d)

end

theorem Tuner.watchOnly_iff (t : Tuner) : t.watchOnly = true ↔ t.role = .program ∧ t.users = 0 ∧ t.watch = true := by
  simp [Tuner.watchOnly, and_assoc]

/-- The watch dropped leaves its tuner's work, the other tuner and the stations but for the watch (R70). -/
theorem State.dropWatch_spec (s : State) (x : TunerId) :
    (s.dropWatch x).tuners.watch = s.tuners.watch ∧ (s.dropWatch x).stations.watch = none ∧
      (s.dropWatch x).stations.records = s.stations.records ∧
      (∀ y, (s.dropWatch x).stations.reserved y = s.stations.reserved y) ∧
      ((s.dropWatch x).tuner x).activity = (s.tuner x).activity ∧
      (s.dropWatch x).tuner (otherTuner x) = s.tuner (otherTuner x) ∧ (s.dropWatch x).events.flags.getLsbD 8 = true := by
  have raised : ∀ t : State, (t.raise .watchLost).events.flags.getLsbD 8 = true := fun t => by
    rw [State.raise_flags, BitVec.getLsbD_or]
    simp [EventSource.bit, EventSource.number]
  refine ⟨by cases x <;> rfl, rfl, by cases x <;> rfl, fun y => by cases x <;> cases y <;> rfl, by cases x <;> rfl,
    by cases x <;> rfl, raised _⟩

/-- What a claim that takes a tuner makes of it and leaves of the rest (R65). -/
structure State.Claims (s u : State) (x : TunerId) (f : Nat) : Prop where
  work : s.TunerWork u
  tuner : u.tuner x = { Tuner.free with
    role := .program, frequency := some f, users := 1, activity := .retune, code := (u.tuner x).code }
  coded : ∀ r, s.stations.find f = some r → (u.tuner x).code = r.code
  uncoded : s.stations.find f = none → (u.tuner x).code = none
  inUse : f ∈ u.stations.inUse
  routes : u.routes = s.routes
  link : u.tuners.link = .none
  watch : u.tuners.watch = s.tuners.watch
  scan : (s.tuner x).activity = .scanStep → u.stations.reserved x = none ∧
    ∀ g, s.stations.reserved x = some g → g ∈ u.stations.returned
  search : ∀ q, (s.tuner (otherTuner x)).search = some q → q.partner = true →
    (u.tuner (otherTuner x)).search = none ∧ (u.tuner (otherTuner x)).af = .idle ∧
    (u.tuner (otherTuner x)).streak = (s.tuner (otherTuner x)).streak

theorem State.Takes.claims {s d u : State} {x : TunerId} {f : Nat} (t : d.Takes u x f 1 false) (work : s.TunerWork u)
    (routes : u.routes = s.routes) (records : d.stations.records = s.stations.records)
    (watch : d.tuners.watch = s.tuners.watch) (reserved : ∀ y, d.stations.reserved y = s.stations.reserved y)
    (activity : (d.tuner x).activity = (s.tuner x).activity) (other : d.tuner (otherTuner x) = s.tuner (otherTuner x)) :
    s.Claims u x f := by
  have code : (u.tuner x).code = s.stations.codeAt f := by
    rw [t.tuner]
    exact Stations.codeAt_records records f
  have streak := t.other.2.2
  have scan := t.scan
  have search := t.search
  rw [other] at streak search
  rw [activity, reserved] at scan
  exact {
    work := work
    tuner := by
      rw [code, t.tuner, Stations.codeAt_records records f]
      rfl
    coded := fun r e => by rw [code, Stations.codeAt_of_some e]
    uncoded := fun e => by rw [code, Stations.codeAt_of_none e]
    inUse := t.inUse
    routes := routes
    link := t.link
    watch := t.watch.trans watch
    scan := scan
    search := fun q e p => ⟨(search q e p).1, (search q e p).2, streak⟩ }

theorem State.takeTuner_claims (s : State) (x : TunerId) (f : Nat) : s.Claims (s.takeTuner x f 1 false) x f ∧
    (s.takeTuner x f 1 false).stations.watch = s.stations.watch := by
  have t := s.takeTuner_takes x f 1 false
  exact ⟨t.claims (s.takeTuner_frame x f 1 false).work (by simp) rfl rfl (fun _ => rfl) rfl rfl, t.told⟩

theorem State.dropWatch_claims (s : State) (x : TunerId) (f : Nat) : s.Claims ((s.dropWatch x).takeTuner x f 1 false) x f ∧
    ((s.dropWatch x).takeTuner x f 1 false).stations.watch = none ∧
    ((s.dropWatch x).takeTuner x f 1 false).events.flags.getLsbD 8 = true := by
  have t := (s.dropWatch x).takeTuner_takes x f 1 false
  have frame := (s.dropWatch x).takeTuner_frame x f 1 false
  obtain ⟨watch, told, records, reserved, activity, other, flag⟩ := s.dropWatch_spec x
  exact ⟨t.claims ((s.dropWatch_frame x).trans frame).work (by simp) records watch reserved activity other,
    t.told.trans told, flag_stands frame.flags flag⟩

/-! ## Claims by code (R66) -/

section
variable {c : Nat} {h : Handle}

theorem Tuner.holdsCode_iff (t : Tuner) (c : Nat) : t.holdsCode c = true ↔ t.role = .program ∧ t.code = some c := by
  simp [Tuner.holdsCode]

theorem State.codeTarget_tuner {x : TunerId} (a : (s.tuner x).holdsCode c = true)
    (b : x = .t2 → ¬(s.tuner .t1).holdsCode c = true) : s.codeTarget c = .tuner x := by
  unfold State.codeTarget
  cases x with
  | t1 => exact if_pos a
  | t2 => exact (if_neg (b rfl)).trans (if_pos a)

theorem State.codeTarget_best (a : ¬(s.tuner .t1).holdsCode c = true) (b : ¬(s.tuner .t2).holdsCode c = true) :
    (∀ r, s.stations.best c = some r → s.codeTarget c = .frequency r.frequency) ∧
      (s.stations.best c = none → s.codeTarget c = .unknown) := by
  have table : ∀ target, (s.stations.best c = none → target = CodeTarget.unknown) →
      (∀ r, s.stations.best c = some r → target = .frequency r.frequency) → s.codeTarget c = target :=
    fun target none some => by
      unfold State.codeTarget
      refine (if_neg a).trans ((if_neg b).trans ?_)
      cases e : s.stations.best c with
      | none => exact (none e).symm
      | some r => exact (some r e).symm
  refine ⟨fun r e => table _ (fun k => ?_) (fun q k => ?_), fun e => table _ (fun _ => rfl) (fun r k => ?_)⟩
  · rw [e] at k
    cases k
  · rw [e] at k
    cases k
    rfl
  · rw [e] at k
    cases k

theorem State.serve_shared {x : TunerId} (e : s.codeTarget c = .tuner x) :
    s.serve (.tunerCode c) h = some ((s.share x).1, some x, (s.tuner x).programCondition) := by
  unfold State.serve State.claimCode
  dsimp only
  rw [e]
  rfl

theorem State.serve_best {f : Nat} (e : s.codeTarget c = .frequency f) :
    s.serve (.tunerCode c) h = s.serve (.tunerFrequency f) h := by
  unfold State.serve State.claimCode
  dsimp only
  rw [e]

theorem State.serve_waits (e : s.codeTarget c = .unknown) :
    s.serve (.tunerCode c) h =
      some ({ s with tuners.waiting := s.tuners.waiting ++ [⟨h, c⟩] }, none, .searching) := by
  unfold State.serve
  dsimp only
  rw [e]

end

/-! ## The fields of ROUTE_OPEN (R3, R18) -/

theorem zoneOf_iff (n : Nat) (z : Zone) : zoneOf n = some z ↔ n = z.code :=
  ⟨zoneOf_code, fun e => by rw [e]; cases z <;> rfl⟩

theorem classOf_iff (n : Nat) (k : RouteClass) : classOf n = some k ↔ n = k.code := by
  refine ⟨fun e => ?_, fun e => by rw [e]; cases k <;> rfl⟩
  unfold classOf at e
  split at e <;> cases e <;> rfl

/-- What a kind and a value must be for a source (R3, R18). -/
def Source.Named (plan : BandPlan) (kind v : Nat) (src : Source) : Prop :=
  match src with
  | .stream n => kind = 0 ∧ v = n ∧ n ≤ 3
  | .tone n => kind = 1 ∧ v = n ∧ n ≤ 15
  | .tunerFrequency f => kind = 2 ∧ v = f ∧ onRaster plan f = true
  | .tunerCode c => kind = 3 ∧ v = c ∧ c ≠ 0
  | .leg id reuse => kind = 4 ∧ v / 256 = id ∧ (1 ≤ id ∧ id ≤ 3) ∧ BitVec.ofNat 8 v = reuse

theorem sourceOf_named {plan : BandPlan} {kind v : Nat} {src : Source} (h : sourceOf plan kind v = some src) :
    src.Named plan kind v := by
  unfold sourceOf at h
  split at h
  · split at h
    · rename_i few
      cases h
      exact ⟨rfl, rfl, few⟩
    · cases h
  · split at h
    · rename_i few
      cases h
      exact ⟨rfl, rfl, few⟩
    · cases h
  · split at h
    · rename_i raster
      cases h
      exact ⟨rfl, rfl, raster⟩
    · cases h
  · split at h
    · cases h
    · rename_i coded
      cases h
      exact ⟨rfl, rfl, coded⟩
  · split at h
    · rename_i range
      cases h
      exact ⟨rfl, rfl, range, rfl⟩
    · cases h
  · cases h

theorem sourceOf_iff (plan : BandPlan) (kind v : Nat) (src : Source) :
    sourceOf plan kind v = some src ↔ src.Named plan kind v := by
  refine ⟨sourceOf_named, fun h => ?_⟩
  cases src with
  | stream n =>
    obtain ⟨rfl, rfl, few⟩ := h
    exact if_pos few
  | tone n =>
    obtain ⟨rfl, rfl, few⟩ := h
    exact if_pos few
  | tunerFrequency f =>
    obtain ⟨rfl, rfl, raster⟩ := h
    exact if_pos raster
  | tunerCode c =>
    obtain ⟨rfl, rfl, coded⟩ := h
    exact if_neg coded
  | leg id reuse =>
    obtain ⟨rfl, rfl, range, rfl⟩ := h
    exact if_pos range

theorem u16At_leg (p : List Byte) (i : Nat) :
    u16At p i / 256 = u8At p i ∧ BitVec.ofNat 8 (u16At p i) = p.getD (i + 1) 0 := by
  have small : ∀ j, u8At p j < 256 := fun j => (p.getD j 0).isLt
  have low := small (i + 1)
  have eq : u16At p i = 256 * u8At p i + u8At p (i + 1) := rfl
  refine ⟨by omega, BitVec.eq_of_toNat_eq ?_⟩
  rw [BitVec.toNat_ofNat, eq]
  show _ = u8At p (i + 1)
  omega

theorem openFields_iff (plan : BandPlan) (p : List Byte) (o : OpenFields) : openFields plan p = some o ↔
    p.length = 9 ∧ u8At p 0 = o.zone.code ∧ u8At p 1 = o.cls.code ∧
    (o.source.Named plan (u8At p 2) (u16At p 3) ∧ allowed o.cls o.source = true) ∧
    o.level = fit (-240) 0 (i16At p 5) ∧ o.ramp = u8At p 7 ∧ o.ramp ≤ 3 ∧ o.duration = min 120 (u8At p 8) ∧
    (o.cls ≠ .alert → u8At p 8 = 0) := by
  constructor
  · intro h
    unfold openFields at h
    split at h
    · cases h
    · rename_i long
      split at h
      · rename_i z k src zone cls source
        split at h
        · cases h
        · rename_i checks
          cases h
          simp only [Bool.or_eq_true, decide_eq_true_eq, Bool.not_eq_true', Bool.and_eq_true, not_or, not_and] at checks
          obtain ⟨⟨ramp, pair⟩, duration⟩ := checks
          exact ⟨not_not.1 long, zoneOf_code zone, (classOf_iff _ _).1 cls, ⟨sourceOf_named source, by simpa using pair⟩, rfl,
            rfl, Nat.le_of_not_lt ramp, rfl, fun e => by_contra fun d => duration d e⟩
      · cases h
  · rintro ⟨long, zone, cls, ⟨source, pair⟩, level, ramp, most, duration, none⟩
    unfold openFields
    rw [if_neg (not_not.2 long), (zoneOf_iff _ _).2 zone, (classOf_iff _ _).2 cls, (sourceOf_iff _ _ _ _).2 source]
    dsimp only
    rw [if_neg]
    · rw [← level, ← ramp, ← duration]
    · simp only [Bool.or_eq_true, decide_eq_true_eq, Bool.not_eq_true', Bool.and_eq_true, not_or, not_and, pair]
      refine ⟨⟨by omega, by simp⟩, fun d e => d (none e)⟩

end Sys2Proof.Machine
end

-- ==== support and settled obligations, part 35 ====
section
/-! SUPPORT. The statement on ROUTE_OPEN. -/

namespace Sys2Proof.Machine

/-- A program shared, in the words of its fields (R65). -/
theorem State.share_eq (s : State) (x : TunerId) :
    (some ((s.share x).1, some x, (s.tuner x).programCondition) : Option (State × Option TunerId × Condition)) =
      some (s.setTuner x { s.tuner x with users := (s.tuner x).users + 1 }, some x,
        if (s.tuner x).retune.isSome then Condition.retune
        else if (s.tuner x).activity = .retune then .sourceAbsent else .available) := rfl

theorem State.serve_frequency_shared {s : State} {f : Nat} {h : Handle} {x : TunerId} (e : s.holder f = some x) :
    s.serve (.tunerFrequency f) h = some ((s.share x).1, some x, (s.tuner x).programCondition) :=
  State.serve_of_claim (State.claim_shared e)

/-- Settles O32: the first state and its cause are those of the route as made, the arbiter keeps the routes, a claim takes a
tuner by its first case that applies, and the payload's fields are read kind by kind. -/
theorem routeOpenCreatesARoute : Obligations.RouteOpenCreatesARoute := by
  refine ⟨fun s c p acc => ⟨fun none => ?_, fun o fields => ⟨fun e leg => ?_, fun leg => ⟨fun full => ?_, fun k free => ?_⟩⟩⟩,
    fun s h => ?_, fun plan p o => ?_⟩
  · exact congrArg Host.Outcome.next (acc.refused (routeOpen_fields none))
  · exact congrArg Host.Outcome.next (acc.refused (routeOpen_leg fields leg))
  · exact congrArg Host.Outcome.next (acc.refused (routeOpen_full fields leg full))
  · intro h
    refine ⟨fun busy => congrArg Host.Outcome.next (acc.refused (routeOpen_busy fields leg free busy)),
      fun v x cond served => ?_⟩
    intro ramp duration rank r first
    obtain ⟨u, run, work, reuse, reused, ranked, ⟨n, m, kept⟩, rises, others⟩ := routeOpen_opens acc fields leg free served
    refine ⟨u, n, run.trans ?_, work, reuse, (s.freeSlot_spec free).1, State.freeSlot_lowest free, ranked, m, ?_, kept.owner,
      kept.zone, kept.cls, kept.source, kept.level, kept.ramp, kept.maxDuration, ?_, kept.tuner, kept.line, ?_, rises, others⟩
    · refine congrArg (fun b => Host.Outcome.next (s.served u .routeOpen c p b)) ?_
      rw [openReply_eq, reused]
      show _ ++ (duration.map u8).getD [] = _
      generalize duration = d
      cases d <;> rfl
    · unfold Route.handle
      rw [kept.slot, kept.reuse, reused]
      rfl
    · rw [kept.rest]
      exact ranked
    · rw [kept.rest]
      rfl
  · intro shares free lone first
    refine ⟨fun f => ⟨fun x held => ?_, fun none => ⟨fun x takes => ?_, fun a b c d => ?_⟩⟩, fun c => ?_, fun src a b => ?_⟩
    · rw [State.serve_frequency_shared (State.holder_eq held.1 held.2)]
      exact s.share_eq x
    · have vacant := State.holder_none none
      rcases takes with ⟨here, order⟩ | ⟨a, b, here, order⟩
      · have served := State.serve_of_claim (h := h) (State.claim_free vacant here order)
        obtain ⟨claims, told⟩ := s.takeTuner_claims x f
        exact ⟨_, _, served, rfl, claims.work, claims.tuner, claims.coded, claims.uncoded, claims.inUse, claims.routes,
          claims.link, claims.watch, claims.scan, claims.search, fun _ => told, fun l => absurd l.1 here⟩
      · have served := State.serve_of_claim (h := h) (State.claim_lone vacant a b ((Tuner.watchOnly_iff _).2 here)
          (fun e k => order e ((Tuner.watchOnly_iff _).1 k)))
        obtain ⟨claims, told, flag⟩ := s.dropWatch_claims x f
        exact ⟨_, _, served, rfl, claims.work, claims.tuner, claims.coded, claims.uncoded, claims.inUse, claims.routes,
          claims.link, claims.watch, claims.scan, claims.search, fun e => absurd here.1 e, fun _ => ⟨told, flag⟩⟩
    · exact State.serve_of_refusal (State.claim_busy (State.holder_none none) a b (fun k => c ((Tuner.watchOnly_iff _).1 k))
        (fun k => d ((Tuner.watchOnly_iff _).1 k)))
    · intro coded
      refine ⟨fun x ⟨here, order⟩ => ?_, fun a b => ?_⟩
      · rw [State.serve_shared (State.codeTarget_tuner ((Tuner.holdsCode_iff _ _).2 here)
          (fun e k => order e ((Tuner.holdsCode_iff _ _).1 k)))]
        exact s.share_eq x
      · obtain ⟨best, unknown⟩ := State.codeTarget_best (s := s) (c := c) (fun k => a ((Tuner.holdsCode_iff _ _).1 k))
          (fun k => b ((Tuner.holdsCode_iff _ _).1 k))
        exact ⟨fun r e => State.serve_best (best r e), fun e => State.serve_waits (unknown e)⟩
    · cases src with
      | tunerFrequency f => exact absurd rfl (a f)
      | tunerCode c => exact absurd rfl (b c)
      | stream _ => rfl
      | tone _ => rfl
      | leg _ _ => rfl
  · rw [openFields_iff]
    obtain ⟨zone, cls, source, level, ramp, duration⟩ := o
    refine and_congr Iff.rfl (and_congr ?_ (and_congr ?_ (and_congr ?_ Iff.rfl)))
    · cases zone <;> rfl
    · cases cls <;> rfl
    · cases source with
      | stream n => simp [Source.Named, allowed, and_assoc]
      | tone n => simp [Source.Named, allowed, and_assoc]
      | tunerFrequency f => simp [Source.Named, allowed, and_assoc]
      | tunerCode c => simp [Source.Named, allowed, and_assoc]
      | leg id reuse =>
        obtain ⟨high, low⟩ := u16At_leg p 3
        simp [Source.Named, allowed, and_assoc, high, low]

end Sys2Proof.Machine
end

-- ==== support and settled obligations, part 36 ====
section
/-! SUPPORT. Notices of a program's condition, and the statement on tuners that settle. -/

namespace Sys2Proof.Machine

/-! ## A notice of a program's condition (R5, R9, R10, R67) -/

/-- A route that has heard a condition and goes by it. -/
def Route.Told (e : State) (c : Condition) (r : Route) : Prop := r.condition = c ∧ r.Fits e

theorem Route.suspend_condition (r : Route) : r.suspend.condition = r.condition := r.ringOff_condition

theorem Route.yieldUp_condition (r : Route) : r.yieldUp.condition = r.condition := Route.aim_condition _ _ _

theorem State.judged_condition (s : State) (rs : List Route) (r : Route) : (s.judged rs r).condition = r.condition := by
  unfold State.judged
  split
  · rfl
  · split
    · split
      · exact r.suspend_condition
      · exact r.yieldUp_condition
      · exact r.yieldUp_condition
      · rfl
    · split
      · exact (s.enterRising_hears r).condition
      · split
        · exact (s.enterRising_hears r).condition
        · exact (s.enterPending_hears r).condition
      · rfl

theorem State.withDuck_condition (s : State) (d : Nat) (r : Route) : (s.withDuck d r).condition = r.condition := by
  rcases s.withDuck_cases d r with e | ⟨-, -, hears⟩
  · rw [e]
  · exact hears.condition

theorem State.refresh_condition (s : State) (r : Route) : (s.refresh r).condition = r.condition := by
  unfold State.refresh
  split
  · split
    · exact (s.enterRising_hears r).condition
    · rfl
  · split
    · exact (s.enterPending_hears r).condition
    · exact (s.enterPending_hears r).condition
    · exact r.suspend_condition
    · rfl
    · rfl

theorem State.notified_condition (s : State) (c : Condition) (r : Route) : (s.notified c r).condition = c := by
  unfold State.notified
  dsimp only
  split
  · exact Route.aim_condition _ _ _
  · exact State.refresh_condition _ _

theorem told_judges (e : State) (c : Condition) : Judges (State.Hears · e) (Route.StaysIn (Route.Told e c)) where
  stays := (fits_arbitrates e).stays
  refl := .refl
  trans := fun _ _ _ h k => h.trans k
  judged := fun s rs r h => ⟨s.judged_keeps rs r, fun ⟨a, f⟩ => ⟨(s.judged_condition rs r).trans a, State.judged_fits h rs r f⟩⟩
  ducked := fun s d r _ => ⟨s.withDuck_keeps d r, fun ⟨a, f⟩ => ⟨(s.withDuck_condition d r).trans a, State.withDuck_fits d r f⟩⟩

/-- After a notice of a program's condition its routes have heard it and go by it (R67). -/
theorem State.notifyTuner_told {s e : State} (h : s.Hears e) (x : TunerId) (c : Condition) :
    ∀ n ∈ (s.notifyTuner x c).routes, n.tuner = some x → n.Told e c := by
  intro n m here
  have told := (told_judges e c).notice_told s h (fun r => r.tuner = some x) (s.notified c) (s.notified_evolves c)
    (s.notified_keeps c) (fun r => ⟨s.notified_condition c r, State.notified_fits h c r⟩)
  obtain ⟨r, -, kept, heard⟩ := forall₂_right told n m
  refine heard (.inl (decide_eq_true ?_))
  rw [← here, kept.tuner]

/-- A tuner's route that has heard AVAILABLE is not left PENDING but for want of a listener (R9, R10). -/
theorem Route.Told.available {s e : State} (h : s.Hears e) {n : Route} (k : n.Told e .available)
    (tuned : n.source.kindCode = 2 ∨ n.source.kindCode = 3) :
    n.condition = .available ∧ (n.state = .pending → s.listener n.zone = false) := by
  obtain ⟨heard, fits⟩ := k
  refine ⟨heard, fun waits => ?_⟩
  have silent := fits.pending waits
  have condition : e.condition n = .available := by
    unfold State.condition
    cases source : n.source with
    | tunerFrequency f => exact heard
    | tunerCode c => exact heard
    | stream _ => rfl
    | tone _ => rfl
    | leg _ _ => rw [source] at tuned; simp [Source.kindCode] at tuned
  unfold State.available at silent
  rw [condition, ← h.listener] at silent
  simpa using silent

/-! ## A program while the arbiter works (R68, R70, R72) -/

/-- A program as it was but for its search, which may have ended or gone on, and for a watch that joined it. -/
structure Tuner.Stands (t u : Tuner) : Prop where
  rest : u = { t with watch := u.watch, search := u.search, af := u.af }
  af : u.af = t.af ∨ (t.search ≠ none ∧ u.af = .idle)
  watch : t.watch = true → u.watch = true

theorem Tuner.Ends.stands {t u : Tuner} (h : t.Ends u) : t.Stands u := by
  rcases h with rfl | ⟨searching, rfl⟩
  · exact ⟨rfl, .inl rfl, id⟩
  · exact ⟨rfl, .inr ⟨searching, rfl⟩, id⟩

variable {s : State}

theorem otherTuner_of_ne {x y : TunerId} (h : x ≠ y) : otherTuner y = x := by
  cases x <;> cases y
  · exact absurd rfl h
  · rfl
  · rfl
  · exact absurd rfl h

theorem State.takeForWatch_program {x y : TunerId} (h : (s.tuner x).role = .program) (free : (s.tuner y).role = .free) (f : Nat) :
    (s.tuner x).Ends ((s.takeForWatch y f).tuner x) := by
  have apart : x ≠ y := fun e => by
    rw [e, free] at h
    cases h
  have takes := s.takeTuner_takes y f 0 true
  have ends := takes.program (by rw [otherTuner_of_ne apart]; exact h)
  rw [otherTuner_of_ne apart] at ends
  unfold State.takeForWatch
  rw [State.tellWatch_tuner]
  exact ends

theorem State.attachWatch_tuner (x y : TunerId) (f : Nat) :
    (s.attachWatch y f).tuner x = if x = y then { s.tuner x with watch := true } else s.tuner x := by
  unfold State.attachWatch
  rw [State.tellWatch_tuner]
  split
  · rename_i e
    rw [e, State.tuner_setTuner_same]
  · rename_i e
    rw [State.tuner_setTuner_ne e]

/-- A WAITING watch that is attached changes of a program at most its watch and a search through a tuner it takes. -/
theorem State.reattachWatch_program {x : TunerId} (h : (s.tuner x).role = .program) :
    (s.tuner x).Stands (s.reattachWatch.tuner x) := by
  have same : (s.tuner x).Stands (s.tuner x) := ⟨rfl, .inl rfl, id⟩
  unfold State.reattachWatch
  split
  · exact same
  · split
    · exact same
    · split
      · rw [State.attachWatch_tuner]
        split
        · exact ⟨rfl, .inl rfl, fun _ => rfl⟩
        · exact same
      · split
        · rename_i free
          exact (State.takeForWatch_program h (y := .t1) free _).stands
        · split
          · rename_i free
            exact (State.takeForWatch_program h (y := .t2) free _).stands
          · exact same

/-- Without a fade phase that ends, a program stands while the arbiter works. -/
theorem State.arbitrate_program {x : TunerId} (still : s.endFades = s) (h : (s.tuner x).role = .program) :
    (s.tuner x).Stands (s.arbitrate.tuner x) := by
  rw [State.arbitrate_eq, still]
  obtain ⟨rest, af, watch⟩ := State.reattachWatch_program h
  have role : (s.reattachWatch.tuner x).role = .program := by rw [rest]; exact h
  have claims := State.assign_program role
  refine ⟨?_, ?_, fun held => ?_⟩
  · rw [claims, rest]
  · rw [claims]
    exact af
  · rw [claims]
    exact watch held

/-! ## A tuner that settles (R67, R77, R83) -/

/-- A tuner's record replaced, AVAILABLE notified, and what follows. -/
def State.settled (s : State) (x : TunerId) (t : Tuner) : State := ((s.setTuner x t).notifyTuner x .available).arbitrate

theorem State.settled_frame (s : State) (x : TunerId) (t : Tuner) : TunerFrame s (s.settled x t) :=
  ((s.setTuner_frame x t).trans (.ofRoute (State.notifyTuner_frame _ x .available))).trans (State.arbitrate_frame _)

theorem State.notifyTuner_tuners (x : TunerId) (c : Condition) : (s.notifyTuner x c).tuners = s.tuners := by
  rw [(s.notifyTuner_frame x c).rest]

theorem State.notifyTuner_tuner (x y : TunerId) (c : Condition) : (s.notifyTuner x c).tuner y = s.tuner y := by
  unfold State.tuner
  rw [s.notifyTuner_tuners]

theorem State.noRetune_iff (s : State) : s.NoRetune ↔ ∀ x, (s.tuner x).retune = none := by
  refine ⟨fun h x => h.tuner x, fun h => ⟨h .t1, h .t2⟩⟩

theorem State.settled_still {x : TunerId} {t : Tuner} (a : t.retune = none)
    (b : (s.tuner (otherTuner x)).retune = none) : ((s.setTuner x t).notifyTuner x .available).NoRetune := by
  rw [State.noRetune_iff]
  intro y
  rw [State.notifyTuner_tuner]
  by_cases e : y = x
  · rw [e, State.tuner_setTuner_same, a]
  · rw [State.tuner_setTuner_ne e, ← otherTuner_of_ne e]
    exact b

/-- A program that settles: its record but for the watch and the search, and its routes (R9, R10, R67). -/
theorem State.settled_spec {x : TunerId} {t : Tuner} (a : t.retune = none) (b : (s.tuner (otherTuner x)).retune = none)
    (program : t.role = .program) : t.Stands ((s.settled x t).tuner x) ∧
      ∀ n ∈ (s.settled x t).routes, n.tuner = some x → n.source.kindCode = 2 ∨ n.source.kindCode = 3 →
        n.condition = .available ∧ (n.state = .pending → s.listener n.zone = false) := by
  have still := State.settled_still a b
  have told := State.notifyTuner_told (s := s.setTuner x t) (e := s) ((State.Hears.refl s).frame (s.setTuner_frame x t)) x .available
  have here : ((s.setTuner x t).notifyTuner x .available).tuner x = t := by
    rw [State.notifyTuner_tuner, State.tuner_setTuner_same]
  refine ⟨?_, fun n m tuned kind => ?_⟩
  · have stands := State.arbitrate_program still.endFades (x := x) (by rw [here]; exact program)
    rw [here] at stands
    exact stands
  · rw [State.settled, State.arbitrate_routes, still.endFades] at m
    exact (told n m tuned).available (.refl s) kind

/-! ## The pairing that settling finds or makes (R74) -/

theorem State.pairReady_of {x : TunerId} (diversity : s.tuners.policy.diversity = true) (scan : s.tuners.policy.scan ≠ .full)
    (out : s.sup.state ≠ .quiet) (program : (s.tuner x).role = .program) (free : (s.tuner (otherTuner x)).role = .free)
    (alone : (s.tuner x).usesOther = false) : s.pairReady = some (x, otherTuner x) := by
  unfold State.pairReady
  rw [if_pos (by simp [diversity, scan, out])]
  cases x with
  | t1 =>
    have one : s.tuners.t1.role = .program := program
    have two : s.tuners.t2.role = .free := free
    have uses : s.tuners.t1.usesOther = false := alone
    rw [if_pos (by simp [one, two, uses])]
    rfl
  | t2 =>
    have one : s.tuners.t1.role = .free := free
    have two : s.tuners.t2.role = .program := program
    have uses : s.tuners.t2.usesOther = false := alone
    rw [if_neg (by simp [one]), if_pos (by simp [one, two, uses])]
    rfl

theorem State.settlePairing_starts {m p : TunerId} (link : s.tuners.link = .none ∨ s.tuners.link = .requested)
    (ready : s.pairReady = some (m, p)) (idle : (s.tuner p).activity = .none) :
    s.settlePairing = s.startPairing m p := by
  have met : s.meetPartner m p = s.startPairing m p := by
    unfold State.meetPartner
    rw [idle]
  unfold State.settlePairing
  rcases link with link | link
  · rw [link]
    dsimp only
    rw [ready]
    exact met
  · rw [link]
    dsimp only
    rw [ready]
    exact met

theorem State.startPairing_spec (m p : TunerId) :
    (s.startPairing m p).tuner p = { s.tuner p with role := .partner, activity := .partnerHold, partnerOf := some m } ∧
      (s.startPairing m p).tuners.link = .paired ∧
      (s.startPairing m p).tuners.interval =
        if s.tuners.policy.scan = .interleaved then some (1000 * s.tuners.policy.interval) else none := by
  cases p <;> exact ⟨rfl, rfl, rfl⟩

theorem State.WatchSettled.ofTuners {s t : State} (h : s.WatchSettled) (watch : t.tuners.watch = s.tuners.watch)
    (tuners : ∀ y, (t.tuner y).watch = (s.tuner y).watch) : t.WatchSettled := by
  have one : t.tuners.t1.watch = s.tuners.t1.watch := tuners .t1
  have two : t.tuners.t2.watch = s.tuners.t2.watch := tuners .t2
  unfold State.WatchSettled
  rw [watch, one, two]
  exact h

theorem Tuner.usesOther_of_still {t : Tuner} (a : t.search = none) (b : t.retune = none) : t.usesOther = false := by
  unfold Tuner.usesOther Tuner.checksThrough
  rw [a, b]
  rfl

/-- With diversity, and the other tuner FREE in NONE, a program that settles finds or makes its pairing (R74). -/
theorem State.settled_pairs {x : TunerId} {t : Tuner} (still : s.NoRetune) (a : t.retune = none) (watch : t.watch = (s.tuner x).watch)
    (program : t.role = .program) (search : t.search = none) (settled : s.WatchSettled)
    (diversity : s.tuners.policy.diversity = true) (scan : s.tuners.policy.scan ≠ .full) (out : s.sup.state ≠ .quiet)
    (link : s.tuners.link = .none ∨ s.tuners.link = .requested) (free : (s.tuner (otherTuner x)).role = .free)
    (idle : (s.tuner (otherTuner x)).activity = .none) (quietOther : (s.tuner (otherTuner x)).search = none) :
    (s.settled x t).tuner (otherTuner x) =
        { s.tuner (otherTuner x) with role := .partner, activity := .partnerHold, partnerOf := some x } ∧
      (s.settled x t).tuners.link = .paired ∧
      (s.settled x t).tuners.interval =
        if s.tuners.policy.scan = .interleaved then some (1000 * s.tuners.policy.interval) else none := by
  let v := (s.setTuner x t).notifyTuner x .available
  have tuners : v.tuners = (s.setTuner x t).tuners := State.notifyTuner_tuners x .available
  have noRetune : v.NoRetune := State.settled_still a (still.tuner _)
  have here : v.tuner x = t := by
    rw [show v.tuner x = _ from State.notifyTuner_tuner x x .available, State.tuner_setTuner_same]
  have other : v.tuner (otherTuner x) = s.tuner (otherTuner x) := by
    rw [show v.tuner _ = _ from State.notifyTuner_tuner x _ .available, State.tuner_setTuner_other]
  obtain ⟨watch', link', -⟩ := State.setTuner_shared (s := s) x t
  have frame := (s.setTuner_frame x t).trans (.ofRoute (State.notifyTuner_frame (s.setTuner x t) x .available))
  have policy : v.tuners.policy = s.tuners.policy := by
    rw [show v.tuners.policy = _ from congrArg Tuners.policy (congrArg State.tuners frame.rest)]
  have waits : v.WatchSettled := settled.ofTuners (by rw [tuners, watch']) (fun y => by
    by_cases e : y = x
    · rw [e, here, watch]
    · rw [← otherTuner_of_ne e, other])
  have links : v.tuners.link = .none ∨ v.tuners.link = .requested := by
    rw [tuners, link']
    exact link
  have quiet : ∀ y, (v.tuner y).search = none := fun y => by
    by_cases e : y = x
    · rw [e, here, search]
    · rw [← otherTuner_of_ne e, other, quietOther]
  have ready : v.pairReady = some (x, otherTuner x) := State.pairReady_of (by rw [policy, diversity]) (by rw [policy]; exact scan)
    (by rw [frame.sup]; exact out) (by rw [here, program]) (by rw [other, free])
    (by rw [here]; exact Tuner.usesOther_of_still search a)
  have made : s.settled x t = v.startPairing x (otherTuner x) := by
    rw [State.settled, State.arbitrate_eq, noRetune.endFades, waits.reattachWatch,
      State.assign_of_quiet (quiet .t1) (quiet .t2), State.settlePairing_starts links ready (by rw [other, idle])]
  obtain ⟨partner, paired, interval⟩ := State.startPairing_spec (s := v) x (otherTuner x)
  rw [made, partner, other, interval, policy]
  exact ⟨rfl, paired, rfl⟩

/-! ## The statement -/

theorem State.acquisitionSettle_idle {x : TunerId}
    (h : (s.tuner x).role ≠ .program ∨ (s.tuner x).activity ≠ .retune ∨ (s.tuner x).retune ≠ none) :
    s.acquisitionSettle x = s := by
  unfold State.acquisitionSettle
  dsimp only
  refine if_neg (fun all => ?_)
  simp only [Bool.and_eq_true, decide_eq_true_eq, Option.isNone_iff_eq_none] at all
  obtain ⟨⟨role, activity⟩, retune⟩ := all
  rcases h with h | h | h
  · exact h role
  · exact h activity
  · exact h retune

theorem State.acquisitionSettle_settles {x : TunerId} (role : (s.tuner x).role = .program)
    (activity : (s.tuner x).activity = .retune) (retune : (s.tuner x).retune = none) :
    s.acquisitionSettle x = s.settled x { s.tuner x with activity := .dwell } := by
  unfold State.acquisitionSettle
  exact if_pos (by simp [role, activity, retune])

/-- Whether a retune awaits a confirmation (R83). -/
def RetuneKind.confirms (k : RetuneKind) : Bool :=
  match k with
  | .switch _ confirm => confirm
  | _ => false

/-- The record of a program after a switch or revert (R77, R83). -/
def Tuner.retuned (t : Tuner) (k : RetuneKind) : Tuner :=
  let there := { t with activity := .dwell, retune := none, prevArea := none }
  if k.confirms && t.af = .searching then { there with af := .confirming }
  else { there with af := .idle, streak := 0, oldFrequency := none }

theorem State.retuneSettle_settles {x : TunerId} {k : RetuneKind} (activity : (s.tuner x).activity = .retune)
    (retune : (s.tuner x).retune = some ⟨k, true⟩) (moves : ∀ c, k ≠ .jump c) :
    s.retuneSettle x = s.settled x ((s.tuner x).retuned k) := by
  unfold State.retuneSettle
  dsimp only
  rw [activity, retune]
  cases k with
  | jump c => exact absurd rfl (moves c)
  | switch dest confirm => rfl
  | revert dest decoded => rfl

theorem Tuner.retuned_spec (t : Tuner) (k : RetuneKind) :
    (t.retuned k).activity = .dwell ∧ (t.retuned k).retune = none ∧ (t.retuned k).prevArea = none ∧
      (t.retuned k).frequency = t.frequency ∧ (t.retuned k).role = t.role ∧ (t.retuned k).search = t.search := by
  unfold Tuner.retuned
  dsimp only
  split <;> exact ⟨rfl, rfl, rfl, rfl, rfl, rfl⟩

theorem Tuner.retuned_confirming (t : Tuner) (f : Nat) (h : t.af = .searching) :
    (t.retuned (.switch f true)).af = .confirming ∧ (t.retuned (.switch f true)).oldFrequency = t.oldFrequency := by
  unfold Tuner.retuned RetuneKind.confirms
  dsimp only
  rw [if_pos (by simp [h])]
  exact ⟨rfl, rfl⟩

theorem Tuner.retuned_done (t : Tuner) (k : RetuneKind) (h : (∀ f, k ≠ .switch f true) ∨ t.af ≠ .searching) :
    (t.retuned k).af = .idle ∧ (t.retuned k).streak = 0 ∧ (t.retuned k).oldFrequency = none := by
  have no : ¬(k.confirms && t.af = .searching) = true := by
    intro both
    simp only [Bool.and_eq_true, decide_eq_true_eq] at both
    obtain ⟨confirms, searching⟩ := both
    rcases h with h | h
    · cases k with
      | switch f confirm => exact h f (congrArg (RetuneKind.switch f) confirms)
      | jump _ => cases confirms
      | revert _ _ => cases confirms
    · exact h searching
  unfold Tuner.retuned
  rw [if_neg no]
  exact ⟨rfl, rfl, rfl⟩

/-- Settles O38: a record replaced, AVAILABLE notified and the arbiter's work leave the program as it settled. -/
theorem tunersSettle : Obligations.TunersSettle := by
  refine ⟨fun s x works => ⟨fun idle => ?_, fun role activity retune => ?_⟩,
    fun s x k works activity retune role other search moves => ?_⟩
  · exact congrArg Host.Outcome.next ((s.unlessHeld_works works _).trans (State.acquisitionSettle_idle idle))
  · have run : exec (.acquisitionSettle x) s = .next (s.settled x { s.tuner x with activity := .dwell }) :=
      congrArg Host.Outcome.next
        ((s.unlessHeld_works works _).trans (State.acquisitionSettle_settles role activity retune))
    refine ⟨_, run, (s.settled_frame x _).work, fun still => ?_, ?_⟩
    · obtain ⟨⟨rest, -, -⟩, routes⟩ := State.settled_spec (t := { s.tuner x with activity := .dwell }) retune (still.tuner _) role
      exact ⟨by rw [rest], by rw [rest], by rw [rest], routes⟩
    · intro o still settled diversity scan out link search free idle none
      exact State.settled_pairs still retune rfl role search settled diversity scan out link free idle none
  · have run : exec (.retuneSettle x) s = .next (s.settled x ((s.tuner x).retuned k)) :=
      congrArg Host.Outcome.next ((s.unlessHeld_works works _).trans (State.retuneSettle_settles activity retune moves))
    obtain ⟨dwell, ended, area, frequency, program, searches⟩ := (s.tuner x).retuned_spec k
    obtain ⟨⟨rest, af, -⟩, routes⟩ := State.settled_spec ended other (program.trans role)
    have af := af.resolve_right (fun ended => ended.1 (searches.trans search))
    refine ⟨_, run, (s.settled_frame x _).work, ?_, ?_, ?_, ?_, fun f e searching => ?_, fun done => ?_, routes⟩
    · rw [rest]
      exact dwell
    · rw [rest]
      exact ended
    · rw [rest]
      exact area
    · rw [rest]
      exact frequency
    · obtain ⟨confirming, old⟩ := (s.tuner x).retuned_confirming f searching
      rw [← e] at confirming old
      refine ⟨af.trans confirming, ?_⟩
      rw [rest]
      exact old
    · obtain ⟨idle, streak, old⟩ := (s.tuner x).retuned_done k done
      refine ⟨af.trans idle, ?_, ?_⟩
      · rw [rest]
        exact streak
      · rw [rest]
        exact old

end Sys2Proof.Machine
end

-- ==== support and settled obligations, part 37 ====
section
/-! SUPPORT. Slot marks only join while the Route Table and the Allocator work (R33, R177). -/

namespace Sys2Proof.Machine

/-! ## Work of tuners and stations that marks no slot -/

section
variable (s : State)

@[simp] theorem State.raiseIf_mask (c : Bool) (e : EventSource) : (s.raiseIf c e).events.mask = s.events.mask := by
  cases c <;> rfl

theorem State.joinInUse_mask (f : Nat) : (s.joinInUse f).events.mask = s.events.mask := by
  unfold State.joinInUse State.ensureStation State.insertStation State.reportFull
  split
  · rfl
  · split
    · rfl
    · split
      · split <;> rfl
      · rfl

theorem State.takeTuner_mask (x : TunerId) (f users : Nat) (watch : Bool) :
    (s.takeTuner x f users watch).events.mask = s.events.mask := by
  unfold State.takeTuner
  extract_lets s1 s2 s3 s4 code
  have scan : (s.cancelScan x).events = s.events := by
    unfold State.cancelScan
    split <;> simp
  have check : ∀ t : State, (t.cancelCheck x).events = t.events := fun t => by
    unfold State.cancelCheck
    split <;> simp
  have abort : ∀ t : State, (t.abortSearchBy x).events = t.events := fun t => by
    unfold State.abortSearchBy
    dsimp only
    split
    · split <;> simp
    · rfl
  have one : s1.events = s.events := by rw [show s1.events = _ from abort _, check, scan]
  have two : s2.events = s1.events := by
    unfold s2
    split <;> rfl
  have three : s3.events = s2.events := by
    unfold s3
    split <;> rfl
  rw [State.setTuner_events, show s4.events.mask = s3.events.mask from s3.joinInUse_mask f, three, two, one]

theorem State.takeForWatch_mask (x : TunerId) (f : Nat) : (s.takeForWatch x f).events.mask = s.events.mask :=
  s.takeTuner_mask x f 0 true

theorem State.attachWatch_mask (x : TunerId) (f : Nat) : (s.attachWatch x f).events.mask = s.events.mask := by
  unfold State.attachWatch State.tellWatch
  simp

theorem State.reattachWatch_mask : s.reattachWatch.events.mask = s.events.mask := by
  unfold State.reattachWatch
  split
  · rfl
  · split
    · rfl
    · split
      · exact s.attachWatch_mask _ _
      · split
        · exact s.takeForWatch_mask _ _
        · split
          · exact s.takeForWatch_mask _ _
          · rfl

theorem State.moveProgram_mask (x : TunerId) (k : RetuneKind) (dest : Nat) (confirm : Bool) :
    (s.moveProgram x k dest confirm).events.mask = s.events.mask := by
  unfold State.moveProgram
  extract_lets t s1 s2 u s3 src s4
  have one : s1.events = s.events := by
    unfold s1
    split <;> rfl
  have four : s4.events = s3.events := by
    unfold s4
    split <;> rfl
  have streak : (s4.holdStreak x).events = s4.events := by
    unfold State.holdStreak
    dsimp only
    rw [apply_ite State.events, State.setTuner_events, ite_self]
  rw [State.raise_mask, streak, four, show s3.events = s2.events from State.setTuner_events _ _ _,
    show s2.events.mask = s1.events.mask from s1.joinInUse_mask dest, one]

theorem State.beginCheck_events (x : TunerId) : (s.beginCheck x).events = s.events := by
  unfold State.beginCheck
  dsimp only
  split
  · split <;> simp
  · rfl

theorem State.meetPartner_events (m p : TunerId) : (s.meetPartner m p).events = s.events := by
  have starts : ∀ t : State, (t.startPairing m p).events = t.events := fun t => by simp [State.startPairing]
  unfold State.meetPartner
  split
  · exact starts s
  · split
    · rw [starts]
      unfold State.cancelScan
      split <;> simp
    · rfl
  · rfl

theorem State.settlePairing_events : s.settlePairing.events = s.events := by
  unfold State.settlePairing
  split
  · split
    · exact s.meetPartner_events _ _
    · rfl
  · split
    · exact s.meetPartner_events _ _
    · rfl
  · rfl

theorem State.assign_events : s.assign.events = s.events := by
  unfold State.assign
  rw [State.settlePairing_events, State.beginCheck_events, State.beginCheck_events]

end

/-! ## Marks join (R33) -/

/-- The slots marked stay marked. -/
def State.MarksStay (s t : State) : Prop := ∀ i, s.events.mask.getLsbD i = true → t.events.mask.getLsbD i = true

namespace State.MarksStay

variable {s t u : State}

theorem of (h : t.events.mask = s.events.mask) : s.MarksStay t := fun i k => by rw [h]; exact k

theorem refl (s : State) : s.MarksStay s := fun _ => id

theorem trans (h : s.MarksStay t) (k : t.MarksStay u) : s.MarksStay u := fun i m => k i (h i m)

theorem foldl {α : Type} (f : State → α → State) (h : ∀ (t : State) (a : α), t.MarksStay (f t a)) (xs : List α) (s : State) :
    s.MarksStay (xs.foldl f s) := by
  induction xs generalizing s with
  | nil => exact .refl s
  | cons a xs ih => exact (h s a).trans (ih _)

end State.MarksStay

section
variable (s : State)

theorem State.markSlots_mask (m : BitVec 24) : (s.markSlots m).events.mask = s.events.mask ||| m := by
  unfold State.markSlots
  split
  · rename_i e
    rw [e]
    exact BitVec.or_zero.symm
  · rfl

theorem State.markSlots_stay (m : BitVec 24) : s.MarksStay (s.markSlots m) := fun i k => by
  rw [s.markSlots_mask, BitVec.getLsbD_or, k, Bool.true_or]

theorem State.putRoutes_mask (rs : List Route) : (s.putRoutes rs).events.mask = s.events.mask := by
  unfold State.putRoutes State.referenceChange
  dsimp only
  split
  · exact State.raiseIf_mask _ _ _
  · rfl

theorem State.commitRoutes_stay (rs : List Route) : s.MarksStay (s.commitRoutes rs) :=
  (State.MarksStay.of (s.putRoutes_mask rs)).trans (State.markSlots_stay _ _)

theorem State.rerun_stay (d : Domain) : s.MarksStay (s.rerun d) := s.commitRoutes_stay _

theorem State.rerunAll_stay (ds : List Domain) : s.MarksStay (s.rerunAll ds) :=
  .foldl _ (fun t d => by
    split
    · exact t.rerun_stay d
    · exact .refl t) _ s

theorem State.notice_stay (p : Route → Bool) (f : Route → Route) : s.MarksStay (s.notice p f) :=
  (s.commitRoutes_stay _).trans (State.rerunAll_stay _ _)

theorem State.setTuner_stay (x : TunerId) (t : Tuner) : s.MarksStay (s.setTuner x t) := .of (by simp)

theorem State.abandonRetune_stay (x : TunerId) : s.MarksStay (s.abandonRetune x) :=
  (s.setTuner_stay x _).trans (State.notice_stay _ _ _)

theorem State.beginTuning_stay (x : TunerId) (k : RetuneKind) : s.MarksStay (s.beginTuning x k) := by
  have told : s.MarksStay (s.notifyTuner x .retune) := s.notice_stay _ _
  unfold State.beginTuning
  cases k with
  | jump f => exact told.trans (State.setTuner_stay _ _ _)
  | switch dest confirm =>
    dsimp only
    split
    · exact (s.setTuner_stay x _).trans (State.abandonRetune_stay _ _)
    · exact told.trans (.of (State.moveProgram_mask _ _ _ _ _))
  | revert dest decoded =>
    dsimp only
    split
    · exact (s.setTuner_stay x _).trans (State.abandonRetune_stay _ _)
    · exact told.trans (.of (State.moveProgram_mask _ _ _ _ _))

theorem State.endFade_stay (x : TunerId) : s.MarksStay (s.endFade x) := by
  unfold State.endFade
  split
  · split
    · exact s.beginTuning_stay x _
    · exact .refl s
  · exact .refl s

theorem State.arbitrate_stay : s.MarksStay s.arbitrate := by
  have ended : s.MarksStay s.endFades :=
    ((s.endFade_stay .t1).trans (State.endFade_stay _ .t2)).trans (State.endFade_stay _ .t1)
  rw [s.arbitrate_eq]
  exact (ended.trans (.of (State.reattachWatch_mask _))).trans (.of (congrArg Events.mask (State.assign_events _)))

end

end Sys2Proof.Machine
end

-- ==== support and settled obligations, part 38 ====
section
/-! SUPPORT. A step of a ramp while no fade phase ends. -/

namespace Sys2Proof.Machine

variable {s : State}

/-! ## One step of a ramp (R51) -/

/-- What a ramp counts toward: MUTE is aimed at as -385 q (R51). -/
def Gain.aimed (g : Gain) : Int :=
  match g with
  | .mute => -385
  | .q v => v

section
variable {r : Route} {a : Int} {g : Gain}

/-- A step short of the target moves the applied gain. -/
theorem Route.rampStep_moves (h : r.applied = .q a) (k : r.target = some g) (short : stepToward g.aimed a ≠ g.aimed) :
    r.rampStep = { r with applied := .q (stepToward g.aimed a) } := by
  unfold Route.rampStep
  rw [h, k]
  cases g with
  | mute => exact if_neg short
  | q v => exact if_neg short

/-- One that reaches it ends the ramp. -/
theorem Route.rampStep_reaches (h : r.applied = .q a) (k : r.target = some g) (there : stepToward g.aimed a = g.aimed) :
    r.rampStep = { r with applied := g, running := false }.rampEnded := by
  unfold Route.rampStep
  rw [h, k]
  cases g with
  | mute => exact if_pos there
  | q v =>
    refine (if_pos there).trans ?_
    rw [show stepToward v a = v from there]

end

/-! ## The state after a step (R8, R13) -/

theorem onSlot_filter (slot : Nat) (f : Route → Route) (keep : ∀ r, (f r).slot = r.slot) (rs : List Route) :
    (onSlot slot f rs).filter (fun x => x.slot ≠ slot) = rs.filter (fun x => x.slot ≠ slot) := by
  unfold onSlot
  induction rs with
  | nil => rfl
  | cons x xs ih =>
    rw [List.map_cons, List.filter_cons, List.filter_cons, ih]
    by_cases e : x.slot = slot
    · rw [if_pos e, if_neg (by simp [keep, e]), if_neg (by simp [e])]
    · rw [if_neg e]

theorem Route.rampStep_slot (r : Route) : r.rampStep.slot = r.slot := r.rampStep_keeps.slot

/-- The table with one ramp stepped. -/
def State.stepped (s : State) (slot : Nat) : State := s.putRoutes (onSlot slot Route.rampStep s.routes)

theorem State.stepped_frame (s : State) (slot : Nat) : RouteFrame s (s.stepped slot) :=
  s.putRoutes_frame _ (onSlot_each _ _ _ (fun x _ _ => x.rampStep_evolves))

theorem State.stepped_routes (s : State) (slot : Nat) : (s.stepped slot).routes = onSlot slot Route.rampStep s.routes := by
  unfold State.stepped
  simp

theorem State.stepped_tuner (s : State) (slot : Nat) (x : TunerId) : (s.stepped slot).tuner x = s.tuner x := by
  unfold State.tuner
  rw [(s.stepped_frame slot).rest]

section
variable {r : Route} (o : Rising s.routes) (m : r ∈ s.routes)
include o m

theorem State.stepped_routeIn : (s.stepped r.slot).routeIn r.slot = some r.rampStep := by
  have rising : Rising (s.stepped r.slot).routes := by
    rw [s.stepped_routes]
    exact rising_of_map (onSlot_slots _ _ _ (fun x => x.rampStep_slot)) o
  have there : r.rampStep ∈ (s.stepped r.slot).routes := by
    rw [s.stepped_routes]
    exact List.mem_map.2 ⟨r, m, if_pos rfl⟩
  have found := State.routeIn_eq rising there
  rw [r.rampStep_slot] at found
  exact found

theorem State.rampStepSlot_stepped (h : r.running = true) (k : r.state ≠ .closing ∨ r.rampStep.applied ≠ .mute) :
    s.rampStepSlot r.slot = s.stepped r.slot := by
  unfold State.rampStepSlot
  rw [State.routeIn_eq o m]
  dsimp only
  rw [if_pos h, if_neg]
  · rfl
  · intro both
    simp only [Bool.and_eq_true, decide_eq_true_eq] at both
    rcases k with k | k
    · exact k both.1
    · exact k both.2

theorem State.rampStepSlot_removed (h : r.running = true) (k : r.state = .closing) (l : r.rampStep.applied = .mute) :
    s.rampStepSlot r.slot = ((s.stepped r.slot).removeRoute r.slot true).rerun r.zone.domain := by
  unfold State.rampStepSlot
  rw [State.routeIn_eq o m]
  dsimp only
  rw [if_pos h, if_pos (by simp [k, l])]
  rfl

end

/-! ## Fade phases that go on (R77) -/

theorem State.fadeDone_iff (s : State) (x : TunerId) : s.fadeDone x = true ↔
    ∀ y ∈ s.routes, y.tuner = some x → y.fadeMark = true → y.applied = .mute := by
  unfold State.fadeDone
  rw [List.all_eq_true]
  refine forall₂_congr (fun y _ => ?_)
  simp only [Bool.not_eq_true', Bool.and_eq_false_imp, Bool.and_eq_true, decide_eq_true_eq, decide_eq_false_iff_not, not_not]
  exact ⟨fun h a b => h ⟨a, b⟩, fun h ⟨a, b⟩ => h a b⟩

/-- Where a marked route still sounds in every fade phase, none ends (R77). -/
theorem State.endFades_waits (h : ∀ x k, (s.tuner x).retune = some ⟨k, false⟩ → s.fadeDone x = false) : s.endFades = s := by
  have one : ∀ x, s.endFade x = s := fun x => by
    unfold State.endFade
    split
    · rename_i k e
      rw [if_neg (by simp [h x k e])]
    · rfl
  unfold State.endFades
  rw [one, one, one]

/-- After a step fade phases go on where a marked route sounds that the step does not bring to MUTE. -/
theorem State.stepped_fades {r : Route} {a : Int} {g : Gain} (o : Rising s.routes) (m : r ∈ s.routes) (h : r.applied = .q a)
    (k : r.target = some g) (goOn : ∀ x k, (s.tuner x).retune = some ⟨k, false⟩ → ∃ y ∈ s.routes,
      y.tuner = some x ∧ y.fadeMark = true ∧ y.applied ≠ .mute ∧ (y.slot = r.slot → stepToward g.aimed a ≠ g.aimed)) :
    (s.stepped r.slot).endFades = s.stepped r.slot := by
  refine State.endFades_waits (fun x kind fading => ?_)
  rw [State.stepped_tuner] at fading
  obtain ⟨y, my, tuned, marked, sounds, short⟩ := goOn x kind fading
  rw [← Bool.not_eq_true, State.fadeDone_iff, State.stepped_routes]
  intro done
  by_cases e : y.slot = r.slot
  · obtain rfl := o.unique y my r m e
    have moved := Route.rampStep_moves h k (short rfl)
    have mute := done y.rampStep (List.mem_map.2 ⟨y, m, if_pos rfl⟩) (by rw [moved]; exact tuned) (by rw [moved]; exact marked)
    rw [moved] at mute
    cases mute
  · exact sounds (done y (List.mem_map.2 ⟨y, my, if_neg e⟩) tuned marked)

theorem exec_rampStep (works : s.Works) (slot : Nat) : exec (.rampStep slot) s = .next (s.rampStepSlot slot).arbitrate :=
  congrArg Host.Outcome.next (s.unlessHeld_works works _)

/-- Where no ramp runs in the slot, only the arbiter works (log entry 6). -/
theorem rampStep_idle (slot : Nat) (works : s.Works) (still : ∀ r ∈ s.routes, r.slot = slot → r.running = false) :
    ∃ t, exec (.rampStep slot) s = .next t ∧ s.TunerWork t := by
  have idle : s.rampStepSlot slot = s := by
    unfold State.rampStepSlot
    split
    · rfl
    · rename_i r found
      obtain ⟨m, e⟩ := s.routeIn_mem found
      rw [if_neg (by simp [still r m e])]
  refine ⟨s.arbitrate, ?_, s.arbitrate_frame.work⟩
  rw [exec_rampStep works, idle]

/-- A step that removes no route, while no fade phase ends: the route as its step leaves it, the others as they were. -/
theorem rampStep_inPlace {r : Route} {a : Int} {g : Gain} (o : Rising s.routes) (m : r ∈ s.routes) (h : r.applied = .q a)
    (k : r.target = some g) (running : r.running = true) (stays : r.state ≠ .closing ∨ r.rampStep.applied ≠ .mute)
    (goOn : ∀ x k, (s.tuner x).retune = some ⟨k, false⟩ → ∃ y ∈ s.routes,
      y.tuner = some x ∧ y.fadeMark = true ∧ y.applied ≠ .mute ∧ (y.slot = r.slot → stepToward g.aimed a ≠ g.aimed)) :
    (s.rampStepSlot r.slot).arbitrate.routeIn r.slot = some r.rampStep ∧
      (s.rampStepSlot r.slot).arbitrate.routes.filter (fun x => x.slot ≠ r.slot) =
        s.routes.filter (fun x => x.slot ≠ r.slot) := by
  have routes : (s.rampStepSlot r.slot).arbitrate.routes = (s.stepped r.slot).routes := by
    rw [State.arbitrate_routes, State.rampStepSlot_stepped o m running stays, State.stepped_fades o m h k goOn]
  refine ⟨?_, ?_⟩
  · have found := State.stepped_routeIn o m
    unfold State.routeIn at found ⊢
    rw [routes]
    exact found
  · rw [routes, State.stepped_routes, onSlot_filter _ _ (fun x => x.rampStep_slot)]

theorem slotBit_get {slot : Nat} (h : 1 ≤ slot ∧ slot ≤ 24) : (slotBit slot).getLsbD (slot - 1) = true := by
  unfold slotBit
  rw [if_pos h.1, BitVec.getLsbD_shiftLeft]
  simp
  omega

/-- A removal that marks marks its slot (R33). -/
theorem State.removeRoute_marks {slot : Nat} {r : Route} (h : s.routeIn slot = some r) (range : 1 ≤ slot ∧ slot ≤ 24) :
    (s.removeRoute slot true).events.mask.getLsbD (slot - 1) = true := by
  unfold State.removeRoute
  rw [h]
  dsimp only
  rw [if_pos rfl, State.markSlots_mask, BitVec.getLsbD_or, slotBit_get range, Bool.or_true]

theorem State.routeIn_none_of_names {t : State} {slot : Nat} {ids : List RouteIdentity}
    (h : t.routes.map Route.identity = ids.filter (fun i => i.handle.slot ≠ slot)) : t.routeIn slot = none := by
  refine State.routeIn_none (fun n mn e => ?_)
  have there : n.identity ∈ t.routes.map Route.identity := List.mem_map.2 ⟨n, mn, rfl⟩
  rw [h] at there
  have apart := of_decide_eq_true (List.mem_filter.1 there).2
  exact apart e

/-- A CLOSING route whose ramp ends is removed: its slot is free and marked, and its reuse count one higher (R13, R33). -/
theorem rampStep_removes {r : Route} (o : Rising s.routes) (m : r ∈ s.routes) (running : r.running = true)
    (closing : r.state = .closing) (mute : r.rampStep.applied = .mute) :
    (s.rampStepSlot r.slot).arbitrate.routeIn r.slot = none ∧
      tabGet (s.rampStepSlot r.slot).arbitrate.reuse (r.slot - 1) 0 = tabGet s.reuse (r.slot - 1) 0 + 1 ∧
      (s.rampStepSlot r.slot).arbitrate.routes.map Route.identity =
        (s.routes.filter (fun x => x.slot ≠ r.slot)).map Route.identity ∧
      (s.rampStepSlot r.slot).arbitrate.events.mask.getLsbD (r.slot - 1) = true := by
  have range := o.2 r m
  have stepped := s.stepped_frame r.slot
  have found := State.stepped_routeIn o m
  let u := (s.stepped r.slot).removeRoute r.slot true
  have judged := u.rerun_frame r.zone.domain
  have work := State.arbitrate_frame (u.rerun r.zone.domain)
  have names : (u.rerun r.zone.domain).arbitrate.routes.map Route.identity =
      (s.routes.map Route.identity).filter (fun i => i.handle.slot ≠ r.slot) := by
    rw [work.each.names, judged.each.names, State.removeRoute_names, stepped.each.names]
  have reuse : (u.rerun r.zone.domain).arbitrate.reuse = u.reuse := work.reuse.trans judged.reuse
  rw [State.rampStepSlot_removed o m running closing mute]
  refine ⟨State.routeIn_none_of_names names, ?_, ?_, ?_⟩
  · rw [reuse, State.removeRoute_reuse _ found, stepped.reuse, tabGet_tabSet, if_pos ⟨rfl, by omega⟩]
  · rw [names, ← names_filter (p := fun x => x.slot ≠ r.slot) (q := fun i => i.handle.slot ≠ r.slot) (fun _ => rfl)]
  · exact State.arbitrate_stay _ _ (u.rerun_stay _ _ (State.removeRoute_marks found range))

/-! ## What a ramp's end makes of a route (R8, R13, R15) -/

section
variable {r : Route} {a : Int} {g : Gain} (h : r.applied = .q a) (k : r.target = some g)
  (there : stepToward g.aimed a = g.aimed)
include h k there

theorem Route.rampStep_rises (state : r.state = .rising) (mark : r.fadeMark = false) :
    r.rampStep = { r with applied := g, running := false, state := .playing } := by
  rw [Route.rampStep_reaches h k there]
  unfold Route.rampEnded
  simp [state, mark]

theorem Route.rampStep_stands (state : r.state = .playing ∨ (r.state = .rising ∧ r.fadeMark = true)) :
    r.rampStep = { r with applied := g, running := false } := by
  rw [Route.rampStep_reaches h k there]
  unfold Route.rampEnded
  rcases state with state | ⟨state, mark⟩
  · simp [state]
  · simp [state, mark]

theorem Route.rampStep_suspends (state : r.state = .yielding) (leaving : g = .mute) :
    r.rampStep.state = .suspended ∧ r.rampStep.applied = .mute ∧ r.rampStep.target = none ∧ r.rampStep.running = false := by
  rw [Route.rampStep_reaches h k there]
  unfold Route.rampEnded
  simp [state, leaving]

theorem Route.rampStep_closes (state : r.state = .closing) (leaving : g = .mute) : r.rampStep.applied = .mute := by
  rw [Route.rampStep_reaches h k there]
  unfold Route.rampEnded
  simp [state, leaving]

end

/-- A step of a running ramp (R8, R13, R51). -/
theorem rampStep_steps (s : State) (r : Route) (a : Int) (target : Gain) (o : Rising s.routes) (m : r ∈ s.routes)
    (consistent : r.Consistent) (running : r.running = true) (applied : r.applied = .q a) (aimed : r.target = some target) :
    let b := stepToward target.aimed a
    let others := s.routes.filter (fun x => x.slot ≠ r.slot)
    let t := (s.rampStepSlot r.slot).arbitrate
    (∀ x k, (s.tuner x).retune = some ⟨k, false⟩ → ∃ y ∈ s.routes,
      y.tuner = some x ∧ y.fadeMark = true ∧ y.applied ≠ .mute ∧ (y.slot = r.slot → b ≠ target.aimed)) →
    (b ≠ target.aimed → ∃ n, t.routeIn r.slot = some n ∧ n = { r with applied := .q b } ∧
      t.routes.filter (fun x => x.slot ≠ r.slot) = others) ∧
    (b = target.aimed → r.state = .rising → r.fadeMark = false →
      t.routeIn r.slot = some { r with applied := target, running := false, state := .playing } ∧
      t.routes.filter (fun x => x.slot ≠ r.slot) = others) ∧
    (b = target.aimed → r.state = .playing ∨ (r.state = .rising ∧ r.fadeMark = true) →
      t.routeIn r.slot = some { r with applied := target, running := false } ∧
      t.routes.filter (fun x => x.slot ≠ r.slot) = others) ∧
    (b = target.aimed → r.state = .yielding →
      ∃ n, t.routeIn r.slot = some n ∧ n.state = .suspended ∧ n.applied = .mute ∧ n.target = none ∧
        n.running = false ∧ n.identity = r.identity ∧ t.routes.filter (fun x => x.slot ≠ r.slot) = others) ∧
    (b = target.aimed → r.state = .closing →
      t.routeIn r.slot = none ∧ tabGet t.reuse (r.slot - 1) 0 = tabGet s.reuse (r.slot - 1) 0 + 1 ∧
        t.routes.map Route.identity = others.map Route.identity ∧ t.events.mask.getLsbD (r.slot - 1) = true) := by
  intro b others t goOn
  have stands := fun stays => rampStep_inPlace o m applied aimed running stays goOn
  have leaving : r.state = .yielding ∨ r.state = .closing → target = .mute := fun leaves => by
    have mute := consistent.leaving leaves
    rw [aimed] at mute
    exact Option.some.inj mute
  refine ⟨fun short => ?_, fun there rising mark => ?_, fun there state => ?_, fun there yielding => ?_,
    fun there closing => ?_⟩
  · have moved := Route.rampStep_moves applied aimed short
    obtain ⟨found, rest⟩ := stands (.inr (by rw [moved]; simp))
    exact ⟨_, found, moved, rest⟩
  · obtain ⟨found, rest⟩ := stands (.inl (by rw [rising]; decide))
    rw [Route.rampStep_rises applied aimed there rising mark] at found
    exact ⟨found, rest⟩
  · obtain ⟨found, rest⟩ := stands (.inl (by rcases state with e | ⟨e, -⟩ <;> rw [e] <;> decide))
    rw [Route.rampStep_stands applied aimed there state] at found
    exact ⟨found, rest⟩
  · obtain ⟨found, rest⟩ := stands (.inl (by rw [yielding]; decide))
    obtain ⟨suspended, mute, aimless, stopped⟩ := Route.rampStep_suspends applied aimed there yielding (leaving (.inl yielding))
    exact ⟨_, found, suspended, mute, aimless, stopped, r.rampStep_keeps.same.identity, rest⟩
  · exact rampStep_removes o m running closing (Route.rampStep_closes applied aimed there closing (leaving (.inr closing)))

end Sys2Proof.Machine
end

-- ==== support and settled obligations, part 39 ====
section
/-! SUPPORT. The end of a fade phase: notices, the program moved, and the watch that joins it (R77, R83, R69, R70). -/

namespace Sys2Proof.Machine

variable {s : State}

/-! ## Fade marks (R15) -/

theorem Route.rampEnded_fadeMark (r : Route) : r.rampEnded.fadeMark = r.fadeMark := by
  rcases r.rampEnded_cases with e | ⟨-, -, e⟩ | ⟨-, e⟩
  · rw [e]
  · rw [e]
  · rw [e]
    unfold Route.ringOff
    split <;> rfl

theorem Route.aim_fadeMark (r : Route) (g : Gain) (k : RampClass) : (r.aim g k).fadeMark = r.fadeMark := by
  obtain ⟨a, b, e | ⟨-, -, e⟩⟩ := r.aim_cases g k
  · rw [e]
  · rw [e, Route.rampEnded_fadeMark]

theorem State.enterRising_fadeMark (s : State) (r : Route) : (s.enterRising r).fadeMark = false := by
  unfold State.enterRising
  dsimp only
  rw [Route.aim_fadeMark]
  split <;> rfl

theorem Route.yieldUp_fadeMark (r : Route) : r.yieldUp.fadeMark = false := Route.aim_fadeMark _ _ _

theorem State.withDuck_fadeMark (s : State) (d : Nat) (r : Route) : (s.withDuck d r).fadeMark = r.fadeMark := by
  unfold State.withDuck
  split
  · rfl
  · unfold State.retarget
    split
    · exact Route.aim_fadeMark _ _ _
    · rfl

/-- Re-runs mark no route (R15). -/
theorem unmarked_judges : Judges (fun _ => True) (Route.StaysIn (fun r => r.fadeMark = false)) where
  stays := fun _ _ _ => id
  refl := .refl
  trans := fun _ _ _ h k => h.trans k
  judged := fun s rs r _ => ⟨s.judged_keeps rs r, fun unmarked => by
    unfold State.judged
    split
    · exact unmarked
    · split
      · split
        · rfl
        · exact r.yieldUp_fadeMark
        · exact r.yieldUp_fadeMark
        · exact unmarked
      · split
        · exact s.enterRising_fadeMark r
        · split
          · exact s.enterRising_fadeMark r
          · rfl
        · exact unmarked⟩
  ducked := fun s d r _ => ⟨s.withDuck_keeps d r, fun unmarked => (s.withDuck_fadeMark d r).trans unmarked⟩

theorem State.refresh_unmarked (s : State) {r : Route} (h : r.fadeMark = false) : (s.refresh r).fadeMark = false := by
  unfold State.refresh
  split
  · split
    · exact s.enterRising_fadeMark r
    · exact h
  · split
    · rfl
    · rfl
    · rfl
    · exact h
    · exact h

/-- AVAILABLE leaves no consistent route marked (R15): a marked one sounds, and goes on unmarked or waits. -/
theorem State.notified_unmarked (s : State) {r : Route} (h : r.Consistent) : (s.notified .available r).fadeMark = false := by
  unfold State.notified
  dsimp only
  split
  · exact Route.aim_fadeMark _ _ _
  · rename_i not
    by_cases mark : r.fadeMark = true
    · have sounds : r.state.sounding = true := by
        rcases h.marked mark with e | e <;> simp [e, RouteState.sounding]
      have silent : ¬s.available { r with condition := .available } = true := fun heard => not (by
        simp only [Bool.and_eq_true]
        exact ⟨⟨⟨mark, rfl⟩, sounds⟩, heard⟩)
      unfold State.refresh
      rw [if_neg silent]
      rcases h.marked mark with e | e
      · simp only [e]
        rfl
      · simp only [e]
        rfl
    · exact s.refresh_unmarked (Bool.not_eq_true _ ▸ mark)

/-- After a notice that gives a property to the routes told, which re-runs leave, they have it. -/
theorem State.notice_given {P : Route → Prop} (j : Judges (fun _ => True) (Route.StaysIn P)) (s : State) (p : Route → Bool)
    (f : Route → Route) (keeps : ∀ r : Route, r.Keeps (f r)) (gives : ∀ r ∈ s.routes, p r = true → P (f r)) :
    ∀ n ∈ (s.notice p f).routes, ∃ r ∈ s.routes, r.Keeps n ∧ (p r = true → P n) := by
  intro n mn
  have ran := j.rerunAll (s.commitRoutes (s.routes.map (fun r => if p r then f r else r))) trivial (domainsOf p s.routes)
  rw [State.commitRoutes_routes] at ran
  obtain ⟨x, mx, kept, stays⟩ := forall₂_right ran n mn
  obtain ⟨r, mr, rfl⟩ := List.mem_map.1 mx
  refine ⟨r, mr, ?_, fun told => ?_⟩
  · split at kept
    · exact (keeps r).trans kept
    · exact kept
  · rw [if_pos told] at stays
    exact stays (gives r mr told)

/-- AVAILABLE notified to a program leaves none of its routes marked. -/
theorem State.notifyTuner_unmarked (h : ∀ r ∈ s.routes, r.Consistent) (x : TunerId) :
    ∀ n ∈ (s.notifyTuner x .available).routes, n.tuner = some x → n.fadeMark = false := by
  intro n mn tuned
  obtain ⟨r, -, kept, unmarked⟩ := State.notice_given unmarked_judges s (fun r => r.tuner = some x) (s.notified .available)
    (s.notified_keeps .available) (fun r mr _ => s.notified_unmarked (h r mr)) n mn
  refine unmarked (decide_eq_true ?_)
  rw [← tuned, kept.tuner]

/-- A tuner's route that has heard RETUNE is PENDING for it, SUSPENDED or CLOSING, or YIELDING no more (R9). -/
theorem Route.Told.away {e : State} {n : Route} (k : n.Told e .retune)
    (tuned : n.source.kindCode = 2 ∨ n.source.kindCode = 3) :
    n.condition = .retune ∧ n.state ≠ .rising ∧ n.state ≠ .playing ∧
      (n.state = .pending → n.cause = some (if e.listener n.zone then .retune else .noListener)) := by
  obtain ⟨heard, fits⟩ := k
  have condition : e.condition n = .retune := by
    unfold State.condition
    cases source : n.source with
    | tunerFrequency f => exact heard
    | tunerCode c => exact heard
    | stream _ => rw [source] at tuned; simp [Source.kindCode] at tuned
    | tone _ => rw [source] at tuned; simp [Source.kindCode] at tuned
    | leg _ _ => rw [source] at tuned; simp [Source.kindCode] at tuned
  have silent : e.available n = false := by
    unfold State.available
    rw [condition]
    simp
  have cause : e.causeOf n = if e.listener n.zone then .retune else .noListener := by
    unfold State.causeOf
    rw [condition]
  rcases fits.silent silent with ⟨pending, because⟩ | suspended | closing
  · exact ⟨heard, by simp [pending], by simp [pending], fun _ => because.trans (congrArg some cause)⟩
  · exact ⟨heard, by simp [suspended], by simp [suspended], fun e => by simp [suspended] at e⟩
  · exact ⟨heard, by simp [closing], by simp [closing], fun e => by simp [closing] at e⟩

/-! ## The tuning phase (R77, R83) -/

/-- The streak held touches nothing but the streak (R80). -/
theorem State.holdStreak_spec (s : State) (x : TunerId) :
    (s.holdStreak x).tuner x = { s.tuner x with streak := ((s.holdStreak x).tuner x).streak } ∧
      (s.holdStreak x).tuner (otherTuner x) = s.tuner (otherTuner x) ∧
      (s.holdStreak x).tuners.watch = s.tuners.watch ∧ (s.holdStreak x).stations = s.stations := by
  have held : ∀ c : Bool, ∀ u : State, u = (if c then s.setTuner x { s.tuner x with streak := 0 } else s) →
      u.tuner x = { s.tuner x with streak := (u.tuner x).streak } ∧ u.tuner (otherTuner x) = s.tuner (otherTuner x) ∧
        u.tuners.watch = s.tuners.watch ∧ u.stations = s.stations := by
    rintro c u rfl
    cases c with
    | false => exact ⟨rfl, rfl, rfl, rfl⟩
    | true => cases x <;> exact ⟨rfl, rfl, rfl, rfl⟩
  exact held _ _ rfl

/-- What a program moved is, and what of the rest stands (R77, R69). -/
structure State.Moves (s u : State) (x : TunerId) (k : RetuneKind) (dest : Nat) (confirm : Bool) : Prop where
  tuner : u.tuner x = { s.tuner x with
    frequency := some dest, activity := .retune, retune := some ⟨k, true⟩
    oldFrequency := if confirm then (s.tuner x).frequency else none, streak := (u.tuner x).streak }
  other : u.tuner (otherTuner x) = s.tuner (otherTuner x)
  watch : u.tuners.watch = if (s.tuner x).watch then some dest else s.tuners.watch
  told : (s.tuner x).watch = true → u.stations.watch = some (dest, x)
  joins : dest ∈ u.stations.inUse
  leaves : ∀ old, (s.tuner x).frequency = some old → old ≠ dest → old ∉ u.stations.inUse
  flag : u.events.flags.getLsbD 7 = true

theorem State.moveProgram_moves (s : State) (x : TunerId) (k : RetuneKind) (dest : Nat) (confirm : Bool) :
    s.Moves (s.moveProgram x k dest confirm) x k dest confirm := by
  unfold State.moveProgram
  extract_lets t s1 s2 u s3 src s4
  have left : s1.tuners = s.tuners ∧ ∀ old, t.frequency = some old → old ∉ s1.stations.inUse := by
    unfold s1
    cases t.frequency with
    | none => exact ⟨rfl, fun _ e => by cases e⟩
    | some old =>
      refine ⟨rfl, fun g e => ?_⟩
      cases e
      simp [State.leaveInUse]
  obtain ⟨tuners1, gone⟩ := left
  have tuners2 : s2.tuners = s.tuners := (State.joinInUse_tuners dest).trans tuners1
  have inUse2 : s2.stations.inUse = dest :: s1.stations.inUse.filter (· ≠ dest) := State.joinInUse_inUse dest
  have same : ∀ y, s2.tuner y = s.tuner y := fun y => by
    unfold State.tuner
    rw [tuners2]
  have stations3 : s3.stations = s2.stations := State.setTuner_stations _ _ _
  have watch3 : s3.tuners.watch = s.tuners.watch := (State.setTuner_shared _ _).1.trans (by rw [tuners2])
  have four : (∀ y, s4.tuner y = s3.tuner y) ∧ s4.stations.inUse = s3.stations.inUse ∧
      s4.tuners.watch = (if t.watch then some dest else s3.tuners.watch) ∧
      (t.watch = true → s4.stations.watch = some (dest, x)) := by
    unfold s4
    split
    · exact ⟨fun y => (State.tellWatch_tuner dest x y).trans (by cases y <;> rfl), rfl, rfl, fun _ => rfl⟩
    · rename_i no
      exact ⟨fun _ => rfl, rfl, rfl, fun held => absurd held no⟩
  obtain ⟨tuner4, inUse4, watch4, told4⟩ := four
  obtain ⟨streak, other5, watch5, stations5⟩ := s4.holdStreak_spec x
  have raised : ∀ y, ((s4.holdStreak x).raise .afSwitch).tuner y = (s4.holdStreak x).tuner y := fun y => by cases y <;> rfl
  refine ⟨?_, ?_, ?_, fun held => ?_, ?_, fun old e apart => ?_, ?_⟩
  · rw [raised, streak, tuner4, show s3.tuner x = _ from State.tuner_setTuner_same _ _ _, show u = s.tuner x from same x]
  · rw [raised, other5, tuner4, show s3.tuner _ = _ from State.tuner_setTuner_other _ _ _, same]
  · show (s4.holdStreak x).tuners.watch = _
    rw [watch5, watch4, watch3]
  · show (s4.holdStreak x).stations.watch = _
    rw [stations5, told4 held]
  · show dest ∈ (s4.holdStreak x).stations.inUse
    rw [stations5, inUse4, stations3, inUse2]
    exact List.mem_cons_self
  · show old ∉ (s4.holdStreak x).stations.inUse
    rw [stations5, inUse4, stations3, inUse2, List.mem_cons, not_or]
    exact ⟨apart, fun m => gone old e (List.mem_filter.1 m).1⟩
  · rw [State.raise_flags, BitVec.getLsbD_or]
    simp [EventSource.bit, EventSource.number]

/-- A retune abandoned changes of the tuners only its own retune (R77). -/
theorem State.abandonRetune_tuner (s : State) (x : TunerId) :
    (s.abandonRetune x).tuner x = { s.tuner x with retune := none } ∧
      (s.abandonRetune x).tuner (otherTuner x) = s.tuner (otherTuner x) := by
  unfold State.abandonRetune
  rw [State.notifyTuner_tuner, State.notifyTuner_tuner, State.tuner_setTuner_same, State.tuner_setTuner_other]
  exact ⟨rfl, rfl⟩

end Sys2Proof.Machine
end

-- ==== support and settled obligations, part 40 ====
section
/-! SUPPORT. The end of a fade phase, and the statement on ramp steps. -/

namespace Sys2Proof.Machine

variable {s : State}

/-! ## The fade phase that a step ends (R77) -/

theorem State.endFade_ends {x : TunerId} {k : RetuneKind} (h : (s.tuner x).retune = some ⟨k, false⟩)
    (done : s.fadeDone x = true) : s.endFade x = s.beginTuning x k := by
  unfold State.endFade
  rw [h]
  exact if_pos done

theorem State.endFade_tunes {x : TunerId} (h : ∀ k, (s.tuner x).retune ≠ some ⟨k, false⟩) : s.endFade x = s := by
  unfold State.endFade
  split
  · rename_i k e
    exact absurd e (h k)
  · rfl

/-- A tuning phase begun leaves the other tuner as it is, and is no fade phase. -/
theorem State.beginTuning_tuners (s : State) (x : TunerId) (k : RetuneKind) :
    (s.beginTuning x k).tuner (otherTuner x) = s.tuner (otherTuner x) ∧
      ∀ l, ((s.beginTuning x k).tuner x).retune ≠ some ⟨l, false⟩ := by
  have ended : ∀ t : Tuner, ((s.setTuner x t).abandonRetune x).tuner (otherTuner x) = s.tuner (otherTuner x) ∧
      ∀ l, (((s.setTuner x t).abandonRetune x).tuner x).retune ≠ some ⟨l, false⟩ := fun t => by
    obtain ⟨own, other⟩ := (s.setTuner x t).abandonRetune_tuner x
    rw [own, other, State.tuner_setTuner_other]
    exact ⟨rfl, fun l e => by cases e⟩
  have moved : ∀ (k : RetuneKind) (dest : Nat) (confirm : Bool),
      ((s.notifyTuner x .retune).moveProgram x k dest confirm).tuner (otherTuner x) = s.tuner (otherTuner x) ∧
      ∀ l, (((s.notifyTuner x .retune).moveProgram x k dest confirm).tuner x).retune ≠ some ⟨l, false⟩ := fun k dest confirm => by
    have moves := (s.notifyTuner x .retune).moveProgram_moves x k dest confirm
    rw [moves.other, moves.tuner, State.notifyTuner_tuner]
    exact ⟨rfl, fun l e => by cases e⟩
  unfold State.beginTuning
  cases k with
  | jump c =>
    dsimp only
    rw [State.tuner_setTuner_other, State.tuner_setTuner_same, State.notifyTuner_tuner]
    exact ⟨rfl, fun l e => by cases e⟩
  | switch dest confirm =>
    dsimp only
    split
    · exact ended _
    · exact moved _ _ _
  | revert dest decoded =>
    dsimp only
    split
    · exact ended _
    · exact moved _ _ _

/-- A fade phase that has ended, the other tuner without a retune: the tuning phase begins, and no other fade ends. -/
theorem State.endFades_ends {x : TunerId} {k : RetuneKind} (h : (s.tuner x).retune = some ⟨k, false⟩)
    (other : (s.tuner (otherTuner x)).retune = none) (done : s.fadeDone x = true) :
    s.endFades = s.beginTuning x k ∧ (s.beginTuning x k).endFades = s.beginTuning x k := by
  obtain ⟨kept, tunes⟩ := s.beginTuning_tuners x k
  have first := State.endFade_ends h done
  have quiet : ∀ y, ∀ l, ((s.beginTuning x k).tuner y).retune ≠ some ⟨l, false⟩ := fun y l => by
    by_cases e : y = x
    · rw [e]
      exact tunes l
    · rw [← otherTuner_of_ne e, kept, other]
      simp
  have last : ∀ y, (s.beginTuning x k).endFade y = s.beginTuning x k := fun y => State.endFade_tunes (quiet y)
  unfold State.endFades
  cases x with
  | t1 => exact ⟨by rw [first, last, last], by rw [last, last, last]⟩
  | t2 =>
    have idle : s.endFade .t1 = s := State.endFade_of_none other
    exact ⟨by rw [idle, first, last], by rw [last, last, last]⟩

/-! ## What the arbiter leaves after it (R69, R70, R72) -/

theorem State.arbitrate_settled (still : s.endFades = s) (h : s.WatchSettled) : s.Yields s.arbitrate := by
  rw [State.arbitrate_eq, still, h.reattachWatch]
  exact s.assign_yields

/-- A WAITING watch joins the program on its frequency (R69, R70). -/
theorem State.arbitrate_attaches {x : TunerId} {f : Nat} (still : s.endFades = s) (watch : s.tuners.watch = some f)
    (one : s.tuners.t1.watch = false) (two : s.tuners.t2.watch = false) (out : s.sup.state ≠ .quiet)
    (holder : s.holder f = some x) (program : (s.tuner x).role = .program) :
    (s.arbitrate.tuner x).watch = true ∧ s.arbitrate.tuners.watch = some f ∧ s.arbitrate.stations.watch = some (f, x) := by
  have attached : s.reattachWatch = s.attachWatch x f := by
    unfold State.reattachWatch
    rw [watch]
    dsimp only
    rw [if_neg (by simp [out, one, two]), holder]
  have tuner : (s.attachWatch x f).tuner x = { s.tuner x with watch := true } := by
    rw [State.attachWatch_tuner, if_pos rfl]
  have waits : (s.attachWatch x f).tuners.watch = some f := (State.setTuner_shared x _).1.trans watch
  have told : (s.attachWatch x f).stations.watch = some (f, x) := rfl
  rw [State.arbitrate_eq, still, attached]
  generalize s.attachWatch x f = u at *
  have yields := u.assign_yields
  have held := State.assign_program (s := u) (x := x) (by rw [tuner]; exact program)
  exact ⟨by rw [held, tuner], yields.watch.trans waits, yields.told.trans told⟩

/-! ## The three outcomes of a fade phase (R77, R83) -/

/-- The state after the step that ends a fade phase, and what it is the arbiter's work on. -/
structure State.FadeEnds (s v : State) (x : TunerId) (k : RetuneKind) : Prop where
  hears : v.Hears s
  tuner : ∀ y, v.tuner y = s.tuner y
  tuners : v.tuners = s.tuners
  sup : v.sup = s.sup
  consistent : ∀ n ∈ v.routes, n.Consistent
  ends : v.endFades = v.beginTuning x k
  still : (v.beginTuning x k).endFades = v.beginTuning x k

section
variable {v : State} {x : TunerId} {k : RetuneKind} (h : s.FadeEnds v x k)
include h

theorem State.FadeEnds.arbitrate : v.arbitrate = (v.beginTuning x k).arbitrate := by
  rw [v.arbitrate_eq, (v.beginTuning x k).arbitrate_eq, h.ends, h.still]

theorem State.FadeEnds.routes : v.arbitrate.routes = (v.beginTuning x k).routes := by
  rw [v.arbitrate_routes, h.ends]

/-- The program after the arbiter's work, by what the tuning phase made of it. -/
theorem State.FadeEnds.stands (role : ((v.beginTuning x k).tuner x).role = .program) :
    ((v.beginTuning x k).tuner x).Stands (v.arbitrate.tuner x) := by
  rw [h.arbitrate]
  exact State.arbitrate_program h.still role

/-- RETUNE notified: none of the program's routes sounds. -/
theorem State.FadeEnds.away (told : (v.beginTuning x k).routes = (v.notifyTuner x .retune).routes) :
    ∀ n ∈ v.arbitrate.routes, n.tuner = some x → n.source.kindCode = 2 ∨ n.source.kindCode = 3 →
      n.condition = .retune ∧ n.state ≠ .rising ∧ n.state ≠ .playing ∧
        (n.state = .pending → n.cause = some (if s.listener n.zone then .retune else .noListener)) := by
  intro n m tuned kind
  rw [h.routes, told] at m
  exact (State.notifyTuner_told h.hears x .retune n m tuned).away kind

/-- A self jump leaves the program on its frequency (R82). -/
theorem State.FadeEnds.jumps {c : Nat} (e : k = .jump c) (role : (s.tuner x).role = .program) :
    (v.beginTuning x k).routes = (v.notifyTuner x .retune).routes ∧ (v.arbitrate.tuner x).activity = .selfAfJump ∧
      (v.arbitrate.tuner x).retune = some ⟨k, true⟩ ∧ (v.arbitrate.tuner x).frequency = (s.tuner x).frequency := by
  subst e
  have jumped : (v.beginTuning x (.jump c)).tuner x =
      { s.tuner x with activity := .selfAfJump, retune := some ⟨.jump c, true⟩ } := by
    unfold State.beginTuning
    dsimp only
    rw [State.tuner_setTuner_same, State.notifyTuner_tuner, h.tuner]
  obtain ⟨rest, -, -⟩ := h.stands (by rw [jumped]; exact role)
  rw [jumped] at rest
  refine ⟨?_, by rw [rest], by rw [rest], by rw [rest]⟩
  unfold State.beginTuning
  simp

/-- A program that is moved (R77, R83, R69, R70). -/
theorem State.FadeEnds.moves {dest : Nat} {confirm : Bool} (role : (s.tuner x).role = .program)
    (moved : v.beginTuning x k = (v.notifyTuner x .retune).moveProgram x k dest confirm)
    (apart : (s.tuner (otherTuner x)).holds dest = false) :
    (v.beginTuning x k).routes = (v.notifyTuner x .retune).routes ∧
      (v.arbitrate.tuner x).frequency = some dest ∧ (v.arbitrate.tuner x).activity = .retune ∧
      (v.arbitrate.tuner x).retune = some ⟨k, true⟩ ∧
      (v.arbitrate.tuner x).oldFrequency = (if confirm then (s.tuner x).frequency else none) ∧
      v.arbitrate.events.flags.getLsbD 7 = true ∧
      ((s.tuner x).watch = true → v.arbitrate.tuners.watch = some dest ∧ v.arbitrate.stations.watch = some (dest, x)) ∧
      (s.tuners.watch = some dest → s.tuners.t1.watch = false → s.tuners.t2.watch = false → s.sup.state ≠ .quiet →
        (v.arbitrate.tuner x).watch = true ∧ v.arbitrate.tuners.watch = some dest ∧
          v.arbitrate.stations.watch = some (dest, x)) ∧
      (s.WatchSettled → dest ∈ v.arbitrate.stations.inUse ∧
        ∀ old, (s.tuner x).frequency = some old → old ≠ dest → old ∉ v.arbitrate.stations.inUse) := by
  have still := h.still
  have done := h.arbitrate
  have stands := h.stands
  have frame := (TunerFrame.ofRoute (v.notifyTuner_frame x .retune)).trans
    (State.moveProgram_frame (v.notifyTuner x .retune) x k dest confirm)
  have moves := (v.notifyTuner x .retune).moveProgram_moves x k dest confirm
  have routes := (v.notifyTuner x .retune).moveProgram_routes x k dest confirm
  rw [moved] at still done stands
  rw [moved, done]
  rw [done] at stands
  generalize (v.notifyTuner x .retune).moveProgram x k dest confirm = w at *
  obtain ⟨tuner, other, watch, told, joins, leaves, flag⟩ := moves
  have same : ∀ y, (v.notifyTuner x .retune).tuner y = s.tuner y := fun y =>
    (State.notifyTuner_tuner (s := v) x y .retune).trans (h.tuner y)
  rw [same] at tuner other watch told leaves
  rw [State.notifyTuner_tuners, h.tuners] at watch
  have program : (w.tuner x).role = .program := by rw [tuner]; exact role
  obtain ⟨rest, -, -⟩ := stands program
  rw [tuner] at rest
  have sup : w.sup = s.sup := frame.sup.trans h.sup
  have watches : ∀ y, (w.tuner y).watch = (s.tuner y).watch := fun y => by
    by_cases e : y = x
    · rw [e, tuner]
    · rw [← otherTuner_of_ne e, other]
  refine ⟨routes, by rw [rest], by rw [rest], by rw [rest], by rw [rest], flag_stands w.arbitrate_frame.flags flag,
    fun held => ?_, fun waits one two out => ?_, fun settled => ?_⟩
  · have attached : w.WatchSettled := by
      have kept := (watches x).trans held
      cases x
      · exact .inr (.inl kept)
      · exact .inr (.inr kept)
    have yields := State.arbitrate_settled still attached
    rw [if_pos held] at watch
    exact ⟨yields.watch.trans watch, yields.told.trans (told held)⟩
  · have free : (s.tuner x).watch = false := by
      cases x
      · exact one
      · exact two
    rw [if_neg (by simp [free]), waits] at watch
    have held : (w.tuner x).holds dest = true := by
      rw [tuner]
      simp [Tuner.holds, role]
    have holder : w.holder dest = some x := State.holder_eq held (fun e k => by
      subst e
      rw [show w.tuner .t1 = s.tuner .t1 from other, show (s.tuner .t1).holds dest = false from apart] at k
      cases k)
    exact State.arbitrate_attaches still watch ((watches .t1).trans one) ((watches .t2).trans two) (by rw [sup]; exact out)
      holder program
  · have attached : w.WatchSettled := by
      by_cases held : (s.tuner x).watch = true
      · have kept := (watches x).trans held
        cases x
        · exact .inr (.inl kept)
        · exact .inr (.inr kept)
      · rw [if_neg held] at watch
        exact settled.ofTuners watch watches
    have yields := State.arbitrate_settled still attached
    rw [yields.inUse]
    exact ⟨joins, leaves⟩

end

end Sys2Proof.Machine
end

-- ==== support and settled obligations, part 41 ====
section
/-! SUPPORT. The statement on ramp steps. -/

namespace Sys2Proof.Machine

variable {s : State}

/-! ## A move that is not made (R63, R83) -/

/-- A retune that ends without its move: AVAILABLE is notified, and the program stays where it is. -/
theorem State.FadeEnds.blocked {v : State} {x : TunerId} {k : RetuneKind} (h : s.FadeEnds v x k) {t : Tuner}
    (ended : v.beginTuning x k = (v.setTuner x t).abandonRetune x) (role : t.role = .program) (af : t.af = .idle) :
    (v.arbitrate.tuner x).retune = none ∧ (v.arbitrate.tuner x).af = .idle ∧ (v.arbitrate.tuner x).streak = t.streak ∧
      (v.arbitrate.tuner x).frequency = t.frequency ∧ (v.arbitrate.tuner x).code = t.code ∧
      ∀ n ∈ v.arbitrate.routes, n.tuner = some x → n.fadeMark = false ∧ n.condition = .available := by
  have tuner : (v.beginTuning x k).tuner x = { t with retune := none } := by
    rw [ended, (State.abandonRetune_tuner _ x).1, State.tuner_setTuner_same]
  obtain ⟨rest, idle, -⟩ := h.stands (by rw [tuner]; exact role)
  rw [tuner] at rest idle
  refine ⟨by rw [rest], idle.elim (fun e => e.trans af) (fun e => e.2), by rw [rest], by rw [rest], by rw [rest],
    fun n m tuned => ?_⟩
  let u := (v.setTuner x t).setTuner x { (v.setTuner x t).tuner x with retune := none }
  have hears : u.Hears s := (h.hears.frame (v.setTuner_frame x t)).frame (State.setTuner_frame _ x _)
  have same : u.routes = v.routes := by simp [u]
  have consistent : ∀ r ∈ u.routes, r.Consistent := by
    rw [same]
    exact h.consistent
  rw [h.routes, ended] at m
  have told : n ∈ (u.notifyTuner x .available).routes := m
  exact ⟨State.notifyTuner_unmarked consistent x n told tuned, (State.notifyTuner_told hears x .available n told tuned).1⟩

/-! ## The step that ends a fade phase (R15, R77) -/

/-- The last marked route brought to MUTE ends its program's fade phase. -/
theorem State.stepped_fadeEnds {r : Route} {x : TunerId} {k : RetuneKind} (o : Rising s.routes)
    (consistent : ∀ y ∈ s.routes, y.Consistent) (m : r ∈ s.routes) (marked : r.fadeMark = true)
    (applied : r.applied = .q (-384)) (aimed : r.target = some .mute) (retune : (s.tuner x).retune = some ⟨k, false⟩)
    (other : (s.tuner (otherTuner x)).retune = none)
    (last : ∀ y ∈ s.routes, y.slot ≠ r.slot → y.tuner = some x → y.fadeMark = true → y.applied = .mute) :
    s.FadeEnds (s.stepped r.slot) x k := by
  have frame := s.stepped_frame r.slot
  have sounds : r.state = .playing ∨ (r.state = .rising ∧ r.fadeMark = true) := by
    rcases (consistent r m).marked marked with e | e
    · exact .inr ⟨e, marked⟩
    · exact .inl e
  have stopped := Route.rampStep_stands applied aimed (by decide) sounds
  have done : (s.stepped r.slot).fadeDone x = true := by
    rw [State.fadeDone_iff, State.stepped_routes]
    intro n mn tuned mark
    obtain ⟨y, my, rfl⟩ := List.mem_map.1 mn
    by_cases e : y.slot = r.slot
    · obtain rfl := o.unique y my r m e
      rw [if_pos rfl, stopped]
    · rw [if_neg e] at tuned mark ⊢
      exact last y my e tuned mark
  obtain ⟨ends, still⟩ := State.endFades_ends (s := s.stepped r.slot) (by rw [State.stepped_tuner, retune])
    (by rw [State.stepped_tuner, other]) done
  refine ⟨(State.Hears.refl s).frame (.ofRoute frame), s.stepped_tuner r.slot, by rw [frame.rest], frame.sup, ?_, ends, still⟩
  rw [State.stepped_routes]
  intro n mn
  obtain ⟨y, my, rfl⟩ := List.mem_map.1 mn
  split
  · exact (y.rampStep_evolves (st := s.sup.state) (floor := s.mixer.alertFloor)).consistent (consistent y my)
  · exact consistent y my

/-- Settles O24: a step in place or a removal while every fade phase goes on; the step that ends one begins the tuning phase,
on which the arbiter works. -/
theorem rampStepMovesTheGain : Obligations.RampStepMovesTheGain := by
  refine ⟨fun s slot works still => rampStep_idle slot works still, ?_, ?_⟩
  · intro s r a target works o m consistent running applied aimed
    refine ⟨_, exec_rampStep works r.slot,
      ((State.rampStepSlot_frame (fun _ => True) True stays_true s r.slot).trans stays_true
        (.ofTuner (State.arbitrate_frame _))).work, ?_⟩
    intro goal b others fadesGoOn goOn
    have steps := rampStep_steps s r a target o m consistent running applied aimed
    cases target with
    | mute => exact steps goOn
    | q v => exact steps goOn
  · intro s r x k works o consistent m tuned marked running applied aimed role retune other last
    have ends := State.stepped_fadeEnds o consistent m marked applied aimed retune other last
    have open' : r.state ≠ .closing := by
      rcases (consistent r m).marked marked with e | e <;> rw [e] <;> decide
    have stepped := State.rampStepSlot_stepped o m running (.inl open')
    have run := exec_rampStep works r.slot
    have frame := (TunerFrame.ofRoute (s.stepped_frame r.slot)).trans (State.arbitrate_frame _)
    rw [stepped] at run
    refine ⟨_, run, frame.work, ?_⟩
    generalize s.stepped r.slot = v at *
    intro o moves away
    refine ⟨fun c e => ?_, fun dest move held => ?_, fun dest move apart => ?_⟩
    · obtain ⟨routes, activity, kind, frequency⟩ := ends.jumps e role
      exact ⟨ends.away routes, activity, kind, frequency⟩
    · have there : (v.tuner (otherTuner x)).holds dest = true := by rw [ends.tuner]; exact held
      rcases move with ⟨confirm, rfl⟩ | ⟨code, rfl⟩
      · obtain ⟨past, idle, streak, frequency, -, routes⟩ :=
          ends.blocked (t := { v.tuner x with af := .idle, streak := 0, search := none }) (if_pos there)
            (by rw [ends.tuner]; exact role) rfl
        exact ⟨past, idle, streak, by rw [frequency, ends.tuner], (fun _ e => by cases e), routes⟩
      · obtain ⟨past, idle, streak, frequency, decoded, routes⟩ :=
          ends.blocked (t := { v.tuner x with af := .idle, streak := 0, code := code, oldFrequency := none }) (if_pos there)
            (by rw [ends.tuner]; exact role) rfl
        refine ⟨past, idle, streak, by rw [frequency, ends.tuner], fun c e => ?_, routes⟩
        cases e
        exact decoded
    · have free : ¬(v.tuner (otherTuner x)).holds dest = true := by
        rw [ends.tuner, show (s.tuner (otherTuner x)).holds dest = false from apart]
        decide
      rcases move with ⟨confirm, rfl⟩ | ⟨code, rfl⟩
      · obtain ⟨routes, frequency, activity, kind, old, rest⟩ := ends.moves (confirm := confirm) role (if_neg free) apart
        refine ⟨ends.away routes, frequency, activity, kind, ?_, rest⟩
        rw [old]
        cases confirm <;> simp
      · obtain ⟨routes, frequency, activity, kind, old, rest⟩ := ends.moves (confirm := false) role (if_neg free) apart
        refine ⟨ends.away routes, frequency, activity, kind, ?_, rest⟩
        rw [old]
        simp

end Sys2Proof.Machine
end

-- ==== support and settled obligations, part 42 ====
section
/-! SUPPORT. Volume steps replaced, the routes of changed zones re-aimed, and the statement on ZONE_VOLUME. -/

namespace Sys2Proof.Machine

/-! ## What a target is read from (R49) -/

theorem State.computedTarget_congr {s t : State} {r : Route}
    (volume : (s.mixer.zone r.zone).volume = (t.mixer.zone r.zone).volume) (curve : s.mixer.curve = t.mixer.curve)
    (floor : s.mixer.alertFloor = t.mixer.alertFloor) (derate : s.thermal.derate = t.thermal.derate) :
    s.computedTarget r = t.computedTarget r := by
  unfold State.computedTarget Mixer.attenuation State.derateTerm
  rw [volume, curve, floor, derate]

/-- A re-aim reads of the state the route's computed target alone (R50). -/
theorem State.retarget_congr {s t : State} {r : Route} (k : RampClass) (h : s.computedTarget r = t.computedTarget r) :
    s.retarget k r = t.retarget k r := by
  unfold State.retarget
  rw [h]

/-! ## Volume steps (R50, R58) -/

/-- The records with each zone's volume step replaced. -/
def Mixer.withSteps (m : Mixer) (f : Zone → Nat) : Mixer :=
  { m with
    cabin.volume := f .cabin, front.volume := f .front, driver.volume := f .driver
    hp1.volume := f .hp1, hp2.volume := f .hp2 }

/-- Volume steps replaced, the routes of the zones whose step changes re-aimed at NORMAL (R50, R58). -/
def State.withSteps (s : State) (f : Zone → Nat) : State :=
  { s with
    mixer := s.mixer.withSteps f
    routes := s.routes.map (fun r =>
      if f r.zone = (s.mixer.zone r.zone).volume then r
      else State.retarget { s with mixer := s.mixer.withSteps f } .normal r) }

@[simp] theorem Mixer.zone_withSteps (m : Mixer) (f : Zone → Nat) (y : Zone) :
    (m.withSteps f).zone y = { m.zone y with volume := f y } := by cases y <;> rfl

theorem Mixer.withSteps_same (m : Mixer) : m.withSteps (fun y => (m.zone y).volume) = m := rfl

theorem Mixer.withSteps_setZone (m : Mixer) (f : Zone → Nat) (z : Zone) (v : Nat) :
    (m.withSteps f).setZone z { (m.withSteps f).zone z with volume := v } =
      m.withSteps (fun y => if y = z then v else f y) := by cases z <;> rfl

@[simp] theorem State.withSteps_mixer (s : State) (f : Zone → Nat) : (s.withSteps f).mixer = s.mixer.withSteps f := rfl

theorem State.withSteps_same (s : State) : s.withSteps (fun y => (s.mixer.zone y).volume) = s := by
  unfold State.withSteps
  rw [s.mixer.withSteps_same]
  simp

/-- A step not yet replaced, replaced after others: each route is re-aimed once, for its own zone's step. -/
theorem State.withSteps_setVolume (s : State) (f : Zone → Nat) (z : Zone) (v : Nat) (h : f z = (s.mixer.zone z).volume) :
    (s.withSteps f).setVolume z v = s.withSteps (fun y => if y = z then v else f y) := by
  unfold State.setVolume
  by_cases same : f z = v
  · have e : (fun y => if y = z then v else f y) = f := by
      funext y
      split
      · rename_i here
        rw [here, same]
      · rfl
    rw [e, if_pos (by simpa using same)]
  · rw [if_neg (by simpa using same)]
    dsimp only
    rw [State.retargetWhere_eq]
    have mixers := s.mixer.withSteps_setZone f z v
    rw [← State.withSteps_mixer] at mixers
    rw [mixers]
    have routes : (s.withSteps f).routes.map (fun r => if decide (r.zone = z) = true then
          State.retarget { s.withSteps f with mixer := s.mixer.withSteps (fun y => if y = z then v else f y) } .normal r
        else r) = (s.withSteps (fun y => if y = z then v else f y)).routes := by
      unfold State.withSteps
      dsimp only
      rw [List.map_map]
      refine List.map_congr_left (fun r _ => ?_)
      by_cases here : r.zone = z
      · have moved : ¬v = (s.mixer.zone z).volume := fun e => same (h.trans e.symm)
        simp only [Function.comp_apply, here, h, if_true, if_neg moved, decide_true]
        rfl
      · have zone : (if f r.zone = (s.mixer.zone r.zone).volume then r
            else State.retarget { s with mixer := s.mixer.withSteps f } .normal r).zone = r.zone := by
          split
          · rfl
          · exact (State.retarget_keeps _ _ r).zone
        simp only [Function.comp_apply, zone, here, decide_false, Bool.false_eq_true, if_false]
        split
        · rfl
        · refine State.retarget_congr _ (State.computedTarget_congr ?_ rfl rfl rfl)
          simp [here]
    rw [routes]
    rfl

/-! ## A step set, and the zones that follow CABIN (R58, R115) -/

/-- The volume step of each zone once one zone's is set and a change of CABIN is handed on. -/
def Mixer.stepsAfter (m : Mixer) (z : Zone) (v : Nat) (y : Zone) : Nat :=
  if y = z then v
  else if z = .cabin ∧ v ≠ (m.zone z).volume ∧ y.domain ≠ .cabinGroup ∧ (m.zone y).follow = true then
    movedStep (m.zone y).volume ((v : Int) - ((m.zone z).volume : Int)) (m.zone y).cap
  else (m.zone y).volume

theorem State.setVolume_eq (s : State) (z : Zone) (v : Nat) :
    s.setVolume z v = s.withSteps (fun y => if y = z then v else (s.mixer.zone y).volume) := by
  have e := s.withSteps_setVolume (fun y => (s.mixer.zone y).volume) z v rfl
  rwa [s.withSteps_same] at e

/-- One HP zone takes a change of CABIN, its own step not yet replaced (R115). -/
theorem State.withSteps_followOne (s : State) (f : Zone → Nat) (z : Zone) (c : Int) (h : f z = (s.mixer.zone z).volume) :
    (s.withSteps f).followOne z c = s.withSteps (fun y =>
      if y = z ∧ (s.mixer.zone z).follow = true then movedStep (s.mixer.zone z).volume c (s.mixer.zone z).cap else f y) := by
  unfold State.followOne
  by_cases follows : (s.mixer.zone z).follow = true
  · simp only [State.withSteps_mixer, Mixer.zone_withSteps, follows, if_true, and_true, h]
    exact s.withSteps_setVolume f z _ h
  · simp [follows]

/-- ZONE_VOLUME and the limp lowering replace steps and re-aim routes, and do nothing else (R58, R61, R115). -/
theorem State.setVolumeAndFollow_eq (s : State) (z : Zone) (v : Nat) :
    s.setVolumeAndFollow z v = s.withSteps (s.mixer.stepsAfter z v) := by
  unfold State.setVolumeAndFollow
  dsimp only
  rw [s.setVolume_eq]
  by_cases cabin : z = .cabin
  · subst cabin
    unfold State.follow
    by_cases still : v = (s.mixer.zone .cabin).volume
    · rw [if_pos rfl, if_pos (by omega)]
      congr 1
      funext y
      simp [Mixer.stepsAfter, still]
    · rw [if_pos rfl, if_neg (by omega), s.withSteps_followOne _ .hp1 _ rfl, s.withSteps_followOne _ .hp2 _ (by simp)]
      congr 1
      funext y
      cases y <;> simp [Mixer.stepsAfter, Zone.domain, still]
  · rw [if_neg cabin]
    congr 1
    funext y
    simp [Mixer.stepsAfter, cabin]

/-! ## ZONE_VOLUME (R58) -/

/-- The step ZONE_VOLUME sets: by mode the step named, or the zone's own moved by the change named (R58). -/
theorem zoneVolume_eq {s : State} {p : List Byte} {z : Zone} (l : p.length = 3) (zone : zoneOf (u8At p 0) = some z)
    (mode : u8At p 1 ≤ 1) :
    let v := if u8At p 1 = 0 then min (u8At p 2) (s.mixer.limit z)
      else movedStep (s.mixer.zone z).volume (i8At p 2) (s.mixer.limit z)
    zoneVolume p s = .ok (s.withSteps (s.mixer.stepsAfter z v)) (u8 z.code ++ u8 v) := by
  intro v
  rw [← State.setVolumeAndFollow_eq]
  have two : u8At p 1 = 0 ∨ u8At p 1 = 1 := by omega
  unfold zoneVolume
  rw [if_neg (by simpa using l), zone]
  rcases two with e | e <;> simp [v, e]

theorem zoneVolume_bad {s : State} {p : List Byte} (h : p.length ≠ 3 ∨ 5 ≤ u8At p 0 ∨ 2 ≤ u8At p 1) :
    zoneVolume p s = .refuse s .badArgument := by
  unfold zoneVolume
  rcases h with l | zone | mode
  · exact if_pos l
  · rw [zoneOf_none zone, ite_self]
  · split
    · rfl
    · split
      · omega
      · omega
      · rfl

/-- Settles O20: steps replaced all at once, each route re-aimed once, for its own zone's step. -/
theorem zoneVolumeSetsSteps : Obligations.ZoneVolumeSetsSteps := by
  intro s c p z acc
  refine ⟨fun l zone mode => ?_, fun bad => congrArg _ (acc.refused (zoneVolume_bad bad))⟩
  intro old v
  refine ⟨s.withSteps (s.mixer.stepsAfter z v), congrArg _ (acc.ok (zoneVolume_eq l zone mode)), rfl,
    fun y => Mixer.zone_withSteps _ _ y, ?_⟩
  simp only [State.withSteps_mixer, Mixer.zone_withSteps]
  rfl

end Sys2Proof.Machine
end

-- ==== support and settled obligations, part 43 ====
section
/-! SUPPORT. The entry into LIMP, and the statement on the watchdog's expiry. -/

namespace Sys2Proof.Machine

/-! ## The limp lowering (R61) -/

theorem Mixer.stepsAfter_same (m : Mixer) (z : Zone) : m.stepsAfter z (m.zone z).volume = fun y => (m.zone y).volume := by
  funext y
  unfold Mixer.stepsAfter
  split
  · rename_i here
    rw [here]
  · simp

/-- A cabin-group zone's step above the limp volume is lowered to it, CABIN's change handed on (R61, R115). -/
theorem State.lowerZone_eq (s : State) (z : Zone) :
    s.lowerZone z = s.withSteps (s.mixer.stepsAfter z (min (s.mixer.zone z).volume s.sup.limpVolume)) := by
  unfold State.lowerZone
  split
  · rename_i above
    rw [s.setVolumeAndFollow_eq, min_eq_right (Nat.le_of_lt above)]
  · rename_i below
    rw [min_eq_left (Nat.le_of_not_lt below), s.mixer.stepsAfter_same, s.withSteps_same]

/-- The volume step of each zone after the limp lowering (R61, R115). -/
def Mixer.stepsLowered (m : Mixer) (limp : Nat) (y : Zone) : Nat :=
  if y.domain = .cabinGroup then min (m.zone y).volume limp
  else m.stepsAfter .cabin (min (m.zone .cabin).volume limp) y

theorem Mixer.stepsLowered_cabinGroup (m : Mixer) (limp : Nat) {z : Zone} (h : z.domain = .cabinGroup) :
    m.stepsLowered limp z = min (m.zone z).volume limp := if_pos h

/-- An HP zone's step moves with a lowering of CABIN where the zone follows (R115). -/
theorem Mixer.stepsLowered_hp (m : Mixer) (limp : Nat) {z : Zone} (h : z.domain ≠ .cabinGroup) :
    m.stepsLowered limp z =
      if limp < m.cabin.volume ∧ (m.zone z).follow = true then
        movedStep (m.zone z).volume ((limp : Int) - (m.cabin.volume : Int)) (m.zone z).cap
      else (m.zone z).volume := by
  have other : z ≠ .cabin := fun e => h (by rw [e]; rfl)
  have cabin : m.zone .cabin = m.cabin := rfl
  unfold Mixer.stepsLowered Mixer.stepsAfter
  rw [if_neg h, if_neg other, cabin]
  by_cases above : limp < m.cabin.volume
  · simp [min_eq_right (Nat.le_of_lt above), Nat.ne_of_lt above, above, h]
  · simp [min_eq_left (Nat.le_of_not_lt above), above]

@[simp] theorem Mixer.withSteps_withSteps (m : Mixer) (f g : Zone → Nat) : (m.withSteps f).withSteps g = m.withSteps g := rfl

@[simp] theorem State.withSteps_sup (s : State) (f : Zone → Nat) : (s.withSteps f).sup = s.sup := rfl

/-- The lowerings of CABIN, FRONT and DRIVER in turn do not meet. -/
theorem State.lowerZones_mixer (s : State) :
    (((s.lowerZone .cabin).lowerZone .front).lowerZone .driver).mixer =
      s.mixer.withSteps (s.mixer.stepsLowered s.sup.limpVolume) := by
  simp only [State.lowerZone_eq, State.withSteps_mixer, State.withSteps_sup, Mixer.withSteps_withSteps,
    Mixer.zone_withSteps]
  congr 1
  funext y
  cases y <;> simp [Mixer.stepsAfter, Mixer.stepsLowered, Zone.domain]

/-! ## LIMP entered (R163) -/

/-- The Zone Mixer's records when LIMP is entered: precedence and arbiter leave them alone. -/
theorem State.enterLimp_mixer (s : State) :
    s.enterLimp.mixer = s.mixer.withSteps (s.mixer.stepsLowered s.sup.limpVolume) := by
  let entered : State := { s with sup := { s.sup with state := .limp, left := none } }
  have judged := entered.rerunAll_frame [.cabinGroup, .hp1, .hp2]
  unfold State.enterLimp
  dsimp only
  rw [(State.arbitrate_frame _).mixer, State.raise_mixer, State.lowerZones_mixer, judged.mixer, judged.sup]

/-- The re-run silences the classes LIMP silences, and what follows keeps them silent, whatever the state before. -/
theorem State.enterLimp_limpSilent (s : State) : s.enterLimp.LimpSilent := by
  let entered : State := { s with sup := { s.sup with state := .limp, left := none } }
  have lowered := ((State.lowerZone_upholds (l := True) (entered.rerunAll [.cabinGroup, .hp1, .hp2]) .cabin).trans
    (State.lowerZone_upholds _ .front)).trans (State.lowerZone_upholds _ .driver)
  exact ((lowered.trans (State.raise_upholds _ .limp)).trans (State.arbitrate_upholds _)).limp
    (entered.rerunAll_limpSilent rfl)

theorem State.enterLimp_raises (s : State) : s.enterLimp.events.flags.getLsbD 14 = true := by
  unfold State.enterLimp
  dsimp only
  refine flag_stands (State.arbitrate_frame _).flags ?_
  rw [State.raise_flags, BitVec.getLsbD_or]
  simp [EventSource.bit, EventSource.number]

/-! ## The watchdog runs out (R162) -/

theorem exec_watchdogExpiry {s : State} (works : s.Works) :
    exec .watchdogExpiry s = .next (if s.sup.left.isSome then s.enterLimp else s) :=
  congrArg _ (State.unlessHeld_works works _)

/-- Settles O31: the frame of LIMP's entry, and the steps its lowerings leave. -/
theorem watchdogExpiryEntersLimp : Obligations.WatchdogExpiryEntersLimp := by
  intro s works
  rw [exec_watchdogExpiry works]
  refine ⟨fun unarmed => by simp [unarmed], fun armed => ?_⟩
  rw [if_pos (Option.isSome_iff_ne_none.2 armed)]
  have zones : ∀ z, s.enterLimp.mixer.zone z =
      { s.mixer.zone z with volume := s.mixer.stepsLowered s.sup.limpVolume z } := fun z => by
    rw [s.enterLimp_mixer, Mixer.zone_withSteps]
  have stays : ∀ z : Zone, z.domain ≠ .cabinGroup → (s.mixer.zone z).follow = false →
      s.enterLimp.mixer.zone z = s.mixer.zone z := fun z hp still => by
    rw [zones, s.mixer.stepsLowered_hp _ hp, if_neg (by simp [still])]
  refine ⟨_, rfl, s.enterLimp_frame.1.work, s.enterLimp_limpSilent, s.enterLimp_raises, fun z cabin => ?_,
    fun z hp follows => ?_, ?_, stays .hp1 (by decide), stays .hp2 (by decide)⟩
  · rw [zones, s.mixer.stepsLowered_cabinGroup _ cabin]
  · intro change
    rw [zones]
    dsimp only
    rw [s.mixer.stepsLowered_hp _ hp]
    by_cases above : s.sup.limpVolume < s.mixer.cabin.volume
    · have lowered : change = (s.sup.limpVolume : Int) - (s.mixer.cabin.volume : Int) := if_pos above
      have moves : change ≠ 0 := by rw [lowered]; omega
      rw [if_pos ⟨above, follows⟩, if_neg moves, lowered]
      rfl
    · have still : change = 0 := if_neg above
      rw [if_neg (fun both => above both.1), if_pos still]
  · rw [s.enterLimp_mixer]
    rfl

end Sys2Proof.Machine
end

-- ==== support and settled obligations, part 44 ====
section
/-! SUPPORT. The events of the gain path that move weights and read temperatures, and the statement on them. -/

namespace Sys2Proof.Machine

/-! ## Weight steps (R38, R39) -/

theorem stepToward_cases (target x : Int) :
    (x < target → stepToward target x = x + 1) ∧ (target < x → stepToward target x = x - 1) ∧
      (x = target → stepToward target x = target) := by
  unfold stepToward
  refine ⟨fun below => if_pos below, fun above => ?_, fun there => ?_⟩
  · rw [if_neg (by omega), if_pos above]
  · rw [if_neg (by omega), if_neg (by omega), there]

theorem Mixer.speaker_eq (m : Mixer) (i : Fin 20) : m.speaker i = m.map.get i := dif_pos i.isLt

/-- What a zone's applied weight on a channel moves toward (R38). -/
def Mixer.targetWeight (m : Mixer) (z : Zone) (i : Nat) : Int :=
  match z with
  | .cabin => m.cabinTarget i
  | .front => m.frontTarget i
  | _ => 0

theorem Mixer.weight_weightStep (m : Mixer) {z : Zone} (h : z.domain = .cabinGroup) (i : Fin 20) :
    m.weightStep.weight z i = stepToward (m.targetWeight z i) (m.weight z i) := by
  have moved : ∀ (f : Nat → Int) (v : Vector Int 20),
      tabGet (tabOf 20 (fun i => stepToward (f i) (tabGet v i 0))) i 0 = stepToward (f i) (tabGet v i 0) := fun f v => by
    rw [tabGet_tabOf, if_pos i.isLt]
  cases z with
  | cabin => exact moved m.cabinTarget m.wCabin
  | front => exact moved m.frontTarget m.wFront
  | driver => exact moved (fun _ => 0) m.wDriver
  | hp1 => cases h
  | hp2 => cases h

theorem exec_weightRampStep {s : State} (works : s.Works) :
    exec .weightRampStep s = .next { s with mixer := s.mixer.weightStep } :=
  congrArg _ (State.unlessHeld_works works _)

/-! ## Thermal readings (R43 to R46) -/

theorem computedDerate_eq (reading knee : Int) (slope : Nat) :
    (computedDerate reading knee slope : Int) =
      if reading ≤ knee then 0 else min 72 ((4 * (slope : Int) * (reading - knee) + 5) / 10) := by
  unfold computedDerate
  by_cases above : knee < reading
  · have product : 0 ≤ (slope : Int) * (reading - knee) := mul_nonneg (Int.natCast_nonneg slope) (by omega)
    have tenth : 0 ≤ (4 * (slope : Int) * (reading - knee) + 5) / 10 := by rw [mul_assoc]; omega
    rw [if_pos above, if_neg (Int.not_le.2 above)]
    omega
  · rw [if_neg above, if_pos (Int.not_lt.1 above)]
    rfl

theorem derateStep_cases (computed derate recovery : Nat) :
    (derate < computed → derateStep computed derate recovery = (computed, 0)) ∧
      (computed = derate → derateStep computed derate recovery = (derate, 0)) ∧
      (computed < derate → recovery < 9 → derateStep computed derate recovery = (derate, recovery + 1)) ∧
      (computed < derate → 9 ≤ recovery → derateStep computed derate recovery = (derate - 1, 0)) := by
  unfold derateStep
  refine ⟨fun rises => if_pos rises, fun stands => ?_, fun falls early => ?_, fun falls due => ?_⟩
  · rw [if_neg (by omega), if_pos stands]
  · rw [if_neg (by omega), if_neg (by omega), if_pos early]
  · rw [if_neg (by omega), if_neg (by omega), if_neg (by omega)]

/-- Of the unit's record a re-aim reads the derate alone (R46, R49). -/
theorem State.retarget_thermal (s : State) (t : Thermal) (k : RampClass) (r : Route) :
    State.retarget { s with thermal := t } k r = State.retarget { s with thermal.derate := t.derate } k r :=
  State.retarget_congr k (State.computedTarget_congr rfl rfl rfl rfl)

/-- A reading changes the unit's record, where the derate changes the targets of the cabin group, and the flags (R46). -/
theorem State.thermalReading_eq (s : State) (sensor : Int) :
    let unit := s.thermal.taken sensor
    s.thermalReading sensor =
      { s with
        thermal := unit
        routes :=
          if unit.derate = s.thermal.derate then s.routes
          else s.routes.map (fun r =>
            if r.zone.domain = .cabinGroup then State.retarget { s with thermal.derate := unit.derate } .normal r else r)
        events.flags :=
          if s.thermal.derate = 0 ∧ 0 < unit.derate then s.events.flags ||| 1#18 <<< 13 else s.events.flags } := by
  intro unit
  unfold State.thermalReading State.raiseIf
  simp only [State.retargetWhere_eq, Bool.and_eq_true, decide_eq_true_eq, State.retarget_thermal]
  by_cases same : unit.derate = s.thermal.derate
  · have lone : ¬(s.thermal.derate = 0 ∧ 0 < unit.derate) := by omega
    rw [if_pos same, if_pos same, if_neg lone, if_neg lone]
  · rw [if_neg same, if_neg same]
    split
    · rfl
    · rfl

theorem exec_thermalReading {s : State} (works : s.Works) (sensor : Int) :
    exec (.thermalReading sensor) s = .next (s.thermalReading sensor) :=
  congrArg _ (State.unlessHeld_works works _)

/-- Settles O23: one step per weight, and the four cases of the derate. -/
theorem weightStepsAndThermalReadings : Obligations.WeightStepsAndThermalReadings := by
  refine ⟨fun s works => ⟨_, exec_weightRampStep works, rfl, fun i z target aim cabin => ?_⟩, fun s sensor works => ?_⟩
  · have e : target = s.mixer.targetWeight z i := by
      have speaker := (s.mixer.speaker_eq i).symm
      cases z with
      | cabin => exact aim.trans (congrArg (weightFor s.mixer.cabin.balance s.mixer.cabin.fade) speaker)
      | front => exact aim.trans (congrArg (weightFor s.mixer.front.balance 0) speaker)
      | driver => exact aim
      | hp1 => exact aim
      | hp2 => exact aim
    rw [e, s.mixer.weight_weightStep cabin]
    exact stepToward_cases _ _
  · refine ⟨_, exec_thermalReading works sensor, ?_⟩
    rw [s.thermalReading_eq]
    obtain ⟨rises, stands, waits, recovers⟩ :=
      derateStep_cases (s.thermal.taken sensor).computed s.thermal.derate s.thermal.recovery
    refine ⟨rfl, fit_eq (by decide) _, computedDerate_eq _ _ _, fun h => ?_, fun h => ?_, fun h k => ?_, fun h k => ?_,
      fun same => if_pos same, fun moved => if_neg moved, rfl⟩
    · exact Prod.ext_iff.1 (rises h)
    · exact Prod.ext_iff.1 (stands h)
    · exact Prod.ext_iff.1 (waits h k)
    · obtain ⟨derate, recovery⟩ := Prod.ext_iff.1 (recovers h k)
      have positive : 0 < s.thermal.derate := Nat.zero_lt_of_lt h
      exact ⟨(congrArg (· + 1) derate).trans (Nat.sub_add_cancel positive), recovery⟩

end Sys2Proof.Machine
end

-- ==== support and settled obligations, part 45 ====
section
/-! SUPPORT. The statement on ZONE_BALANCE, TEMPERATURE and DERATE_SET. -/

namespace Sys2Proof.Machine

variable {s : State} {c : Byte} {p : List Byte}

/-! ## ZONE_BALANCE (R59) -/

theorem zoneBalance_bad (h : p.length ≠ 3 ∨ 2 ≤ u8At p 0) : zoneBalance p s = .refuse s .badArgument := by
  unfold zoneBalance
  rcases h with l | other
  · exact if_pos l
  · split
    · rfl
    · dsimp only
      split
      · rename_i cabin
        have := zoneOf_code cabin
        simp only [Zone.code] at this
        omega
      · rename_i front
        have := zoneOf_code front
        simp only [Zone.code] at this
        omega
      · rfl

theorem exec_zoneBalance (acc : s.Accepts .zoneBalance c p) :
    let b := fit (-10) 10 (i8At p 1)
    let f := fit (-10) 10 (i8At p 2)
    (p.length = 3 → u8At p 0 = 0 →
      exec (.zoneBalance c p) s = .next (s.served { s with mixer.cabin.balance := b, mixer.cabin.fade := f }
        .zoneBalance c p (u8 0 ++ i8 b ++ i8 f))) ∧
    (p.length = 3 → u8At p 0 = 1 →
      exec (.zoneBalance c p) s =
        .next (s.served { s with mixer.front.balance := b } .zoneBalance c p (u8 1 ++ i8 b ++ [0#8]))) ∧
    (p.length ≠ 3 ∨ 2 ≤ u8At p 0 → exec (.zoneBalance c p) s = .next (s.declined .zoneBalance c p .badArgument)) := by
  refine ⟨fun l cabin => congrArg _ (acc.ok ?_), fun l front => congrArg _ (acc.ok ?_),
    fun bad => congrArg _ (acc.refused (zoneBalance_bad bad))⟩
  · unfold zoneBalance
    rw [if_neg (by simpa using l), cabin]
    rfl
  · unfold zoneBalance
    rw [if_neg (by simpa using l), front]
    rfl

/-! ## TEMPERATURE, DERATE_SET (R47, R48) -/

theorem exec_temperature (acc : s.Accepts .temperature c p) :
    let x := fit (-40) 150 (i16At p 0)
    (p.length = 2 →
      exec (.temperature c p) s = .next (s.served { s with thermal.external := x } .temperature c p
        (i16 x ++ u8 s.thermal.source.code ++ i16 s.thermal.derate))) ∧
    (p.length ≠ 2 → exec (.temperature c p) s = .next (s.declined .temperature c p .badArgument)) :=
  ⟨fun l => congrArg _ (acc.ok (if_neg (by simpa using l))), fun l => congrArg _ (acc.refused (if_pos l))⟩

/-- The payload DERATE_SET takes: source, knee and slope in their ranges (R48). -/
def DerateFields (p : List Byte) : Prop :=
  p.length = 3 ∧ u8At p 0 ≤ 1 ∧ (60 ≤ u8At p 1 ∧ u8At p 1 ≤ 120) ∧ (1 ≤ u8At p 2 ∧ u8At p 2 ≤ 15)

theorem derateFields_iff :
    ¬(p.length ≠ 3 || 1 < u8At p 0 || u8At p 1 < 60 || 120 < u8At p 1 || u8At p 2 < 1 || 15 < u8At p 2) = true ↔
      DerateFields p := by
  simp only [Bool.or_eq_true, decide_eq_true_eq, DerateFields]
  omega

/-- Three bytes with a source code in front are echoed as they came. -/
theorem derateFields_echo (h : DerateFields p) :
    u8 (if u8At p 0 = 1 then ThermalSource.external else .internal).code ++ u8 (u8At p 1) ++ u8 (u8At p 2) = p := by
  obtain ⟨l, source, -⟩ := h
  obtain ⟨x, y, z, rfl⟩ := List.length_eq_three.1 l
  have code : (if x.toNat = 1 then ThermalSource.external else .internal).code = x.toNat := by
    have low : x.toNat ≤ 1 := source
    split
    · rename_i one
      exact one.symm
    · show 0 = x.toNat
      omega
  show u8 (if x.toNat = 1 then ThermalSource.external else .internal).code ++ u8 y.toNat ++ u8 z.toNat = _
  rw [code]
  simp [u8]

theorem exec_derateSet (acc : s.Accepts .derateSet c p) :
    (DerateFields p → c = 0 →
      exec (.derateSet c p) s =
        .next (s.served
          { s with
            thermal.source := if u8At p 0 = 1 then .external else .internal
            thermal.knee := u8At p 1
            thermal.slope := u8At p 2 }
          .derateSet c p (p ++ i16 s.thermal.derate))) ∧
    (¬DerateFields p → exec (.derateSet c p) s = .next (s.declined .derateSet c p .badArgument)) ∧
    (DerateFields p → c ≠ 0 → exec (.derateSet c p) s = .next (s.declined .derateSet c p .notPermitted)) := by
  refine ⟨fun good client => congrArg _ (acc.ok ?_), fun bad => congrArg _ (acc.refused ?_),
    fun good client => congrArg _ (acc.refused ?_)⟩
  · unfold derateSet
    rw [if_neg (derateFields_iff.2 good), if_neg (by simpa using client)]
    dsimp only
    rw [derateFields_echo good]
  · exact if_pos (Decidable.not_not.1 (fun free => bad (derateFields_iff.1 free)))
  · unfold derateSet
    rw [if_neg (derateFields_iff.2 good), if_pos client]

/-! ## Who may ask, and when (R117, R163, R172) -/

/-- A request the checks of R172 stop reaches no owning block. -/
theorem State.request_stopped {k : Request} {body : State → Answer} {r : Result} (takes : s.takesRequests = true)
    (fits : p.length ≤ 60) (stop : s.gate k c p = some r) (other : k ≠ .resume) :
    s.request k c p body = s.declined k c p r := by
  have empty : ∀ t : State, t.refusalPayload k r = [] := fun t => if_neg (by simp [other])
  unfold State.request State.declined
  rw [if_neg (by simp [takes]), if_neg (by omega), stop]
  simp only [empty]

theorem State.gate_limp {k : Request} (client : c.toNat ≤ 5) (limp : s.sup.state = .limp) (barred : k.limp = false) :
    s.gate k c p = some .limp := by
  unfold State.gate
  rw [if_neg (by omega), if_pos (by simp [limp, barred])]

/-- Outside LIMP a request that QUIET takes and no rear rule names is taken, but from client 2 under the lock (R117). -/
theorem State.gate_open {k : Request} (client : c.toNat ≤ 5) (run : s.sup.state ≠ .limp) (quiet : k.quiet = true)
    (rear : k.rear = .free) (lock : c ≠ 2 ∨ s.port.rearLock = false) : s.gate k c p = none := by
  have free : k.rearRefuses s.port.rearLock c p = false := by
    unfold Request.rearRefuses
    rw [rear]
    rcases lock with other | off
    · rw [decide_eq_false other]
      rfl
    · simp [off]
  unfold State.gate
  rw [if_neg (by omega), if_neg (by simp [run]), if_neg (by simp [quiet]), free]
  rfl

/-- Settles O19: each request by its fields, and the checks in front of them. -/
theorem balanceAndThermalRequests : Obligations.BalanceAndThermalRequests := by
  intro s c p
  refine ⟨exec_zoneBalance, exec_temperature, exec_derateSet, fun takes fits client => ⟨fun limp => ?_, fun run lock => ?_⟩⟩
  · exact ⟨congrArg _ (State.request_stopped takes fits (State.gate_limp client limp rfl) (by decide)),
      congrArg _ (State.request_stopped takes fits (State.gate_limp client limp rfl) (by decide))⟩
  · exact ⟨⟨takes, fits, State.gate_open client run rfl rfl lock⟩, takes, fits, State.gate_open client run rfl rfl lock⟩

end Sys2Proof.Machine
end

-- ==== support and settled obligations, part 46 ====
section
/-! SUPPORT. The Tuner Allocator's counts and the order of the Station Table through a piece of work: what a tuner has
of a program, who holds it, and one lemma for each primitive change of tuners and records. -/

namespace Sys2Proof.Machine

/-! ## Tuners (R63 to R65, R68, R91) -/

/-- A tuner with nothing of a program. -/
structure Tuner.Bare (t : Tuner) : Prop where
  users : t.users = 0
  frequency : t.frequency = none
  watch : t.watch = false
  af : t.af = .idle
  search : t.search = none
  retune : t.retune = none

/-- A tuner as it was but for what the counts do not read; one that is no PROGRAM stays bare. -/
structure Tuner.Alike (t u : Tuner) : Prop where
  role : u.role = .program ↔ t.role = .program
  frequency : u.frequency = t.frequency
  users : u.users = t.users
  watch : u.watch = t.watch
  bare : t.role ≠ .program → t.Bare → u.Bare

namespace Tuner.Alike

variable {t u v : Tuner}

theorem refl (t : Tuner) : t.Alike t := ⟨.rfl, rfl, rfl, rfl, fun _ => id⟩

theorem trans (h : t.Alike u) (k : u.Alike v) : t.Alike v where
  role := k.role.trans h.role
  frequency := k.frequency.trans h.frequency
  users := k.users.trans h.users
  watch := k.watch.trans h.watch
  bare := fun n b => k.bare (fun e => n (h.role.1 e)) (h.bare n b)

/-- Only what no count reads is changed. -/
theorem rest (a : u.role = t.role) (b : u.frequency = t.frequency) (c : u.users = t.users) (d : u.watch = t.watch)
    (e : u.af = t.af) (f : u.search = t.search) (g : u.retune = t.retune) : t.Alike u where
  role := by rw [a]
  frequency := b
  users := c
  watch := d
  bare := fun _ h => ⟨c.trans h.users, b.trans h.frequency, d.trans h.watch, e.trans h.af, f.trans h.search,
    g.trans h.retune⟩

/-- A program goes on as a program, whatever it searches or retunes to. -/
theorem program (h : t.role = .program) (a : u.role = .program) (b : u.frequency = t.frequency) (c : u.users = t.users)
    (d : u.watch = t.watch) : t.Alike u := ⟨by rw [h, a], b, c, d, fun n => absurd h n⟩

/-- A search or retune ended, or gone on. -/
theorem ended (a : u.role = t.role) (b : u.frequency = t.frequency) (c : u.users = t.users) (d : u.watch = t.watch)
    (e : t.af = .idle → u.af = .idle) (f : t.search = none → u.search = none) (g : t.retune = none → u.retune = none) :
    t.Alike u where
  role := by rw [a]
  frequency := b
  users := c
  watch := d
  bare := fun _ h => ⟨c.trans h.users, b.trans h.frequency, d.trans h.watch, e h.af, f h.search, g h.retune⟩

theorem holds (h : t.Alike u) (f : Nat) : u.holds f = t.holds f := by
  unfold Tuner.holds
  rw [h.frequency, decide_eq_decide.2 h.role]

end Tuner.Alike

theorem Tuner.holds_iff (t : Tuner) (f : Nat) : t.holds f = true ↔ t.role = .program ∧ t.frequency = some f := by
  simp [Tuner.holds]

theorem Tuner.unpartnered_alike (t : Tuner) : t.Alike t.unpartnered := by
  unfold Tuner.unpartnered
  split
  · rename_i e
    exact ⟨by simp [e], rfl, rfl, rfl, fun _ b => ⟨b.users, b.frequency, b.watch, b.af, b.search, b.retune⟩⟩
  · exact .refl t

theorem forall_tuner {P : TunerId → Prop} (x : TunerId) (a : P x) (b : P (otherTuner x)) : ∀ y, P y := fun y => by
  by_cases e : y = x
  · rw [e]
    exact a
  · rw [← otherTuner_of_ne e]
    exact b

theorem exists_tuner {P : TunerId → Prop} (x : TunerId) : (∃ y, P y) ↔ P x ∨ P (otherTuner x) := by
  refine ⟨fun ⟨y, h⟩ => ?_, fun h => h.elim (fun a => ⟨_, a⟩) (fun a => ⟨_, a⟩)⟩
  by_cases e : y = x
  · exact .inl (e ▸ h)
  · exact .inr (otherTuner_of_ne e ▸ h)

/-- The tuners against a number of routes for each: `loose` are the programs that may have lost their last holder. -/
structure State.Tuned (s : State) (loose : TunerId → Prop) (n : TunerId → Nat) : Prop where
  apart : s.TunersApart
  users : ∀ x, (s.tuner x).users = n x
  held : ∀ x, (s.tuner x).role = .program → ¬loose x → 0 < (s.tuner x).users ∨ (s.tuner x).watch = true
  placed : ∀ x, (s.tuner x).role = .program → (s.tuner x).frequency.isSome = true
  bare : ∀ x, (s.tuner x).role ≠ .program → (s.tuner x).Bare
  inUse : ∀ f, f ∈ s.stations.inUse ↔ ∃ x, (s.tuner x).holds f = true

variable {s t u : State} {loose : TunerId → Prop} {n : TunerId → Nat}

theorem State.apart_iff (s : State) (x : TunerId) :
    s.TunersApart ↔ ∀ f, ¬((s.tuner x).holds f = true ∧ (s.tuner (otherTuner x)).holds f = true) := by
  cases x
  · exact Iff.rfl
  · exact forall_congr' (fun f => not_congr and_comm)

theorem State.TunersApart.of_holds (h : s.TunersApart) (a : ∀ y f, (t.tuner y).holds f = (s.tuner y).holds f) :
    t.TunersApart := by
  rw [State.apart_iff _ .t1] at h ⊢
  intro f
  rw [a, a]
  exact h f

theorem State.Tuned.alike (h : s.Tuned loose n) (a : ∀ y, (s.tuner y).Alike (t.tuner y))
    (i : t.stations.inUse = s.stations.inUse) : t.Tuned loose n where
  apart := h.apart.of_holds (fun y f => (a y).holds f)
  users := fun x => (a x).users.trans (h.users x)
  held := fun x p l => by
    rw [(a x).users, (a x).watch]
    exact h.held x ((a x).role.1 p) l
  placed := fun x p => by
    rw [(a x).frequency]
    exact h.placed x ((a x).role.1 p)
  bare := fun x p => (a x).bare (fun e => p ((a x).role.2 e)) (h.bare x (fun e => p ((a x).role.2 e)))
  inUse := fun f => by
    rw [i, h.inUse f]
    exact exists_congr (fun y => by rw [(a y).holds])

/-- A tuner with something of a program is one. -/
theorem State.Tuned.program (h : s.Tuned loose n) {x : TunerId} (a : ¬(s.tuner x).Bare) : (s.tuner x).role = .program := by
  by_contra p
  exact a (h.bare x p)

/-- The in-use set once a tuner's frequency has left it (R91). -/
def State.inUseWithout (s : State) (x : TunerId) : List Nat :=
  match (s.tuner x).frequency with
  | some old => s.stations.inUse.filter (· ≠ old)
  | none => s.stations.inUse

theorem State.Tuned.inUseWithout (h : s.Tuned loose n) (x : TunerId) (f : Nat) :
    f ∈ s.inUseWithout x ↔ (s.tuner (otherTuner x)).holds f = true := by
  have split := (h.inUse f).trans (exists_tuner x)
  have apart := (s.apart_iff x).1 h.apart f
  unfold State.inUseWithout
  cases e : (s.tuner x).frequency with
  | none =>
    have no : ¬(s.tuner x).holds f = true := fun k => by
      rw [Tuner.holds_iff, e] at k
      cases k.2
    dsimp only
    rw [split]
    exact or_iff_right no
  | some old =>
    have program : (s.tuner x).role = .program := h.program (fun b => by
      rw [b.frequency] at e
      cases e)
    have here : (s.tuner x).holds f = true ↔ f = old := by
      rw [Tuner.holds_iff, e]
      exact ⟨fun k => (Option.some.inj k.2).symm, fun k => ⟨program, by rw [k]⟩⟩
    rw [here] at split apart
    simp only [List.mem_filter, split, ne_eq, decide_not, Bool.not_eq_true', decide_eq_false_iff_not]
    exact ⟨fun k => k.1.resolve_left k.2, fun k => ⟨.inr k, fun e => apart ⟨e, k⟩⟩⟩

/-! ## Records (R88, R92) -/

theorem Stations.Ordered.of_records {a b : Stations} (h : a.Ordered) (e : b.records = a.records) : b.Ordered := by
  unfold Stations.Ordered
  rw [e]
  exact h

/-- Records changed one by one stay where they stand. -/
theorem Stations.Ordered.mapped {a b : Stations} (h : a.Ordered) (g : Station → Station)
    (k : ∀ r, (g r).frequency = r.frequency) (e : b.records = a.records.map g) : b.Ordered := by
  unfold Stations.Ordered
  rw [e, List.pairwise_map, List.length_map]
  simp only [k]
  exact h

theorem Stations.Ordered.update {a : Stations} (h : a.Ordered) (f : Nat) (g : Station → Station)
    (k : ∀ r, (g r).frequency = r.frequency) : (a.update f g).Ordered := by
  refine h.mapped (fun r => if r.frequency = f then g r else r) (fun r => ?_) rfl
  split
  · exact k r
  · rfl

theorem Stations.Ordered.filtered {a b : Stations} (h : a.Ordered) (p : Station → Bool)
    (e : b.records = a.records.filter p) : b.Ordered := by
  unfold Stations.Ordered
  rw [e]
  exact ⟨h.1.filter _, (List.length_filter_le _ _).trans h.2⟩

theorem insertRecord_length (r : Station) (rs : List Station) : (insertRecord r rs).length = rs.length + 1 := by
  induction rs with
  | nil => rfl
  | cons x xs ih =>
    unfold insertRecord
    split
    · rfl
    · simp [ih]

theorem mem_insertRecord {r a : Station} {rs : List Station} : a ∈ insertRecord r rs ↔ a = r ∨ a ∈ rs := by
  induction rs with
  | nil => simp [insertRecord]
  | cons x xs ih =>
    unfold insertRecord
    split
    · simp
    · rw [List.mem_cons, ih, List.mem_cons]
      exact or_left_comm

/-- A record of a frequency that has none is placed in order. -/
theorem insertRecord_ordered {r : Station} {rs : List Station} (h : rs.Pairwise (fun a b => a.frequency < b.frequency))
    (k : ∀ x ∈ rs, x.frequency ≠ r.frequency) : (insertRecord r rs).Pairwise (fun a b => a.frequency < b.frequency) := by
  induction rs with
  | nil => exact List.pairwise_singleton _ _
  | cons x xs ih =>
    obtain ⟨first, later⟩ := List.pairwise_cons.1 h
    have apart := k x List.mem_cons_self
    unfold insertRecord
    split
    · rename_i lt
      exact List.pairwise_cons.2 ⟨fun a m => by
        rcases List.mem_cons.1 m with rfl | m
        · exact lt
        · exact lt.trans (first a m), h⟩
    · rename_i le
      refine List.pairwise_cons.2 ⟨fun a m => ?_, ih later (fun a m => k a (List.mem_cons_of_mem _ m))⟩
      rcases mem_insertRecord.1 m with rfl | m
      · omega
      · exact first a m

/-- The victim is one of the records (R92). -/
theorem Stations.victim_mem {a : Stations} {v : Station} (h : a.victim = some v) : v ∈ a.records := by
  have folded : ∀ (rs : List Station) (m : Option Station), (∀ b, m = some b → b ∈ a.records) →
      (∀ r ∈ rs, r ∈ a.records) → ∀ b, rs.foldl (fun m r =>
        match m with
        | none => some r
        | some b => if r.worse b then some r else some b) m = some b → b ∈ a.records := by
    intro rs
    induction rs with
    | nil => exact fun m k _ => k
    | cons r rs ih =>
      intro m k l
      refine ih _ (fun b e => ?_) (fun x mx => l x (List.mem_cons_of_mem _ mx))
      have mr := l r List.mem_cons_self
      cases m with
      | none => exact Option.some.inj e ▸ mr
      | some c =>
        dsimp only at e
        split at e
        · exact Option.some.inj e ▸ mr
        · exact k b e
  exact folded _ none (fun b e => nomatch e) (fun r m => List.mem_of_mem_filter m) v h

theorem dropRecord_length {v : Station} {rs : List Station} (h : v ∈ rs) :
    (dropRecord v.frequency rs).length + 1 ≤ rs.length := by
  unfold dropRecord
  exact List.length_filter_lt_length_iff_exists.2 ⟨v, h, by simp⟩

theorem Stations.find_none {a : Stations} {f : Nat} (h : a.find f = none) : ∀ r ∈ a.records, r.frequency ≠ f := by
  intro r m e
  exact List.find?_eq_none.1 h r m (decide_eq_true e)

/-- A record of a frequency that has none is inserted in order, and none more than 48 (R88, R92). -/
theorem Stations.Ordered.inserted {a b : Stations} (h : a.Ordered) {r : Station} (absent : a.find r.frequency = none)
    (e : a.inserted r = some b.records) : b.Ordered := by
  obtain ⟨ordered, few⟩ := h
  have apart := Stations.find_none absent
  unfold Stations.inserted at e
  split at e
  · rename_i room
    have placed := Option.some.inj e
    unfold Stations.Ordered
    rw [← placed]
    exact ⟨insertRecord_ordered ordered apart, by rw [insertRecord_length]; exact room⟩
  · split at e
    · rename_i v victim
      have placed := Option.some.inj e
      unfold Stations.Ordered
      rw [← placed]
      refine ⟨insertRecord_ordered (ordered.filter _) (fun x m => apart x (List.mem_of_mem_filter m)), ?_⟩
      rw [insertRecord_length]
      exact (dropRecord_length (Stations.victim_mem victim)).trans few
    · cases e

end Sys2Proof.Machine
end

-- ==== support and settled obligations, part 47 ====
section
/-! SUPPORT. Work that moves no program, waiting claim or route to another tuner: what it retains of the counts. -/

namespace Sys2Proof.Machine

/-- What the counts read of a route. -/
structure Stake where
  handle : Handle
  owner : Nat
  source : Source
  tuner : Option TunerId

/-- The stake of a route. -/
def Route.stake (r : Route) : Stake := { handle := r.handle, owner := r.owner, source := r.source, tuner := r.tuner }

/-- The stakes of the Route Table. -/
def State.stakes (s : State) : List Stake := s.routes.map Route.stake

theorem Route.Keeps.stake {r n : Route} (h : r.Keeps n) : n.stake = r.stake := by
  unfold Route.stake Route.handle
  rw [h.slot, h.reuse, h.owner, h.source, h.tuner]

theorem stakes_of_keeps {rs ns : List Route} (h : List.Forall₂ Route.Keeps rs ns) :
    ns.map Route.stake = rs.map Route.stake := forall₂_map_eq h _ (fun _ _ k => k.stake)

theorem stakes_of_settles {rs ns : List Route} (h : List.Forall₂ Route.Settles rs ns) :
    ns.map Route.stake = rs.map Route.stake := forall₂_map_eq h _ (fun _ _ k => k.keeps.stake)

/-- Work that leaves stakes and waiting claims, keeps the tuners apart and the Station Table in order. -/
structure State.KeepsOrder (s t : State) : Prop where
  apart : s.TunersApart → t.TunersApart
  ordered : s.stations.Ordered → t.stations.Ordered
  stakes : t.stakes = s.stakes
  waiting : t.tuners.waiting = s.tuners.waiting

theorem State.KeepsOrder.trans {s t u : State} (h : s.KeepsOrder t) (k : t.KeepsOrder u) : s.KeepsOrder u where
  apart := fun a => k.apart (h.apart a)
  ordered := fun a => k.ordered (h.ordered a)
  stakes := k.stakes.trans h.stakes
  waiting := k.waiting.trans h.waiting

/-- Work that also retains the tuners' counts. -/
structure State.Retains (s t : State) : Prop extends s.KeepsOrder t where
  tuned : ∀ loose n, s.Tuned loose n → t.Tuned loose n

/-- Work that leaves the tuners alike, over the same in-use set. -/
structure State.Alike (s t : State) : Prop where
  tuners : ∀ y, (s.tuner y).Alike (t.tuner y)
  inUse : t.stations.inUse = s.stations.inUse
  ordered : s.stations.Ordered → t.stations.Ordered
  stakes : t.stakes = s.stakes
  waiting : t.tuners.waiting = s.tuners.waiting

section
variable {s t u : State}

theorem State.Retains.refl (s : State) : s.Retains s := ⟨⟨id, id, rfl, rfl⟩, fun _ _ => id⟩

theorem State.Retains.trans (h : s.Retains t) (k : t.Retains u) : s.Retains u :=
  ⟨h.toKeepsOrder.trans k.toKeepsOrder, fun l n a => k.tuned l n (h.tuned l n a)⟩

namespace State.Alike

theorem retains (h : s.Alike t) : s.Retains t where
  apart := fun a => a.of_holds (fun y f => (h.tuners y).holds f)
  ordered := h.ordered
  stakes := h.stakes
  waiting := h.waiting
  tuned := fun _ _ a => a.alike h.tuners h.inUse

theorem refl (s : State) : s.Alike s := ⟨fun _ => .refl _, rfl, id, rfl, rfl⟩

theorem trans (h : s.Alike t) (k : t.Alike u) : s.Alike u where
  tuners := fun y => (h.tuners y).trans (k.tuners y)
  inUse := k.inUse.trans h.inUse
  ordered := fun a => k.ordered (h.ordered a)
  stakes := k.stakes.trans h.stakes
  waiting := k.waiting.trans h.waiting

/-- The tuners as they were. -/
theorem stations (a : t.tuners = s.tuners) (b : t.stations.inUse = s.stations.inUse)
    (c : s.stations.Ordered → t.stations.Ordered) (d : t.stakes = s.stakes) : s.Alike t := by
  refine ⟨fun y => ?_, b, c, d, by rw [a]⟩
  unfold State.tuner
  rw [a]
  exact .refl _

/-- Tuners and stations as they were. -/
theorem rest (a : t.tuners = s.tuners) (b : t.stations = s.stations) (c : t.stakes = s.stakes) : s.Alike t :=
  stations a (by rw [b]) (by rw [b]; exact id) c

/-- Work on routes in place that keeps their stakes. -/
theorem ofRoute (h : RouteFrame s t) (k : t.stakes = s.stakes) : s.Alike t :=
  rest (by rw [h.rest]) (by rw [h.rest]) k

theorem folded {α : Type} (f : State → α → State) (h : ∀ (t : State) a, t.Alike (f t a)) (xs : List α) (s : State) :
    s.Alike (xs.foldl f s) := by
  induction xs generalizing s with
  | nil => exact .refl s
  | cons a xs ih => exact (h s a).trans (ih _)

end State.Alike

end

variable (s : State)

/-! ## Routes in place -/

theorem State.stakes_of_routes {s t : State} (h : t.routes = s.routes) : t.stakes = s.stakes := by
  unfold State.stakes
  rw [h]

theorem State.putRoutes_alike {rs : List Route} (h : List.Forall₂ Route.Keeps s.routes rs) :
    s.Alike (s.putRoutes rs) :=
  .rest (by rw [s.putRoutes_rest]) (by rw [s.putRoutes_rest]) (by
    unfold State.stakes
    rw [s.putRoutes_routes]
    exact stakes_of_keeps h)

theorem State.rerunAll_alike (ds : List Domain) : s.Alike (s.rerunAll ds) :=
  .ofRoute (s.rerunAll_frame ds) (stakes_of_settles (settles_arbitrates.rerunAll s trivial ds))

theorem State.rerun_alike (d : Domain) : s.Alike (s.rerun d) :=
  .ofRoute (s.rerun_frame d) (stakes_of_settles (settles_arbitrates.rerun s trivial d))

theorem State.commitRoutes_tuners (rs : List Route) : (s.commitRoutes rs).tuners = s.tuners := by
  rw [s.commitRoutes_rest]

theorem State.commitRoutes_stations (rs : List Route) : (s.commitRoutes rs).stations = s.stations := by
  rw [s.commitRoutes_rest]

/-- A notice: the stakes of the routes told, and no change to tuners and stations. -/
theorem State.notice_stakes (p : Route → Bool) (f : Route → Route) :
    (s.notice p f).stakes = s.routes.map (fun r => (if p r then f r else r).stake) ∧
      (s.notice p f).tuners = s.tuners ∧ (s.notice p f).stations = s.stations := by
  have ran := State.rerunAll_frame (s.commitRoutes (s.routes.map (fun r => if p r then f r else r))) (domainsOf p s.routes)
  refine ⟨(State.rerunAll_alike _ _).stakes.trans ?_, ?_, ?_⟩
  · unfold State.stakes
    rw [s.commitRoutes_routes, List.map_map]
    rfl
  · unfold State.notice
    rw [ran.rest]
    exact s.commitRoutes_tuners _
  · unfold State.notice
    rw [ran.rest]
    exact s.commitRoutes_stations _

theorem State.notice_alike (p : Route → Bool) (f : Route → Route) (h : ∀ r : Route, r.Keeps (f r)) :
    s.Alike (s.notice p f) := by
  obtain ⟨stakes, tuners, stations⟩ := s.notice_stakes p f
  refine .rest tuners stations (stakes.trans (List.map_congr_left (fun r _ => ?_)))
  split
  · exact (h r).stake
  · rfl

theorem State.notifyTuner_alike (x : TunerId) (c : Condition) : s.Alike (s.notifyTuner x c) :=
  s.notice_alike _ _ (s.notified_keeps c)

theorem State.retargetWhere_alike (p : Route → Bool) (k : RampClass) : s.Alike (s.retargetWhere p k) :=
  s.putRoutes_alike (forall₂_map_of _ _ (fun r _ => by
    split
    · exact s.retarget_keeps k r
    · exact .refl r))

theorem State.raiseIf_alike (c : Bool) (e : EventSource) : s.Alike (s.raiseIf c e) :=
  .rest (by simp) (by simp) (State.stakes_of_routes (by simp))

theorem State.markSlots_alike (m : BitVec 24) : s.Alike (s.markSlots m) :=
  .rest (by simp) (by simp) (State.stakes_of_routes (by simp))

/-! ## Tuners -/

theorem State.setTuner_waiting (x : TunerId) (t : Tuner) : (s.setTuner x t).tuners.waiting = s.tuners.waiting := by
  cases x <;> rfl

theorem State.setTuner_alike {x : TunerId} {t : Tuner} (h : (s.tuner x).Alike t) : s.Alike (s.setTuner x t) := by
  refine ⟨forall_tuner x ?_ ?_, by simp, by simp, State.stakes_of_routes (by simp), s.setTuner_waiting x t⟩
  · rw [State.tuner_setTuner_same]
    exact h
  · rw [State.tuner_setTuner_other]
    exact .refl _

theorem State.cancelScan_alike (x : TunerId) : s.Alike (s.cancelScan x) := by
  unfold State.cancelScan
  split
  · have given : s.Alike { s with stations := s.stations.giveBack x } :=
      .stations rfl (s.stations.giveBack_records x).2.2 (fun h => h.of_records (s.stations.giveBack_records x).1) rfl
    exact given.trans (State.setTuner_alike _ (by cases x <;> exact .rest rfl rfl rfl rfl rfl rfl rfl))
  · exact .refl s

theorem State.cancelCheck_alike (x : TunerId) : s.Alike (s.cancelCheck x) := by
  unfold State.cancelCheck
  split
  · exact s.setTuner_alike (.rest rfl rfl rfl rfl rfl rfl rfl)
  · exact .refl s

theorem State.abortSearchBy_alike (x : TunerId) : s.Alike (s.abortSearchBy x) := by
  unfold State.abortSearchBy
  dsimp only
  split
  · split
    · exact s.setTuner_alike (.ended rfl rfl rfl rfl (fun _ => rfl) (fun _ => rfl) id)
    · exact .refl s
  · exact .refl s

theorem State.unpair_alike : s.Alike s.unpair :=
  ⟨fun y => by rw [State.unpair_tuner]; exact Tuner.unpartnered_alike _, rfl, id, rfl, rfl⟩

theorem State.unpairIfPaired_alike : s.Alike (if s.tuners.link = .none then s else s.unpair) := by
  split
  · exact .refl s
  · exact s.unpair_alike

theorem State.abandonRetune_alike (x : TunerId) : s.Alike (s.abandonRetune x) :=
  (s.setTuner_alike (t := { s.tuner x with retune := none }) (.ended rfl rfl rfl rfl id id (fun _ => rfl))).trans
    (State.notifyTuner_alike _ _ _)

theorem State.endSearch_alike (x : TunerId) : s.Alike (s.endSearch x) := by
  unfold State.endSearch
  extract_lets t s1 src s2
  have one : s.Alike s1 := by
    unfold s1
    split
    · exact s.cancelCheck_alike _
    · exact .refl s
  have two : s.Alike s2 :=
    one.trans (State.setTuner_alike _ (.ended rfl rfl rfl rfl (fun _ => rfl) (fun _ => rfl) id))
  split
  · exact two.trans (State.abandonRetune_alike _ _)
  · exact two

theorem State.holdStreak_alike (x : TunerId) : s.Alike (s.holdStreak x) := by
  unfold State.holdStreak
  extract_lets t listed
  split
  · exact s.setTuner_alike (.rest rfl rfl rfl rfl rfl rfl rfl)
  · exact .refl s

theorem State.followCode_alike (x : TunerId) (f c : Nat) : s.Alike (s.followCode x f c) := by
  have coded : s.Alike (s.setTuner x { s.tuner x with code := some c }) :=
    s.setTuner_alike (.rest rfl rfl rfl rfl rfl rfl rfl)
  unfold State.followCode
  dsimp only
  split
  · split
    · exact coded.trans (State.endSearch_alike _ _)
    · exact coded
  · exact .refl s

theorem State.setTuner_setTuner (x : TunerId) (t u : Tuner) : (s.setTuner x t).setTuner x u = s.setTuner x u := by
  cases x <;> rfl

/-- A retune begun on a tuner's record: only a program's may be (R77). -/
theorem State.beginRetune_alike {x : TunerId} {t : Tuner} (k : RetuneKind)
    (h : (s.tuner x).Alike { t with retune := some ⟨k, false⟩ }) : s.Alike ((s.setTuner x t).beginRetune x k) := by
  have retuned := s.setTuner_alike h
  unfold State.beginRetune
  rw [State.tuner_setTuner_same, State.setTuner_setTuner]
  refine retuned.trans (State.putRoutes_alike _ (forall₂_map_of _ _ (fun r _ => ?_)))
  split
  · exact r.fade_keeps
  · exact .refl r

/-- A tuner that is not bare but as a program goes on, whatever it searches or retunes to. -/
theorem Tuner.Alike.busy {t u : Tuner} (h : t.Bare → t.role = .program) (a : u.role = t.role)
    (b : u.frequency = t.frequency) (c : u.users = t.users) (d : u.watch = t.watch) : t.Alike u :=
  ⟨by rw [a], b, c, d, fun n k => absurd (h k) n⟩

theorem State.concludeSearch_alike {x : TunerId} (h : (s.tuner x).Bare → (s.tuner x).role = .program)
    (b : Option (Nat × Nat)) (confirm : Bool) : s.Alike (s.concludeSearch x b confirm) := by
  unfold State.concludeSearch
  split
  · split
    · exact s.setTuner_alike (.busy h rfl rfl rfl rfl)
    · exact s.beginRetune_alike _ (.busy h rfl rfl rfl rfl)
  · exact s.setTuner_alike (.busy h rfl rfl rfl rfl)

end Sys2Proof.Machine
end

-- ==== support and settled obligations, part 48 ====
section
/-! SUPPORT. Tuners taken, shared, left and moved: what becomes of the counts (R65, R68, R69, R77, R91). -/

namespace Sys2Proof.Machine

variable {s : State}

/-! ## Records -/

theorem State.update_alike (s : State) (f : Nat) (g : Station → Station) (h : ∀ r, (g r).frequency = r.frequency) :
    s.Alike { s with stations := s.stations.update f g } := .stations rfl rfl (fun k => k.update f g h) rfl

theorem State.insertStation_alike (s : State) {r : Station} (absent : s.stations.find r.frequency = none) :
    s.Alike (s.insertStation r) := by
  unfold State.insertStation
  split
  · rename_i rs e
    exact .stations rfl rfl (fun k => k.inserted (b := { s.stations with records := rs }) absent e) rfl
  · unfold State.reportFull
    split
    · split
      · exact .refl s
      · exact .stations rfl rfl (fun k => k.of_records rfl) rfl
    · exact .rest rfl rfl rfl

theorem State.ensureStation_alike (s : State) (f : Nat) : s.Alike (s.ensureStation f) := by
  unfold State.ensureStation
  split
  · exact .refl s
  · rename_i absent
    exact s.insertStation_alike absent

theorem State.refreshStation_alike (s : State) (f : Nat) (m : Measurement) : s.Alike (s.refreshStation f m) :=
  (s.ensureStation_alike f).trans (State.update_alike _ _ _ (fun _ => rfl))

theorem State.joinInUse_ordered (f : Nat) (h : s.stations.Ordered) : (s.joinInUse f).stations.Ordered :=
  (State.ensureStation_alike { s with stations.inUse := f :: s.stations.inUse.filter (· ≠ f) } f).ordered h

theorem State.tellWatch_alike (s : State) (f : Nat) (x : TunerId) : s.Alike (s.tellWatch f x) :=
  .stations rfl rfl (fun k => k.update (a := { s.stations with watch := some (f, x) }) f
    (fun r => { r with active := false }) (fun _ => rfl)) rfl

/-! ## A tuner taken (R65, R69) -/

/-- The state once a tuner has given up what it was doing before it is taken (R72, R74, R84). -/
def State.yielded (s : State) (x : TunerId) : State :=
  let u := ((s.cancelScan x).cancelCheck x).abortSearchBy x
  if u.tuners.link = .none then u else u.unpair

theorem State.yielded_alike (s : State) (x : TunerId) : s.Alike (s.yielded x) :=
  (((s.cancelScan_alike x).trans (State.cancelCheck_alike _ x)).trans (State.abortSearchBy_alike _ x)).trans
    (State.unpairIfPaired_alike _)

/-- The state once a tuner's frequency has left the in-use set (R91). -/
def State.departed (s : State) (x : TunerId) : State :=
  match (s.tuner x).frequency with
  | some old => s.leaveInUse old
  | none => s

theorem State.departed_spec (s : State) (x : TunerId) : (s.departed x).stations.inUse = s.inUseWithout x ∧
    (s.departed x).tuners = s.tuners ∧ (s.departed x).stations.records = s.stations.records ∧
    (s.departed x).routes = s.routes := by
  unfold State.inUseWithout State.departed
  cases (s.tuner x).frequency <;> exact ⟨rfl, rfl, rfl, rfl⟩

/-- A tuner whose frequency leaves the in-use set and that then holds another, which no other program is on. -/
theorem State.Tuned.placed_on {t : State} {loose looser : TunerId → Prop} {n m : TunerId → Nat} (h : s.Tuned loose n)
    {x : TunerId} {f : Nat} (program : (t.tuner x).role = .program) (frequency : (t.tuner x).frequency = some f)
    (users : (t.tuner x).users = m x) (held : ¬looser x → 0 < (t.tuner x).users ∨ (t.tuner x).watch = true)
    (other : t.tuner (otherTuner x) = s.tuner (otherTuner x)) (rest : n (otherTuner x) = m (otherTuner x))
    (loosens : loose (otherTuner x) → looser (otherTuner x))
    (away : (s.tuner (otherTuner x)).holds f = false) (inUse : t.stations.inUse = f :: (s.inUseWithout x).filter (· ≠ f)) :
    t.Tuned looser m where
  apart := by
    rw [State.apart_iff t x]
    rintro g ⟨a, b⟩
    rw [Tuner.holds_iff, frequency] at a
    rw [other, ← Option.some.inj a.2, away] at b
    cases b
  users := forall_tuner x users (by rw [other, h.users, rest])
  held := forall_tuner x (fun _ => held) (fun p l => by
    rw [other] at p ⊢
    exact h.held _ p (fun a => l (loosens a)))
  placed := forall_tuner x (fun _ => by rw [frequency]; rfl) (fun p => by
    rw [other] at p ⊢
    exact h.placed _ p)
  bare := forall_tuner x (fun p => absurd program p) (fun p => by
    rw [other] at p ⊢
    exact h.bare _ p)
  inUse := fun g => by
    have here : (t.tuner x).holds g = true ↔ g = f := by
      rw [Tuner.holds_iff, frequency]
      exact ⟨fun k => (Option.some.inj k.2).symm, fun k => ⟨program, by rw [k]⟩⟩
    rw [exists_tuner x, here, other, inUse, List.mem_cons, List.mem_filter, h.inUseWithout x g]
    by_cases e : g = f
    · simp [e]
    · simp [e]

/-- The record a tuner takes up as a program (R65, R67). -/
def Tuner.taken (f users : Nat) (watch : Bool) (code : Option Nat) : Tuner :=
  { Tuner.free with
    role := .program, frequency := some f, code := code, users := users, watch := watch, activity := .retune }

/-- The state in which a program takes up its frequency: its old one left, the new one joined (R91). -/
def State.joined (s : State) (x : TunerId) (f : Nat) : State := (s.departed x).joinInUse f

theorem State.joined_spec (s : State) (x : TunerId) (f : Nat) :
    (∀ y, (s.joined x f).tuner y = s.tuner y) ∧ (s.joined x f).tuners = s.tuners ∧
      (s.joined x f).stations.inUse = f :: (s.inUseWithout x).filter (· ≠ f) ∧
      (s.stations.Ordered → (s.joined x f).stations.Ordered) ∧ (s.joined x f).routes = s.routes := by
  obtain ⟨inUse, tuners, records, routes⟩ := s.departed_spec x
  have same : (s.joined x f).tuners = s.tuners := (State.joinInUse_tuners f).trans tuners
  refine ⟨fun y => ?_, same, ?_, fun o => State.joinInUse_ordered f (o.of_records records), ?_⟩
  · unfold State.tuner
    rw [same]
  · unfold State.joined
    rw [State.joinInUse_inUse, inUse]
  · unfold State.joined
    rw [State.joinInUse_routes, routes]

theorem State.takeTuner_eq (s : State) (x : TunerId) (f users : Nat) (watch : Bool) : ∃ code,
    s.takeTuner x f users watch = ((s.yielded x).joined x f).setTuner x (.taken f users watch code) := ⟨_, rfl⟩

/-- The program a tuner is taken for is on a frequency of its own. -/
theorem State.apart_of_placed {x : TunerId} {f : Nat} (frequency : (s.tuner x).frequency = some f)
    (away : (s.tuner (otherTuner x)).holds f = false) : s.TunersApart := by
  rw [State.apart_iff s x]
  rintro g ⟨a, b⟩
  rw [Tuner.holds_iff, frequency] at a
  rw [← Option.some.inj a.2, away] at b
  cases b

section
variable {x : TunerId} {f : Nat} (away : (s.tuner (otherTuner x)).holds f = false) (users : Nat) (watch : Bool)
include away

theorem State.takeTuner_keepsOrder : s.KeepsOrder (s.takeTuner x f users watch) := by
  have yields := s.yielded_alike x
  obtain ⟨same, tuners, -, ordered, routes⟩ := (s.yielded x).joined_spec x f
  obtain ⟨code, e⟩ := s.takeTuner_eq x f users watch
  rw [e]
  refine ⟨fun _ => State.apart_of_placed (x := x) (f := f) ?_ ?_, fun o => ?_, ?_, ?_⟩
  · rw [State.tuner_setTuner_same]
    rfl
  · rw [State.tuner_setTuner_other, same, (yields.tuners _).holds]
    exact away
  · rw [State.setTuner_stations]
    exact ordered (yields.ordered o)
  · exact (State.stakes_of_routes (by rw [State.setTuner_routes, routes])).trans yields.stakes
  · rw [State.setTuner_waiting, tuners, yields.waiting]

theorem State.Tuned.takeTuner {loose looser : TunerId → Prop} {n m : TunerId → Nat} (h : s.Tuned loose n)
    (held : ¬looser x → 0 < users ∨ watch = true) (here : m x = users) (rest : n (otherTuner x) = m (otherTuner x))
    (loosens : loose (otherTuner x) → looser (otherTuner x)) : (s.takeTuner x f users watch).Tuned looser m := by
  have yields := s.yielded_alike x
  obtain ⟨same, -, inUse, -, -⟩ := (s.yielded x).joined_spec x f
  obtain ⟨code, e⟩ := s.takeTuner_eq x f users watch
  have program : (s.takeTuner x f users watch).tuner x = .taken f users watch code := by
    rw [e, State.tuner_setTuner_same]
  have other : (s.takeTuner x f users watch).tuner (otherTuner x) = (s.yielded x).tuner (otherTuner x) := by
    rw [e, State.tuner_setTuner_other, same]
  refine (yields.retains.tuned _ _ h).placed_on (x := x) (f := f) ?_ ?_ ?_ ?_ other rest loosens ?_ ?_
  · rw [program]
    rfl
  · rw [program]
    rfl
  · rw [program, here]
    rfl
  · rw [program]
    exact held
  · rw [(yields.tuners _).holds]
    exact away
  · rw [e, State.setTuner_stations, inUse]

end

/-! ## The watch's claims (R69, R70) -/

theorem State.holder_none_iff {f : Nat} : s.holder f = none ↔ ∀ y, (s.tuner y).holds f = false := by
  refine ⟨fun h => ?_, State.holder_none⟩
  unfold State.holder at h
  split at h
  · cases h
  · split at h
    · cases h
    · rename_i one two
      exact forall_tuner .t1 (Bool.eq_false_of_not_eq_true one) (Bool.eq_false_of_not_eq_true two)

theorem State.holder_holds {f : Nat} {x : TunerId} (h : s.holder f = some x) : (s.tuner x).holds f = true := by
  unfold State.holder at h
  split at h
  · rename_i one
    cases h
    exact one
  · split at h
    · rename_i two
      cases h
      exact two
    · cases h

/-- A tuner without a program has no routes. -/
theorem State.Tuned.unused {loose : TunerId → Prop} {n : TunerId → Nat} (h : s.Tuned loose n) {x : TunerId}
    (k : (s.tuner x).role ≠ .program) : n x = 0 := by
  rw [← h.users x]
  exact (h.bare x k).users

theorem State.takeForWatch_retains {x : TunerId} {f : Nat} (free : (s.tuner x).role ≠ .program)
    (h : s.holder f = none) : s.Retains (s.takeForWatch x f) := by
  have away := State.holder_none_iff.1 h (otherTuner x)
  have taken : s.Retains (s.takeTuner x f 0 true) := ⟨State.takeTuner_keepsOrder away 0 true, fun loose n k =>
    State.Tuned.takeTuner away 0 true k (fun _ => .inr rfl) (k.unused free) rfl id⟩
  exact taken.trans (State.tellWatch_alike _ _ _).retains

section
variable {x : TunerId} {t : Tuner} (role : t.role = (s.tuner x).role) (frequency : t.frequency = (s.tuner x).frequency)
include role frequency

theorem State.setTuner_holds (y : TunerId) (f : Nat) : ((s.setTuner x t).tuner y).holds f = (s.tuner y).holds f := by
  refine forall_tuner (P := fun y => ((s.setTuner x t).tuner y).holds f = (s.tuner y).holds f) x ?_ ?_ y
  · rw [State.tuner_setTuner_same]
    unfold Tuner.holds
    rw [role, frequency]
  · rw [State.tuner_setTuner_other]

theorem State.setTuner_keepsOrder : s.KeepsOrder (s.setTuner x t) :=
  ⟨fun a => a.of_holds (State.setTuner_holds role frequency), by simp, State.stakes_of_routes (by simp),
    s.setTuner_waiting x t⟩

/-- A program whose holders change. -/
theorem State.Tuned.setTuner {loose looser : TunerId → Prop} {n m : TunerId → Nat} (h : s.Tuned loose n)
    (program : (s.tuner x).role = .program) (users : t.users = m x) (rest : n (otherTuner x) = m (otherTuner x))
    (held : ¬looser x → 0 < t.users ∨ t.watch = true) (loosens : loose (otherTuner x) → looser (otherTuner x)) :
    (s.setTuner x t).Tuned looser m := by
  have holds := State.setTuner_holds role frequency
  refine ⟨h.apart.of_holds holds, forall_tuner x ?_ ?_, forall_tuner x ?_ ?_, forall_tuner x ?_ ?_, forall_tuner x ?_ ?_,
    fun f => ?_⟩
  · rw [State.tuner_setTuner_same, users]
  · rw [State.tuner_setTuner_other, h.users, rest]
  · rw [State.tuner_setTuner_same]
    exact fun _ => held
  · rw [State.tuner_setTuner_other]
    exact fun p l => h.held _ p (fun a => l (loosens a))
  · rw [State.tuner_setTuner_same, frequency]
    exact fun _ => h.placed x program
  · rw [State.tuner_setTuner_other]
    exact h.placed _
  · rw [State.tuner_setTuner_same]
    exact fun p => absurd (role.trans program) p
  · rw [State.tuner_setTuner_other]
    exact h.bare _
  · rw [State.setTuner_stations, h.inUse f]
    exact exists_congr (fun y => by rw [holds])

end

theorem State.attachWatch_retains {x : TunerId} (program : (s.tuner x).role = .program) (f : Nat) :
    s.Retains (s.attachWatch x f) := by
  have watched : s.Retains (s.setTuner x { s.tuner x with watch := true }) :=
    ⟨State.setTuner_keepsOrder (by rfl) (by rfl), fun loose n h =>
      State.Tuned.setTuner (by rfl) (by rfl) h program (h.users x) rfl (fun _ => .inr rfl) id⟩
  exact watched.trans (State.tellWatch_alike _ _ _).retains

theorem State.reattachWatch_retains (s : State) : s.Retains s.reattachWatch := by
  unfold State.reattachWatch
  split
  · exact .refl s
  · split
    · exact .refl s
    · split
      · rename_i x held
        exact State.attachWatch_retains ((Tuner.holds_iff _ _).1 (State.holder_holds held)).1 _
      · rename_i none
        split
        · rename_i free
          exact State.takeForWatch_retains (x := .t1) (by rw [show (s.tuner .t1).role = _ from free]; decide) none
        · split
          · rename_i free
            exact State.takeForWatch_retains (x := .t2) (by rw [show (s.tuner .t2).role = _ from free]; decide) none
          · exact .refl s

theorem State.takeWatch_retains (s : State) (f : Nat) : s.Retains (s.takeWatch f) := by
  have set : s.Retains { s with tuners.watch := some f } :=
    State.Alike.retains ⟨fun y => by cases y <;> exact .refl _, rfl, id, rfl, rfl⟩
  unfold State.takeWatch
  extract_lets _ t
  refine set.trans ?_
  split
  · exact .refl t
  · split
    · rename_i x held
      exact State.attachWatch_retains ((Tuner.holds_iff _ _).1 (State.holder_holds held)).1 _
    · rename_i none
      split
      · rename_i free
        exact State.takeForWatch_retains (x := .t1) free none
      · split
        · rename_i free
          exact State.takeForWatch_retains (x := .t2) free none
        · exact .refl t

/-! ## Release (R68) -/

/-- The state in which a program becomes FREE: its frequency left, the check it asked for cancelled, no pairing. -/
def State.abandoned (s : State) (x : TunerId) : State :=
  let v := if (s.tuner x).usesOther then (s.departed x).cancelCheck (otherTuner x) else s.departed x
  if v.tuners.link = .none then v else v.unpair

theorem State.freeTuner_eq (s : State) (x : TunerId) : s.freeTuner x = (s.abandoned x).setTuner x .free := rfl

theorem State.abandoned_alike (s : State) (x : TunerId) : (s.departed x).Alike (s.abandoned x) := by
  unfold State.abandoned
  refine .trans ?_ (State.unpairIfPaired_alike _)
  split
  · exact State.cancelCheck_alike _ _
  · exact .refl _

theorem State.freeTuner_keepsOrder (s : State) (x : TunerId) : s.KeepsOrder (s.freeTuner x) := by
  obtain ⟨-, tuners, records, routes⟩ := s.departed_spec x
  have alike := s.abandoned_alike x
  rw [State.freeTuner_eq]
  refine ⟨fun _ => ?_, fun o => ?_, ?_, ?_⟩
  · rw [State.apart_iff _ x]
    rintro f ⟨a, -⟩
    rw [State.tuner_setTuner_same] at a
    exact absurd a (by simp [Tuner.holds, Tuner.free])
  · rw [State.setTuner_stations]
    exact alike.ordered (o.of_records records)
  · refine ((State.stakes_of_routes (State.setTuner_routes _ _ _)).trans alike.stakes).trans (State.stakes_of_routes routes)
  · rw [State.setTuner_waiting, alike.waiting, tuners]

/-- A program without routes becomes FREE; the other tuner's is the in-use set that is left (R68, R91). -/
theorem State.Tuned.freeTuner {loose looser : TunerId → Prop} {n : TunerId → Nat} (h : s.Tuned loose n) {x : TunerId}
    (unused : n x = 0) (loosens : loose (otherTuner x) → looser (otherTuner x)) : (s.freeTuner x).Tuned looser n := by
  obtain ⟨inUse, tuners, -, -⟩ := s.departed_spec x
  have alike := s.abandoned_alike x
  have other : (s.tuner (otherTuner x)).Alike ((s.freeTuner x).tuner (otherTuner x)) := by
    have same : (s.departed x).tuner (otherTuner x) = s.tuner (otherTuner x) := by
      unfold State.tuner
      rw [tuners]
    rw [State.freeTuner_eq, State.tuner_setTuner_other, ← same]
    exact alike.tuners _
  have here : (s.freeTuner x).tuner x = .free := by
    rw [State.freeTuner_eq, State.tuner_setTuner_same]
  have bare : Tuner.free.Bare := ⟨rfl, rfl, rfl, rfl, rfl, rfl⟩
  have idle : Tuner.free.role ≠ .program := by decide
  refine ⟨(s.freeTuner_keepsOrder x).apart h.apart, forall_tuner x ?_ ?_, forall_tuner x ?_ ?_, forall_tuner x ?_ ?_,
    forall_tuner x ?_ ?_, fun f => ?_⟩
  · rw [here, unused]
    rfl
  · rw [other.users, h.users]
  · rw [here]
    exact fun p => absurd p idle
  · intro p l
    rw [other.users, other.watch]
    exact h.held _ (other.role.1 p) (fun a => l (loosens a))
  · rw [here]
    exact fun p => absurd p idle
  · intro p
    rw [other.frequency]
    exact h.placed _ (other.role.1 p)
  · rw [here]
    exact fun _ => bare
  · exact fun p => other.bare (fun e => p (other.role.2 e)) (h.bare _ (fun e => p (other.role.2 e)))
  · have away : ¬(Tuner.free.holds f = true) := by simp [Tuner.holds, Tuner.free]
    rw [exists_tuner x, here, or_iff_right away, other.holds, State.freeTuner_eq, State.setTuner_stations, alike.inUse,
      inUse]
    exact h.inUseWithout x f

/-- The programs that may have lost their last holder, one more among them. -/
def alsoLoose (loose : TunerId → Prop) (x : TunerId) : TunerId → Prop := fun y => loose y ∨ y = x

theorem otherTuner_ne (x : TunerId) : otherTuner x ≠ x := by cases x <;> decide

theorem State.freeIfUnheld_keepsOrder (s : State) (x : TunerId) : s.KeepsOrder (s.freeIfUnheld x) := by
  unfold State.freeIfUnheld
  dsimp only
  split
  · exact s.freeTuner_keepsOrder x
  · exact (State.Retains.refl s).toKeepsOrder

/-- A program that neither a route nor the watch holds becomes FREE (R68). -/
theorem State.Tuned.freeIfUnheld {loose : TunerId → Prop} {n : TunerId → Nat} {x : TunerId}
    (h : s.Tuned (alsoLoose loose x) n) : (s.freeIfUnheld x).Tuned loose n := by
  have tight : alsoLoose loose x (otherTuner x) → loose (otherTuner x) :=
    fun a => a.resolve_right (otherTuner_ne x)
  unfold State.freeIfUnheld
  dsimp only
  split
  · rename_i unheld
    simp only [Bool.and_eq_true, decide_eq_true_eq] at unheld
    exact State.Tuned.freeTuner h ((h.users x).symm.trans unheld.1.2) tight
  · rename_i keeps
    refine { h with held := forall_tuner x (fun p _ => ?_) (fun p l => h.held _ p (fun a => l (tight a))) }
    simp only [p, decide_true, Bool.true_and, Bool.and_eq_true, decide_eq_true_eq, Bool.not_eq_true', not_and,
      Bool.not_eq_false] at keeps
    by_cases none : (s.tuner x).users = 0
    · exact .inr (keeps none)
    · exact .inl (Nat.pos_of_ne_zero none)

/-- One route fewer on a tuner. -/
def oneFewer (n : TunerId → Nat) (x : TunerId) : TunerId → Nat := fun y => if y = x then n y - 1 else n y

/-- One route more on a tuner. -/
def oneMore (n : TunerId → Nat) (x : TunerId) : TunerId → Nat := fun y => if y = x then n y + 1 else n y

theorem State.leaveTuner_keepsOrder (s : State) (x : TunerId) : s.KeepsOrder (s.leaveTuner x) := by
  have left : s.KeepsOrder ((s.setTuner x { s.tuner x with users := (s.tuner x).users - 1 }).freeIfUnheld x) :=
    (State.setTuner_keepsOrder (by rfl) (by rfl)).trans (State.freeIfUnheld_keepsOrder _ _)
  unfold State.leaveTuner
  dsimp only
  split
  · exact left.trans (State.reattachWatch_retains _).toKeepsOrder
  · exact left

theorem State.Tuned.leaveTuner {loose : TunerId → Prop} {n : TunerId → Nat} {x : TunerId} (h : s.Tuned loose n)
    (used : 0 < n x) : (s.leaveTuner x).Tuned loose (oneFewer n x) := by
  have program : (s.tuner x).role = .program := h.program (fun b => by
    rw [← h.users x, b.users] at used
    exact Nat.lt_irrefl 0 used)
  have less : (s.setTuner x { s.tuner x with users := (s.tuner x).users - 1 }).Tuned (alsoLoose loose x) (oneFewer n x) :=
    State.Tuned.setTuner (by rfl) (by rfl) h program (by simp [oneFewer, h.users]) (by simp [oneFewer, otherTuner_ne])
      (fun l => absurd (Or.inr rfl) l) .inl
  unfold State.leaveTuner
  dsimp only
  split
  · exact (State.reattachWatch_retains _).tuned _ _ less.freeIfUnheld
  · exact less.freeIfUnheld

end Sys2Proof.Machine
end

-- ==== support and settled obligations, part 49 ====
section
/-! SUPPORT. Retunes, the arbiter and the front ends' events: the counts through them (R72, R74, R77, R80 to R83, R97). -/

namespace Sys2Proof.Machine

variable {s : State}

/-! ## Retunes (R77) -/

/-- The record of a program moved to a frequency (R77, R83). -/
def Tuner.moved (t : Tuner) (k : RetuneKind) (dest : Nat) (confirm : Bool) : Tuner :=
  { t with
    frequency := some dest, activity := .retune, retune := some ⟨k, true⟩
    oldFrequency := if confirm then t.frequency else none }

theorem State.moveProgram_alike (s : State) (x : TunerId) (k : RetuneKind) (dest : Nat) (confirm : Bool) :
    ((s.joined x dest).setTuner x ((s.tuner x).moved k dest confirm)).Alike (s.moveProgram x k dest confirm) := by
  unfold State.moveProgram
  extract_lets t s1 s2 u s3 src s4
  have start : s3 = (s.joined x dest).setTuner x ((s.tuner x).moved k dest confirm) := by
    unfold s3 u
    rw [show s2.tuner x = s.tuner x from (s.joined_spec x dest).1 x]
    rfl
  have told : s3.Alike s4 := by
    unfold s4
    split
    · have set : s3.Alike { s3 with tuners.watch := some dest } :=
        ⟨fun y => by cases y <;> exact .refl _, rfl, id, rfl, rfl⟩
      exact set.trans (State.tellWatch_alike _ _ _)
    · exact .refl s3
  rw [← start]
  exact (told.trans (State.holdStreak_alike _ x)).trans (State.raiseIf_alike _ true .afSwitch)

/-- A program moved to a frequency that no other program is on (R63, R77, R83). -/
theorem State.moveProgram_retains {x : TunerId} {dest : Nat} (busy : ¬(s.tuner x).Bare)
    (away : (s.tuner (otherTuner x)).holds dest = false) (k : RetuneKind) (confirm : Bool) :
    s.Retains (s.moveProgram x k dest confirm) := by
  obtain ⟨same, tuners, inUse, ordered, routes⟩ := s.joined_spec x dest
  have moved := s.moveProgram_alike x k dest confirm
  refine State.Retains.trans ⟨⟨fun _ => ?_, fun o => ?_, ?_, ?_⟩, fun loose n h => ?_⟩ moved.retains
  · refine State.apart_of_placed (x := x) (f := dest) ?_ ?_
    · rw [State.tuner_setTuner_same]
      rfl
    · rw [State.tuner_setTuner_other, same]
      exact away
  · rw [State.setTuner_stations]
    exact ordered o
  · exact State.stakes_of_routes (by rw [State.setTuner_routes, routes])
  · rw [State.setTuner_waiting, tuners]
  · have program := h.program busy
    have here := State.tuner_setTuner_same (s := s.joined x dest) x ((s.tuner x).moved k dest confirm)
    refine h.placed_on (x := x) (f := dest) ?_ ?_ ?_ ?_ ?_ rfl id away ?_
    · rw [here]
      exact program
    · rw [here]
      rfl
    · rw [here]
      exact h.users x
    · rw [here]
      exact h.held x program
    · rw [State.tuner_setTuner_other, same]
    · rw [State.setTuner_stations, inUse]

theorem State.beginTuning_retains {x : TunerId} (busy : ¬(s.tuner x).Bare) (k : RetuneKind) :
    s.Retains (s.beginTuning x k) := by
  have told := (s.notifyTuner_alike x .retune).retains
  have ended : ∀ t : Tuner, (s.tuner x).Alike t → s.Retains ((s.setTuner x t).abandonRetune x) := fun t a =>
    ((s.setTuner_alike a).trans (State.abandonRetune_alike _ x)).retains
  have moved : ∀ k dest confirm, (s.tuner (otherTuner x)).holds dest = false →
      s.Retains ((s.notifyTuner x .retune).moveProgram x k dest confirm) := fun k dest confirm away =>
    told.trans (State.moveProgram_retains (by rw [State.notifyTuner_tuner]; exact busy)
      (by rw [State.notifyTuner_tuner]; exact away) k confirm)
  unfold State.beginTuning
  cases k with
  | jump c =>
    dsimp only
    refine told.trans (State.setTuner_alike _ ?_).retains
    rw [State.notifyTuner_tuner]
    exact .busy (fun b => absurd b busy) rfl rfl rfl rfl
  | switch dest confirm =>
    dsimp only
    split
    · exact ended _ (.busy (fun b => absurd b busy) rfl rfl rfl rfl)
    · rename_i away
      exact moved _ _ _ (Bool.eq_false_of_not_eq_true away)
  | revert dest decoded =>
    dsimp only
    split
    · exact ended _ (.busy (fun b => absurd b busy) rfl rfl rfl rfl)
    · rename_i away
      exact moved _ _ _ (Bool.eq_false_of_not_eq_true away)

theorem State.endFade_retains (s : State) (x : TunerId) : s.Retains (s.endFade x) := by
  unfold State.endFade
  split
  · rename_i k fading
    split
    · exact State.beginTuning_retains (fun b => by rw [b.retune] at fading; cases fading) k
    · exact .refl s
  · exact .refl s

theorem State.endFades_retains (s : State) : s.Retains s.endFades :=
  ((s.endFade_retains _).trans (State.endFade_retains _ _)).trans (State.endFade_retains _ _)

/-! ## The arbiter (R72, R74, R81) -/

theorem State.beginCheck_alike (s : State) (x : TunerId) : s.Alike (s.beginCheck x) := by
  unfold State.beginCheck
  extract_lets o
  split
  · rename_i c rest found searching
    split
    · have shared : ∀ u : State, u.Alike { u with tuners.link := .none, tuners.interval := none } :=
        fun u => ⟨fun y => by cases y <;> exact .refl _, rfl, id, rfl, rfl⟩
      refine ((s.setTuner_alike ?_).trans (State.setTuner_alike _ ?_)).trans (shared _)
      · exact .busy (fun b => by rw [b.search] at searching; cases searching) rfl rfl rfl rfl
      · exact .rest rfl rfl rfl rfl rfl rfl rfl
    · exact .refl s
  · exact .refl s

theorem State.startPairing_alike (s : State) (m : TunerId) {p : TunerId} (free : (s.tuner p).role ≠ .program) :
    s.Alike (s.startPairing m p) := by
  have partner : s.Alike (s.setTuner p { s.tuner p with role := .partner, partnerOf := some m, activity := .partnerHold }) :=
    s.setTuner_alike ⟨by simp [free], rfl, rfl, rfl, fun _ b => ⟨b.users, b.frequency, b.watch, b.af, b.search, b.retune⟩⟩
  exact partner.trans ⟨fun y => by cases y <;> exact .refl _, rfl, id, rfl, rfl⟩

theorem State.meetPartner_alike (s : State) (m : TunerId) {p : TunerId} (free : (s.tuner p).role ≠ .program) :
    s.Alike (s.meetPartner m p) := by
  have asked : s.Alike { s with tuners.link := .requested } :=
    ⟨fun y => by cases y <;> exact .refl _, rfl, id, rfl, rfl⟩
  unfold State.meetPartner
  split
  · exact s.startPairing_alike m free
  · split
    · have cancelled := s.cancelScan_alike p
      exact cancelled.trans (State.startPairing_alike _ m (fun e => free ((cancelled.tuners p).role.1 e)))
    · exact asked
  · exact asked

theorem State.settlePairing_alike (s : State) : s.Alike s.settlePairing := by
  have met : ∀ m p, s.pairReady = some (m, p) → s.Alike (s.meetPartner m p) := fun m p ready =>
    s.meetPartner_alike m (by rw [(State.pairReady_spec ready).2.1]; decide)
  unfold State.settlePairing
  split
  · split
    · rename_i m p ready
      exact met m p ready
    · exact .refl s
  · split
    · rename_i m p ready
      exact met m p ready
    · exact ⟨fun y => by cases y <;> exact .refl _, rfl, id, rfl, rfl⟩
  · exact .refl s

theorem State.assign_alike (s : State) : s.Alike s.assign :=
  ((s.beginCheck_alike _).trans (State.beginCheck_alike _ _)).trans (State.settlePairing_alike _)

theorem State.arbitrate_retains (s : State) : s.Retains s.arbitrate :=
  (s.endFades_retains.trans (State.reattachWatch_retains _)).trans (State.assign_alike _).retains

/-! ## Searches (R80 to R83) -/

theorem State.startSearch_alike (s : State) {x : TunerId} (program : (s.tuner x).role = .program) :
    s.Alike (s.startSearch x) := by
  unfold State.startSearch
  split
  · exact s.setTuner_alike (.rest rfl rfl rfl rfl rfl rfl rfl)
  · extract_lets partner src t
    have begun : s.Alike t := s.setTuner_alike (.program program program rfl rfl rfl)
    split
    · exact begun.trans (State.unpair_alike _)
    · exact begun

theorem State.beginJump_alike (s : State) (x : TunerId) : s.Alike (s.beginJump x) := by
  unfold State.beginJump
  split
  · rename_i c rest found searching still
    exact s.beginRetune_alike _ (.busy (fun b => by rw [b.search] at searching; cases searching) rfl rfl rfl rfl)
  · exact .refl s

theorem State.afMeasured_alike (s : State) {x : TunerId} (program : (s.tuner x).role = .program) (a : Area) :
    s.Alike (s.afMeasured x a) := by
  have counted : ∀ k, s.Alike (s.setTuner x { s.tuner x with streak := k }) := fun k =>
    s.setTuner_alike (.rest rfl rfl rfl rfl rfl rfl rfl)
  unfold State.afMeasured
  dsimp only
  split
  · split
    · split
      · exact (counted _).trans (State.startSearch_alike _ (by rw [State.tuner_setTuner_same]; exact program))
      · exact counted _
    · exact counted _
  · split
    · exact s.beginJump_alike x
    · exact s.endSearch_alike x
  · exact .refl s

/-- Only a switch of a program awaits its code (R83). -/
theorem State.confirm_alike (s : State) {x : TunerId} (program : (s.tuner x).Bare → (s.tuner x).role = .program)
    (c : Option Nat) : s.Alike (s.confirm x c) := by
  unfold State.confirm
  dsimp only
  split
  · exact s.setTuner_alike (.busy program rfl rfl rfl rfl)
  · split
    · exact s.setTuner_alike (.busy program rfl rfl rfl rfl)
    · split
      · exact s.setTuner_alike (.busy program rfl rfl rfl rfl)
      · rename_i old _ _
        have begun := s.beginRetune_alike (x := x) (t := s.tuner x) (.revert old c) (.busy program rfl rfl rfl rfl)
        rw [setTuner_self] at begun
        exact begun

/-! ## Events that leave routes and claims alone -/

theorem State.acquisitionSettle_retains (s : State) (x : TunerId) : s.Retains (s.acquisitionSettle x) := by
  unfold State.acquisitionSettle
  dsimp only
  split
  · exact ((s.setTuner_alike (x := x) (t := { s.tuner x with activity := .dwell }) (.rest rfl rfl rfl rfl rfl rfl rfl)).trans
      (State.notifyTuner_alike _ _ _)).retains.trans (State.arbitrate_retains _)
  · exact .refl s

theorem State.programMeasurement_retains (s : State) (x : TunerId) (field multipath : Nat) :
    s.Retains (s.programMeasurement x field multipath) := by
  unfold State.programMeasurement
  extract_lets t m hit
  split
  · exact .refl s
  · rename_i f _
    split
    · rename_i dwells
      simp only [Bool.and_eq_true, decide_eq_true_eq] at dwells
      extract_lets s1 u s2
      have one : s.Alike s1 := s.refreshStation_alike f m
      have two : s.Alike s2 := one.trans (State.setTuner_alike _ (.rest rfl rfl rfl rfl rfl rfl rfl))
      have three : s.Alike (s2.raiseIf hit .programQuality) := two.trans (State.raiseIf_alike _ _ _)
      exact (three.trans (State.afMeasured_alike _ ((three.tuners x).role.2 dwells.1) _)).retains.trans
        (State.arbitrate_retains _)
    · exact .refl s

theorem State.retuneSettle_retains (s : State) (x : TunerId) : s.Retains (s.retuneSettle x) := by
  have settled : ∀ t : Tuner, (s.tuner x).Alike t →
      s.Retains (((s.setTuner x t).notifyTuner x .available).arbitrate) := fun t a =>
    ((s.setTuner_alike a).trans (State.notifyTuner_alike _ _ _)).retains.trans (State.arbitrate_retains _)
  unfold State.retuneSettle
  dsimp only
  split
  · rename_i retuning
    refine settled _ ?_
    split
    · exact .busy (fun b => by rw [b.retune] at retuning; cases retuning) rfl rfl rfl rfl
    · exact .busy (fun b => by rw [b.retune] at retuning; cases retuning) rfl rfl rfl rfl
  · rename_i retuning
    exact settled _ (.busy (fun b => by rw [b.retune] at retuning; cases retuning) rfl rfl rfl rfl)
  · exact .refl s

theorem State.afConfirmTimeout_retains (s : State) (x : TunerId) : s.Retains (s.afConfirmTimeout x) := by
  unfold State.afConfirmTimeout
  split
  · rename_i awaits
    refine (s.confirm_alike (x := x) (fun b => ?_) none).retains.trans (State.arbitrate_retains _)
    simp [Tuner.awaitsCode, b.af] at awaits
  · exact .refl s

theorem State.scanMeasurement_alike (s : State) (x : TunerId) (f m : Nat) : s.Alike (s.scanMeasurement x f m) := by
  unfold State.scanMeasurement
  dsimp only
  split
  · exact s.setTuner_alike (.rest rfl rfl rfl rfl rfl rfl rfl)
  · exact .refl s

theorem State.afCheckMeasurement_alike (s : State) (x : TunerId) (f m : Nat) : s.Alike (s.afCheckMeasurement x f m) := by
  unfold State.afCheckMeasurement
  dsimp only
  split
  · exact s.setTuner_alike (.rest rfl rfl rfl rfl rfl rfl rfl)
  · exact .refl s

theorem State.scanIntervalExpiry_alike (s : State) : s.Alike s.scanIntervalExpiry := by
  unfold State.scanIntervalExpiry
  split
  · exact s.unpair_alike.trans ⟨fun y => by cases y <;> exact .refl _, rfl, id, rfl, rfl⟩
  · exact .refl s

/-! ## The scan position (R97, R98) -/

/-- A record at the end of a scan round (R98). -/
def Station.aged (r : Station) : Station :=
  { r with age := if r.refreshed then r.age else min 15 (r.age + 1), refreshed := false }

theorem State.roundEnd_alike (s : State) : s.Alike s.roundEnd := by
  have kept : ∀ p : Station → Bool, s.Alike { s with stations := { s.stations with
      round := s.stations.round + 1, records := (s.stations.records.map Station.aged).filter p } } := fun p =>
    .stations rfl rfl (fun o => Stations.Ordered.filtered (a := { s.stations with
      records := s.stations.records.map Station.aged }) (o.mapped Station.aged (fun _ => rfl) rfl) p rfl) rfl
  unfold State.roundEnd
  extract_lets t aged keep u
  have ended : s.Alike u := kept keep
  split
  · exact ended
  · exact ended.trans (.rest rfl rfl rfl)

theorem State.moveCursor_alike (s : State) : s.Alike s.moveCursor := by
  have set : ∀ c, s.Alike { s with stations.cursor := c } := fun c => .stations rfl rfl (fun o => o.of_records rfl) rfl
  unfold State.moveCursor
  dsimp only
  split
  · exact set _
  · exact (set _).trans (State.roundEnd_alike _)

theorem State.skipInUse_alike (s : State) (k : Nat) : s.Alike (s.skipInUse k) := by
  induction k generalizing s with
  | zero => exact .refl s
  | succ k ih =>
    unfold State.skipInUse
    split
    · exact s.moveCursor_alike.trans (ih _)
    · exact .refl s

theorem State.reserve_alike (s : State) (x : TunerId) (f : Option Nat) :
    s.Alike { s with stations := s.stations.reserve x f } := by
  cases x <;> exact .stations rfl rfl (fun o => o.of_records rfl) rfl

theorem State.handOut_alike (s : State) (x : TunerId) : s.Alike (s.handOut x) := by
  have returned : ∀ r, s.Alike { s with stations.returned := r } := fun r => .stations rfl rfl (fun o => o.of_records rfl) rfl
  unfold State.handOut
  split
  · rename_i f rest _
    exact (returned rest).trans (State.reserve_alike _ x (some f))
  · exact (((returned []).trans (State.skipInUse_alike _ _)).trans (State.moveCursor_alike _)).trans
      (State.reserve_alike _ x _)

theorem State.scanStepBegin_alike (s : State) (x : TunerId) : s.Alike (s.scanStepBegin x) := by
  unfold State.scanStepBegin
  split
  · exact (s.handOut_alike x).trans (State.setTuner_alike _ (.rest rfl rfl rfl rfl rfl rfl rfl))
  · exact .refl s

theorem State.setPolicy_alike (s : State) (q : TunerPolicy) : s.Alike (s.setPolicy q) := by
  have set : ∀ l i, s.Alike { s with tuners := { s.tuners with policy := q, link := l, interval := i } } := fun l i =>
    ⟨fun y => by cases y <;> exact .refl _, rfl, id, rfl, rfl⟩
  unfold State.setPolicy
  extract_lets _ t
  split
  · split
    · exact (set _ _).trans (State.unpair_alike t)
    · split
      · exact set _ _
      · split
        · exact set _ _
        · exact set _ _
  · exact set _ _

end Sys2Proof.Machine
end

-- ==== support and settled obligations, part 50 ====
section
/-! SUPPORT. Stakes against the waiting list, claims by routes, and what openings, removals and codes keep (R14, R65, R66). -/

namespace Sys2Proof.Machine

/-! ## The waiting list (R66) -/

/-- What a route's source asks of its stake: a tuner by frequency always has one, only tuners' routes have one, and
those are no line's. -/
def Stake.Sourced (k : Stake) : Prop :=
  match k.source with
  | .tunerFrequency _ => k.tuner.isSome = true ∧ k.owner ≠ 7
  | .tunerCode _ => k.owner ≠ 7
  | _ => k.tuner = none

/-- The stakes and the waiting list: the list holds the stakes by program code that have no tuner, each once. -/
structure Listed (ks : List Stake) (ws : List Waiting) : Prop where
  slots : (ks.map (fun k => k.handle.slot)).Nodup
  sources : ∀ k ∈ ks, k.Sourced
  once : (ws.map (fun w => w.handle)).Nodup
  waits : ∀ w ∈ ws, ∃ k ∈ ks, k.handle = w.handle ∧ k.source = .tunerCode w.code ∧ k.tuner = none
  enlisted : ∀ k ∈ ks, k.tuner = none → ∀ c, k.source = .tunerCode c → ∃ w ∈ ws, w.handle = k.handle

namespace Listed

variable {ks ns : List Stake} {ws : List Waiting} {k : Stake}

theorem perm (p : ks.Perm ns) (h : Listed ks ws) : Listed ns ws where
  slots := ((p.map _).nodup_iff).1 h.slots
  sources := fun k m => h.sources k (p.mem_iff.2 m)
  once := h.once
  waits := fun w m => by
    obtain ⟨k, mk, e⟩ := h.waits w m
    exact ⟨k, p.mem_iff.1 mk, e⟩
  enlisted := fun k m => h.enlisted k (p.mem_iff.2 m)

/-- A slot holds one stake. -/
theorem unique (h : Listed ks ws) {a b : Stake} (ma : a ∈ ks) (mb : b ∈ ks) (e : a.handle.slot = b.handle.slot) : a = b :=
  List.inj_on_of_nodup_map h.slots ma mb e

/-- A stake in a free slot that does not wait. -/
theorem cons (h : Listed ks ws) (free : ∀ x ∈ ks, x.handle.slot ≠ k.handle.slot) (sourced : k.Sourced)
    (seated : ∀ c, k.source = .tunerCode c → k.tuner ≠ none) : Listed (k :: ks) ws where
  slots := List.nodup_cons.2 ⟨fun m => by
    obtain ⟨x, mx, e⟩ := List.mem_map.1 m
    exact free x mx e, h.slots⟩
  sources := List.forall_mem_cons.2 ⟨sourced, h.sources⟩
  once := h.once
  waits := fun w m => by
    obtain ⟨x, mx, e⟩ := h.waits w m
    exact ⟨x, List.mem_cons_of_mem _ mx, e⟩
  enlisted := List.forall_mem_cons.2 ⟨fun none c e => absurd none (seated c e), h.enlisted⟩

/-- A stake in a free slot that joins the waiting list. -/
theorem cons_waiting (h : Listed ks ws) (free : ∀ x ∈ ks, x.handle.slot ≠ k.handle.slot) (owner : k.owner ≠ 7)
    {c : Nat} (source : k.source = .tunerCode c) (unseated : k.tuner = none) :
    Listed (k :: ks) (ws ++ [{ handle := k.handle, code := c }]) where
  slots := List.nodup_cons.2 ⟨fun m => by
    obtain ⟨x, mx, e⟩ := List.mem_map.1 m
    exact free x mx e, h.slots⟩
  sources := List.forall_mem_cons.2 ⟨by
    unfold Stake.Sourced
    rw [source]
    exact owner, h.sources⟩
  once := by
    rw [List.map_append, List.nodup_append]
    refine ⟨h.once, List.nodup_singleton _, fun a ma b mb e => ?_⟩
    obtain ⟨w, mw, rfl⟩ := List.mem_map.1 ma
    obtain ⟨x, mx, ex, -⟩ := h.waits w mw
    rw [List.map_singleton, List.mem_singleton] at mb
    exact free x mx (by rw [ex, e, mb])
  waits := fun w m => by
    rcases List.mem_append.1 m with m | m
    · obtain ⟨x, mx, e⟩ := h.waits w m
      exact ⟨x, List.mem_cons_of_mem _ mx, e⟩
    · rw [List.mem_singleton.1 m]
      exact ⟨k, List.mem_cons_self, rfl, source, unseated⟩
  enlisted := List.forall_mem_cons.2 ⟨fun _ _ _ => ⟨_, List.mem_append_right _ (List.mem_singleton.2 rfl), rfl⟩,
    fun x mx none c e => by
      obtain ⟨w, mw, ew⟩ := h.enlisted x mx none c e
      exact ⟨w, List.mem_append_left _ mw, ew⟩⟩

/-- A stake gone with its entry. -/
theorem uncons (h : Listed (k :: ks) ws) : Listed ks (ws.filter (fun w => w.handle ≠ k.handle)) where
  slots := (List.nodup_cons.1 h.slots).2
  sources := (List.forall_mem_cons.1 h.sources).2
  once := h.once.sublist (List.filter_sublist.map _)
  waits := fun w m => by
    obtain ⟨m, away⟩ := List.mem_filter.1 m
    obtain ⟨x, mx, e⟩ := h.waits w m
    rcases List.mem_cons.1 mx with rfl | mx
    · exact absurd e.1.symm (of_decide_eq_true away)
    · exact ⟨x, mx, e⟩
  enlisted := fun x mx none c e => by
    obtain ⟨w, mw, ew⟩ := h.enlisted x (List.mem_cons_of_mem _ mx) none c e
    refine ⟨w, List.mem_filter.2 ⟨mw, decide_eq_true (fun same => ?_)⟩, ew⟩
    refine (List.nodup_cons.1 h.slots).1 (List.mem_map.2 ⟨x, mx, ?_⟩)
    rw [← ew, same]

/-- A stake that did not wait gone. -/
theorem uncons_seated (h : Listed (k :: ks) ws) (seated : ∀ c, k.source = .tunerCode c → k.tuner ≠ none) :
    Listed ks ws := by
  have whole : ws.filter (fun w => w.handle ≠ k.handle) = ws := List.filter_eq_self.2 (fun w m => decide_eq_true (fun same => by
    obtain ⟨x, mx, e, source, none⟩ := h.waits w m
    have : x = k := h.unique mx List.mem_cons_self (by rw [e, same])
    subst this
    exact seated _ source none))
  have rest := h.uncons
  rw [whole] at rest
  exact rest

end Listed

/-- The number of routes of a tuner. -/
def seats (ks : List Stake) (x : TunerId) : Nat := ks.countP (fun k => k.tuner = some x)

theorem seats_perm {ks ns : List Stake} (p : ks.Perm ns) : seats ks = seats ns := funext (fun _ => p.countP_eq _)

theorem seats_cons_none {k : Stake} (h : k.tuner = none) (ks : List Stake) : seats (k :: ks) = seats ks :=
  funext (fun _ => by simp [seats, h])

theorem seats_cons_some {k : Stake} {x : TunerId} (h : k.tuner = some x) (ks : List Stake) :
    seats (k :: ks) = oneMore (seats ks) x := funext (fun y => by
  unfold seats oneMore
  rw [List.countP_cons, h]
  by_cases e : y = x
  · simp [e]
  · simp [e, Ne.symm e])

theorem oneFewer_oneMore (n : TunerId → Nat) (x : TunerId) : oneFewer (oneMore n x) x = n := funext (fun y => by
  unfold oneFewer oneMore
  split <;> simp)

/-- The counts of tuners, routes and waiting list, but for programs that may have lost their last holder. -/
structure State.Counted (s : State) (loose : TunerId → Prop) : Prop where
  tuned : s.Tuned loose (seats s.stakes)
  listed : Listed s.stakes s.tuners.waiting

theorem Route.stake_sourced (r : Route) : r.stake.Sourced ↔
    match r.source with
    | .tunerFrequency _ => r.tuner.isSome = true ∧ r.owner ≠ 7
    | .tunerCode _ => r.owner ≠ 7
    | _ => r.tuner = none := by
  unfold Stake.Sourced Route.stake
  cases r.source <;> exact Iff.rfl

theorem State.seats_stakes (s : State) (x : TunerId) : seats s.stakes x = s.routes.countP (fun r => r.tuner = some x) := by
  unfold seats State.stakes
  rw [List.countP_map]
  rfl

theorem Tuner.bare_iff (t : Tuner) : t.Bare ↔
    t.users = 0 ∧ t.frequency = none ∧ t.watch = false ∧ t.af = .idle ∧ t.search = none ∧ t.retune = none :=
  ⟨fun ⟨a, b, c, d, e, f⟩ => ⟨a, b, c, d, e, f⟩, fun ⟨a, b, c, d, e, f⟩ => ⟨a, b, c, d, e, f⟩⟩

theorem State.TunersCounted.counted {s : State} (h : s.TunersCounted) (o : s.SlotsOrdered) (apart : s.TunersApart) :
    s.Counted (fun _ => False) where
  tuned :=
    { apart := apart
      users := fun x => by rw [h.users x, s.seats_stakes]
      held := fun x p _ => (h.held x p).1
      placed := fun x p => (h.held x p).2
      bare := fun x p => (Tuner.bare_iff _).2 (h.idle x p)
      inUse := h.inUse }
  listed :=
    { slots := by
        unfold State.stakes
        rw [List.map_map, List.Nodup, List.pairwise_map]
        exact o.1.imp (fun lt => Nat.ne_of_lt lt)
      sources := List.forall_mem_map.2 (fun r m => r.stake_sourced.2 (h.sources r m))
      once := h.waiting.1
      waits := fun w m => by
        obtain ⟨r, mr, e⟩ := h.waiting.2.1 w m
        exact ⟨r.stake, List.mem_map_of_mem mr, e⟩
      enlisted := List.forall_mem_map.2 h.waiting.2.2 }

theorem State.Counted.tunersCounted {s : State} (h : s.Counted (fun _ => False)) : s.TunersCounted where
  users := fun x => by rw [h.tuned.users x, s.seats_stakes]
  held := fun x p => ⟨h.tuned.held x p id, h.tuned.placed x p⟩
  idle := fun x p => (Tuner.bare_iff _).1 (h.tuned.bare x p)
  inUse := h.tuned.inUse
  sources := fun r m => r.stake_sourced.1 (h.listed.sources _ (List.mem_map_of_mem m))
  waiting := by
    refine ⟨h.listed.once, fun w m => ?_, fun r m => h.listed.enlisted _ (List.mem_map_of_mem m)⟩
    obtain ⟨k, mk, e⟩ := h.listed.waits w m
    obtain ⟨r, mr, rfl⟩ := List.mem_map.1 mk
    exact ⟨r, mr, e⟩

/-- What a piece of work keeps of tuners and stations. -/
structure KeepsTuners (s t : State) : Prop where
  apart : s.TunersApart → t.TunersApart
  ordered : s.stations.Ordered → t.stations.Ordered
  counted : ∀ loose, s.Counted loose → t.Counted loose

namespace KeepsTuners

variable {s t u : State}

theorem trans (h : KeepsTuners s t) (k : KeepsTuners t u) : KeepsTuners s u :=
  ⟨fun a => k.apart (h.apart a), fun a => k.ordered (h.ordered a), fun l a => k.counted l (h.counted l a)⟩

theorem of (h : s.Retains t) : KeepsTuners s t where
  apart := h.apart
  ordered := h.ordered
  counted := fun l c => ⟨by rw [h.stakes]; exact h.tuned _ _ c.tuned, by rw [h.stakes, h.waiting]; exact c.listed⟩

theorem alike (h : s.Alike t) : KeepsTuners s t := .of h.retains

theorem refl (s : State) : KeepsTuners s s := ⟨id, id, fun _ => id⟩

theorem folded {α : Type} (f : State → α → State) (h : ∀ t a, KeepsTuners t (f t a)) (xs : List α) (s : State) :
    KeepsTuners s (xs.foldl f s) := by
  induction xs generalizing s with
  | nil => exact .refl s
  | cons a xs ih => exact (h s a).trans (ih _)

/-- What neither tuners, stations nor routes read, changed. -/
theorem rest (a : t.tuners = s.tuners) (b : t.stations = s.stations) (c : t.routes = s.routes) : KeepsTuners s t :=
  .alike (.rest a b (State.stakes_of_routes c))

end KeepsTuners

end Sys2Proof.Machine
end

-- ==== support and settled obligations, part 51 ====
section
/-! SUPPORT. Claims of tuners by routes, and codes told to the Allocator: what they keep of the counts (R65, R66, R94). -/

namespace Sys2Proof.Machine

variable {s t u : State}

/-! ## Claims (R65) -/

/-- A claim that gives a route a tuner: the tuner counts one route more, and programs stay programs. -/
structure State.Grants (s t : State) (x : TunerId) : Prop where
  keeps : s.KeepsOrder t
  tuned : ∀ loose n, s.Tuned loose n → t.Tuned loose (oneMore n x)
  programs : ∀ y, (s.tuner y).role = .program → (t.tuner y).role = .program

theorem State.share_grants {x : TunerId} (program : (s.tuner x).role = .program) : s.Grants (s.share x).1 x where
  keeps := State.setTuner_keepsOrder (by rfl) (by rfl)
  tuned := fun loose n h => State.Tuned.setTuner (by rfl) (by rfl) h program (by simp [oneMore, h.users])
    (by simp [oneMore, otherTuner_ne]) (fun _ => .inl (Nat.succ_pos _)) id
  programs := by
    unfold State.share
    refine forall_tuner x (fun _ => ?_) (fun p => ?_)
    · rw [State.tuner_setTuner_same]
      exact program
    · rw [State.tuner_setTuner_other]
      exact p

theorem State.takeTuner_programs (s : State) (x : TunerId) (f users : Nat) (watch : Bool) (y : TunerId)
    (h : (s.tuner y).role = .program) : ((s.takeTuner x f users watch).tuner y).role = .program := by
  obtain ⟨code, e⟩ := s.takeTuner_eq x f users watch
  obtain ⟨same, -⟩ := (s.yielded x).joined_spec x f
  rw [e]
  refine forall_tuner (P := fun y => (s.tuner y).role = .program →
    ((((s.yielded x).joined x f).setTuner x (.taken f users watch code)).tuner y).role = .program) x (fun _ => ?_)
    (fun p => ?_) y h
  · rw [State.tuner_setTuner_same]
    rfl
  · rw [State.tuner_setTuner_other, same]
    exact ((s.yielded_alike x).tuners _).role.2 p

theorem State.takeTuner_grants {x : TunerId} {f : Nat} (free : (s.tuner x).role ≠ .program) (h : s.holder f = none) :
    s.Grants (s.takeTuner x f 1 false) x where
  keeps := State.takeTuner_keepsOrder (State.holder_none_iff.1 h _) 1 false
  tuned := fun loose n k => State.Tuned.takeTuner (State.holder_none_iff.1 h _) 1 false k (fun _ => .inl Nat.one_pos)
    (by simp [oneMore, k.unused free]) (by simp [oneMore, otherTuner_ne]) id
  programs := s.takeTuner_programs x f 1 false

/-- The watch of a watch-only tuner dropped leaves a program nobody holds. -/
theorem State.dropWatch_keepsOrder (s : State) (x : TunerId) : s.KeepsOrder (s.dropWatch x) := by
  have unwatched : s.KeepsOrder (s.setTuner x { s.tuner x with watch := false }) :=
    State.setTuner_keepsOrder (by rfl) (by rfl)
  exact unwatched.trans ⟨id, fun o => o.of_records rfl, rfl, rfl⟩

theorem State.dropWatch_tuner (s : State) (x y : TunerId) :
    (s.dropWatch x).tuner y = (s.setTuner x { s.tuner x with watch := false }).tuner y := by
  cases x <;> cases y <;> rfl

theorem State.Tuned.dropWatch {loose : TunerId → Prop} {n : TunerId → Nat} (h : s.Tuned loose n) {x : TunerId}
    (program : (s.tuner x).role = .program) : (s.dropWatch x).Tuned (alsoLoose loose x) n := by
  have unwatched : (s.setTuner x { s.tuner x with watch := false }).Tuned (alsoLoose loose x) n :=
    State.Tuned.setTuner (by rfl) (by rfl) h program (h.users x) rfl (fun l => absurd (Or.inr rfl) l) .inl
  refine unwatched.alike (fun y => ?_) (by cases x <;> rfl)
  rw [State.dropWatch_tuner]
  exact .refl _

theorem State.dropWatch_grants {x : TunerId} {f : Nat} (lone : (s.tuner x).watchOnly = true) (h : s.holder f = none) :
    s.Grants ((s.dropWatch x).takeTuner x f 1 false) x := by
  obtain ⟨program, unused, -⟩ := (Tuner.watchOnly_iff _).1 lone
  have other : (s.dropWatch x).tuner (otherTuner x) = s.tuner (otherTuner x) := (s.dropWatch_spec x).2.2.2.2.2.1
  have away : ((s.dropWatch x).tuner (otherTuner x)).holds f = false := by
    rw [other]
    exact State.holder_none_iff.1 h _
  refine ⟨(s.dropWatch_keepsOrder x).trans (State.takeTuner_keepsOrder away 1 false), fun loose n k => ?_, fun y p => ?_⟩
  · refine State.Tuned.takeTuner away 1 false (k.dropWatch program) (fun _ => .inl Nat.one_pos) ?_
      (by simp [oneMore, otherTuner_ne]) (fun a => a.resolve_right (otherTuner_ne x))
    simp [oneMore, ← k.users x, unused]
  · refine State.takeTuner_programs _ x f 1 false y ?_
    rw [State.dropWatch_tuner]
    refine forall_tuner (P := fun y => (s.tuner y).role = .program →
      ((s.setTuner x { s.tuner x with watch := false }).tuner y).role = .program) x (fun _ => ?_) (fun q => ?_) y p
    · rw [State.tuner_setTuner_same]
      exact program
    · rw [State.tuner_setTuner_other]
      exact q

/-- A claim by frequency that is not refused grants its tuner (R65). -/
theorem State.claim_grants {f : Nat} {x : TunerId} {c : Condition} (e : s.claim f = (t, some (x, c))) : s.Grants t x := by
  have given : ∀ {v : State} {y : TunerId} {d : Condition}, (v, some (y, d)) = (t, some (x, c)) → s.Grants v y → s.Grants t x := by
    intro v y d same grants
    cases same
    exact grants
  unfold State.claim at e
  split at e
  · rename_i y held
    exact given e (State.share_grants ((Tuner.holds_iff _ _).1 (State.holder_holds held)).1)
  · rename_i none
    split at e
    · rename_i free
      exact given e (State.takeTuner_grants (x := .t1) free none)
    · split at e
      · rename_i free
        exact given e (State.takeTuner_grants (x := .t2) free none)
      · split at e
        · rename_i lone
          exact given e (State.dropWatch_grants (x := .t1) lone none)
        · split at e
          · rename_i lone
            exact given e (State.dropWatch_grants (x := .t2) lone none)
          · cases e

theorem State.codeTarget_program {c : Nat} {x : TunerId} (h : s.codeTarget c = .tuner x) : (s.tuner x).role = .program := by
  unfold State.codeTarget at h
  split at h
  · rename_i one
    cases h
    exact ((Tuner.holdsCode_iff _ _).1 one).1
  · split at h
    · rename_i two
      cases h
      exact ((Tuner.holdsCode_iff _ _).1 two).1
    · split at h <;> cases h

/-- A claim by program code that finds its tuner grants it (R66). -/
theorem State.claimCode_grants {n : Nat} {x : TunerId} {c : Condition} (e : s.claimCode n = (t, some (x, c))) :
    s.Grants t x := by
  unfold State.claimCode at e
  split at e
  · rename_i y target
    have grants := State.share_grants (State.codeTarget_program target)
    unfold State.share at e grants
    cases e
    exact grants
  · exact State.claim_grants e
  · cases e

/-! ## Waiting claims (R66) -/

/-- The tuner given to the stake with a handle. -/
def Stake.seatAt (h : Handle) (x : TunerId) (k : Stake) : Stake := if k.handle = h then { k with tuner := some x } else k

theorem Stake.seatAt_other {h : Handle} {k : Stake} (e : k.handle ≠ h) (x : TunerId) : k.seatAt h x = k := if_neg e

/-- A stake that waits given a tuner: it counts for the tuner and leaves the list. -/
theorem Listed.seated {ks : List Stake} {ws : List Waiting} (l : Listed ks ws) {w : Waiting} (m : w ∈ ws) (x : TunerId) :
    seats (ks.map (Stake.seatAt w.handle x)) = oneMore (seats ks) x ∧
      Listed (ks.map (Stake.seatAt w.handle x)) (ws.filter (fun v => v.handle ≠ w.handle)) := by
  obtain ⟨k, mk, handle, source, unseated⟩ := l.waits w m
  obtain ⟨before, after, split⟩ := List.mem_iff_append.1 mk
  have perm : ks.Perm (k :: (before ++ after)) := by
    rw [split]
    exact List.perm_middle
  have bare := l.perm perm
  have apart : ∀ a ∈ before ++ after, a.handle.slot ≠ k.handle.slot := fun a ma e =>
    (List.nodup_cons.1 bare.slots).1 (List.mem_map.2 ⟨a, ma, e⟩)
  have rest : (before ++ after).map (Stake.seatAt w.handle x) = before ++ after :=
    (List.map_congr_left (fun a ma => Stake.seatAt_other (fun e => apart a ma (by rw [e, handle])) x)).trans (List.map_id _)
  have seated : ks.map (Stake.seatAt w.handle x) |>.Perm ({ k with tuner := some x } :: (before ++ after)) := by
    refine (perm.map _).trans ?_
    rw [List.map_cons, rest]
    unfold Stake.seatAt
    rw [if_pos handle]
  have owner : k.owner ≠ 7 := by
    have sourced := l.sources k mk
    unfold Stake.Sourced at sourced
    rw [source] at sourced
    exact sourced
  refine ⟨?_, ?_⟩
  · rw [seats_perm seated, seats_perm perm, seats_cons_some rfl, seats_cons_none unseated]
  · rw [← handle] at seated ⊢
    refine (bare.uncons.cons (k := { k with tuner := some x }) apart ?_ (fun _ _ e => nomatch e)).perm seated.symm
    unfold Stake.Sourced
    rw [source]
    exact owner

/-- A waiting claim tried, whether it finds a tuner or not, keeps the order of things (R66). -/
theorem State.tryWaiting_kept (s : State) (w : Waiting) : (s.TunersApart → (s.tryWaiting w).TunersApart) ∧
    (s.stations.Ordered → (s.tryWaiting w).stations.Ordered) ∧
    ∀ y, (s.tuner y).role = .program → ((s.tryWaiting w).tuner y).role = .program := by
  unfold State.tryWaiting
  split
  · split
    · rename_i t x c e
      obtain ⟨keeps, -, programs⟩ := State.claimCode_grants e
      dsimp only
      obtain ⟨-, tuners, stations⟩ := (t.dropWaiting w.handle).notice_stakes (fun r => r.handle = w.handle)
        (fun r => (t.dropWaiting w.handle).notified c { r with tuner := some x })
      refine ⟨fun a => ?_, fun o => ?_, fun y p => ?_⟩
      · unfold State.TunersApart
        rw [tuners]
        exact keeps.apart a
      · rw [stations]
        exact keeps.ordered o
      · have there := programs y p
        unfold State.tuner at there ⊢
        rw [tuners]
        cases y <;> exact there
    · exact ⟨id, id, fun _ => id⟩
  · exact ⟨id, id, fun y p => by cases y <;> exact p⟩

/-- An entry of the waiting list tried: the counts stand, and the entries of other handles (R66). -/
theorem State.Counted.tryWaiting {loose : TunerId → Prop} (h : s.Counted loose) {w : Waiting} (m : w ∈ s.tuners.waiting) :
    (s.tryWaiting w).Counted loose ∧
      ∀ v ∈ s.tuners.waiting, v.handle ≠ w.handle → v ∈ (s.tryWaiting w).tuners.waiting := by
  have here : s.routes.any (fun r => r.handle = w.handle) = true := by
    obtain ⟨k, mk, e, -⟩ := h.listed.waits w m
    obtain ⟨r, mr, rfl⟩ := List.mem_map.1 mk
    exact List.any_eq_true.2 ⟨r, mr, decide_eq_true e⟩
  unfold State.tryWaiting
  rw [if_pos here]
  split
  · rename_i t x c e
    obtain ⟨keeps, tuned, -⟩ := State.claimCode_grants e
    dsimp only
    obtain ⟨stakes, tuners, stations⟩ := (t.dropWaiting w.handle).notice_stakes (fun r => r.handle = w.handle)
      (fun r => (t.dropWaiting w.handle).notified c { r with tuner := some x })
    have list : (t.dropWaiting w.handle).tuners.waiting = s.tuners.waiting.filter (fun v => v.handle ≠ w.handle) := by
      rw [← keeps.waiting]
      rfl
    have seated : ((t.dropWaiting w.handle).notice (fun r => r.handle = w.handle)
        (fun r => (t.dropWaiting w.handle).notified c { r with tuner := some x })).stakes =
        s.stakes.map (Stake.seatAt w.handle x) := by
      rw [stakes, ← keeps.stakes]
      unfold State.stakes
      rw [List.map_map]
      refine List.map_congr_left (fun r _ => ?_)
      unfold Stake.seatAt
      by_cases e : r.handle = w.handle
      · have same : r.stake.handle = w.handle := e
        rw [if_pos (decide_eq_true e), Function.comp, if_pos same, (State.notified_keeps _ _ _).stake]
        rfl
      · have apart : ¬r.stake.handle = w.handle := e
        rw [if_neg (by simpa using e), Function.comp, if_neg apart]
    obtain ⟨counts, listed⟩ := h.listed.seated m x
    refine ⟨⟨?_, ?_⟩, fun v mv away => ?_⟩
    · rw [seated, counts]
      refine (tuned _ _ h.tuned).alike (fun y => ?_) ?_
      · unfold State.tuner
        rw [tuners]
        exact .refl _
      · rw [stations]
        rfl
    · rw [seated, tuners, list]
      exact listed
    · rw [tuners, list]
      exact List.mem_filter.2 ⟨mv, decide_eq_true away⟩
  · exact ⟨h, fun v mv _ => mv⟩

theorem State.Counted.tryAll {loose : TunerId → Prop} (ws : List Waiting) (once : (ws.map (fun w => w.handle)).Nodup)
    (s : State) (h : s.Counted loose) (there : ∀ w ∈ ws, w ∈ s.tuners.waiting) :
    (ws.foldl State.tryWaiting s).Counted loose := by
  induction ws generalizing s with
  | nil => exact h
  | cons w ws ih =>
    obtain ⟨apart, once⟩ := List.nodup_cons.1 once
    obtain ⟨counted, stay⟩ := h.tryWaiting (there w List.mem_cons_self)
    refine ih once _ counted (fun v mv => stay v (there v (List.mem_cons_of_mem _ mv)) (fun e => apart ?_))
    exact List.mem_map.2 ⟨v, mv, e⟩

theorem State.notifyCode_kept (s : State) (c : Nat) : (s.TunersApart → (s.notifyCode c).TunersApart) ∧
    (s.stations.Ordered → (s.notifyCode c).stations.Ordered) ∧
    ∀ y, (s.tuner y).role = .program → ((s.notifyCode c).tuner y).role = .program := by
  unfold State.notifyCode
  induction s.tuners.waiting.filter (fun w => w.code = c) generalizing s with
  | nil => exact ⟨id, id, fun _ => id⟩
  | cons w ws ih =>
    obtain ⟨apart, ordered, programs⟩ := s.tryWaiting_kept w
    obtain ⟨apart', ordered', programs'⟩ := ih (s.tryWaiting w)
    exact ⟨fun a => apart' (apart a), fun o => ordered' (ordered o), fun y p => programs' y (programs y p)⟩

/-- A notice of a code keeps the counts (R66). -/
theorem State.notifyCode_keeps (s : State) (c : Nat) : KeepsTuners s (s.notifyCode c) := by
  obtain ⟨apart, ordered, -⟩ := s.notifyCode_kept c
  exact ⟨apart, ordered, fun loose h => State.Counted.tryAll _ (h.listed.once.sublist (List.filter_sublist.map _)) s h
    (fun w m => List.mem_of_mem_filter m)⟩

/-! ## Decoded items (R94 to R96) -/

/-- What follows a code told to the Allocator leaves the tuners alike. -/
theorem State.afterCode_alike (s : State) (f c : Nat) :
    s.Alike ((((s.followCode .t1 f c).followCode .t2 f c).holdStreak .t1).holdStreak .t2) :=
  (((s.followCode_alike .t1 f c).trans (State.followCode_alike _ .t2 f c)).trans (State.holdStreak_alike _ .t1)).trans
    (State.holdStreak_alike _ .t2)

theorem Station.withCode_frequency (c : Nat) (r : Station) : (r.withCode c).frequency = r.frequency := by
  unfold Station.withCode
  split
  · rfl
  · split <;> rfl

theorem Station.withSegment_frequency (p : Nat) (a b : Byte) (r : Station) :
    (r.withSegment p a b).frequency = r.frequency := by
  unfold Station.withSegment
  split <;> rfl

theorem State.applyCode_keeps (s : State) (f c : Nat) : KeepsTuners s (s.applyCode f c) ∧
    ∀ y, (s.tuner y).role = .program → ((s.applyCode f c).tuner y).role = .program := by
  unfold State.applyCode
  split
  · exact ⟨.refl s, fun _ => id⟩
  · split
    · exact ⟨.refl s, fun _ => id⟩
    · let v : State := { s with stations := s.stations.update f (Station.withCode c) }
      have coded : s.Alike v := s.update_alike f _ (Station.withCode_frequency c)
      have after := (v.notifyCode c).afterCode_alike f c
      exact ⟨((KeepsTuners.alike coded).trans (v.notifyCode_keeps c)).trans (.alike after), fun y p =>
        (after.tuners y).role.2 ((v.notifyCode_kept c).2.2 y ((coded.tuners y).role.2 p))⟩

theorem State.applyItem_keeps (s : State) (f : Nat) (i : DataItem) : KeepsTuners s (s.applyItem f i) ∧
    ∀ y, (s.tuner y).role = .program → ((s.applyItem f i).tuner y).role = .program := by
  have alike : ∀ {v : State}, s.Alike v → KeepsTuners s v ∧ ∀ y, (s.tuner y).role = .program → (v.tuner y).role = .program :=
    fun a => ⟨.alike a, fun y p => (a.tuners y).role.2 p⟩
  unfold State.applyItem
  cases i with
  | programCode c =>
    dsimp only
    split
    · exact alike (.refl s)
    · exact s.applyCode_keeps f _
  | nameSegment p a b => exact alike (s.update_alike f _ (Station.withSegment_frequency p a b))
  | traffic c a => exact alike (s.update_alike f _ (fun _ => rfl))
  | afList fs =>
    exact alike (((s.update_alike f (Station.withAfList s.tuners.plan fs) (fun _ => rfl)).trans (State.holdStreak_alike _ .t1)).trans
      (State.holdStreak_alike _ .t2))

theorem State.giveCode_keeps (s : State) (f c : Nat) : KeepsTuners s (s.giveCode f c) := by
  unfold State.giveCode
  split
  · exact .refl s
  · exact (s.applyCode_keeps f c).1

theorem State.handOver_keeps (s : State) (c : Nat) (m : Measurement) (k : Option Nat) :
    KeepsTuners s (s.handOver c m k) := by
  have refreshed := KeepsTuners.alike (s.refreshStation_alike c m)
  unfold State.handOver
  dsimp only
  split
  · exact refreshed.trans (State.applyCode_keeps _ _ _).1
  · exact refreshed

theorem State.arbitrate_keeps (s : State) : KeepsTuners s s.arbitrate := .of s.arbitrate_retains

theorem State.scanResults_keeps (s : State) (f : Nat) (m : Measurement) (items : List DataItem) :
    KeepsTuners s (s.scanResults f m items) := by
  have applied : KeepsTuners s (items.foldl (fun u i => u.applyItem f i) (s.refreshStation f m)) :=
    (KeepsTuners.alike (s.refreshStation_alike f m)).trans (.folded _ (fun t i => (t.applyItem_keeps f i).1) items _)
  unfold State.scanResults
  split
  · exact .refl s
  · dsimp only
    split
    · split
      · exact applied.trans (State.notifyCode_keeps _ _)
      · exact applied
    · exact applied

theorem State.scanStepComplete_keeps (s : State) (x : TunerId) : KeepsTuners s (s.scanStepComplete x) := by
  unfold State.scanStepComplete
  dsimp only
  split
  · refine KeepsTuners.trans (KeepsTuners.trans (.alike ?_) (State.scanResults_keeps _ _ _ _)) (State.arbitrate_keeps _)
    have reserved := s.reserve_alike x none
    have cleared : ∀ v : State, v.tuner x = s.tuner x →
        v.Alike (v.setTuner x { s.tuner x with activity := .none, scan := none }) := fun v e =>
      v.setTuner_alike (by rw [e]; exact .rest rfl rfl rfl rfl rfl rfl rfl)
    refine (reserved.trans (cleared _ (by cases x <;> rfl))).trans ?_
    split
    · exact ⟨fun y => by cases y <;> exact .refl _, rfl, id, rfl, rfl⟩
    · exact .refl _
  · exact .refl s

end Sys2Proof.Machine
end

-- ==== support and settled obligations, part 52 ====
section
/-! SUPPORT. Openings and removals of routes, announcements and lines: what they keep of the counts (R14, R19, R29, R68). -/

namespace Sys2Proof.Machine

variable {s t u : State}

/-! ## Removals (R14) -/

theorem fallRank_stake (d : Domain) (k : Nat) (x : Route) : (fallRank d k x).stake = x.stake := by
  rw [fallRank_rest]
  rfl

/-- The stakes once a route has gone: those of the other slots. -/
theorem stakes_withoutRoute (r : Route) (rs : List Route) :
    (withoutRoute r rs).map Route.stake = (rs.map Route.stake).filter (fun k => k.handle.slot ≠ r.slot) := by
  unfold withoutRoute
  rw [List.map_map, List.filter_map]
  exact List.map_congr_left (fun x _ => fallRank_stake _ _ x)

/-- A table's stakes are one of them and those of the other slots. -/
theorem Listed.perm_filter {ks : List Stake} {ws : List Waiting} (h : Listed ks ws) {k : Stake} (m : k ∈ ks) :
    ks.Perm (k :: ks.filter (fun x => x.handle.slot ≠ k.handle.slot)) := by
  obtain ⟨before, after, rfl⟩ := List.mem_iff_append.1 m
  have perm : (before ++ k :: after).Perm (k :: (before ++ after)) := List.perm_middle
  have apart := (List.nodup_cons.1 (h.perm perm).slots).1
  have whole : (before ++ after).filter (fun x => x.handle.slot ≠ k.handle.slot) = before ++ after :=
    List.filter_eq_self.2 (fun x mx => decide_eq_true (fun e => apart (List.mem_map.2 ⟨x, mx, e⟩)))
  have rest := perm.filter (fun x => x.handle.slot ≠ k.handle.slot)
  rw [List.filter_cons_of_neg (by simp), whole] at rest
  exact perm.trans (rest.symm.cons k)

theorem State.releaseRoute_keepsOrder (s : State) (r : Route) : (s.TunersApart → (s.releaseRoute r).TunersApart) ∧
    (s.stations.Ordered → (s.releaseRoute r).stations.Ordered) := by
  unfold State.releaseRoute
  split
  · exact ⟨(s.leaveTuner_keepsOrder _).apart, (s.leaveTuner_keepsOrder _).ordered⟩
  · exact ⟨(s.leaveTuner_keepsOrder _).apart, (s.leaveTuner_keepsOrder _).ordered⟩
  · exact ⟨id, id⟩
  · exact ⟨id, id⟩

/-- A route told as removed: its tuner counts one less, or its entry leaves the waiting list (R14, R66, R68). -/
theorem State.releaseRoute_counts {loose : TunerId → Prop} {r : Route} {ks : List Stake}
    (h : s.Tuned loose (seats (r.stake :: ks))) (l : Listed (r.stake :: ks) s.tuners.waiting) :
    (s.releaseRoute r).Tuned loose (seats ks) ∧ Listed ks (s.releaseRoute r).tuners.waiting := by
  have sourced := r.stake_sourced.1 (l.sources _ List.mem_cons_self)
  have left : ∀ x, r.tuner = some x → (s.leaveTuner x).Tuned loose (seats ks) ∧
      Listed ks (s.leaveTuner x).tuners.waiting := fun x e => by
    rw [seats_cons_some (show r.stake.tuner = some x from e)] at h
    have less := h.leaveTuner (x := x) (by simp [oneMore])
    rw [oneFewer_oneMore] at less
    rw [(s.leaveTuner_keepsOrder x).waiting]
    exact ⟨less, l.uncons_seated (fun _ _ none => by
      rw [show r.stake.tuner = some x from e] at none
      cases none)⟩
  have idle : r.tuner = none → (∀ c, r.source ≠ .tunerCode c) →
      s.Tuned loose (seats ks) ∧ Listed ks s.tuners.waiting := fun e k => by
    rw [seats_cons_none (show r.stake.tuner = none from e)] at h
    exact ⟨h, l.uncons_seated (fun c source => absurd source (k c))⟩
  unfold State.releaseRoute
  cases source : r.source with
  | tunerFrequency f =>
    rw [source] at sourced
    cases tuned : r.tuner with
    | some x => exact left x tuned
    | none =>
      rw [tuned] at sourced
      exact absurd sourced.1 (by simp)
  | tunerCode c =>
    cases tuned : r.tuner with
    | some x => exact left x tuned
    | none =>
      rw [seats_cons_none (show r.stake.tuner = none from tuned)] at h
      refine ⟨h.alike (fun y => ?_) rfl, l.uncons⟩
      cases y <;> exact .refl _
  | stream _ =>
    rw [source] at sourced
    exact idle sourced (fun c => by rw [source]; simp)
  | tone _ =>
    rw [source] at sourced
    exact idle sourced (fun c => by rw [source]; simp)
  | leg _ _ =>
    rw [source] at sourced
    exact idle sourced (fun c => by rw [source]; simp)

theorem State.removeRoute_keeps (s : State) (slot : Nat) (mark : Bool) : KeepsTuners s (s.removeRoute slot mark) := by
  cases h : s.routeIn slot with
  | none =>
    unfold State.removeRoute
    rw [h]
    exact .refl s
  | some r =>
    obtain ⟨m, rfl⟩ := s.routeIn_mem h
    have routes := s.removeRoute_routes h mark
    have eq : ∃ v : State, v.tuners = s.tuners ∧ v.stations = s.stations ∧
        (s.removeRoute r.slot mark).tuners = (v.releaseRoute r).tuners ∧
        (s.removeRoute r.slot mark).stations = (v.releaseRoute r).stations := by
      refine ⟨{ s with
        routes := withoutRoute r s.routes
        reuse := tabSet s.reuse (r.slot - 1) (tabGet s.reuse (r.slot - 1) 0 + 1) }, rfl, rfl, ?_⟩
      unfold State.removeRoute
      rw [h]
      dsimp only
      split
      · exact ⟨State.markSlots_tuners _ _, State.markSlots_stations _ _⟩
      · exact ⟨rfl, rfl⟩
    obtain ⟨v, vt, vs, tuners, stations⟩ := eq
    have same : ∀ {a b : State}, b.tuners = a.tuners → b.stations = a.stations → ∀ y, (a.tuner y).Alike (b.tuner y) :=
      fun p _ y => by
        unfold State.tuner
        rw [p]
        exact .refl _
    obtain ⟨apart, ordered⟩ := v.releaseRoute_keepsOrder r
    refine ⟨fun a => ?_, fun o => ?_, fun loose c => ?_⟩
    · unfold State.TunersApart
      rw [tuners]
      refine apart ?_
      unfold State.TunersApart
      rw [vt]
      exact a
    · rw [stations]
      exact ordered (by rw [vs]; exact o)
    · have perm := c.listed.perm_filter (List.mem_map_of_mem (f := Route.stake) m)
      have left : (s.removeRoute r.slot mark).stakes = s.stakes.filter (fun x => x.handle.slot ≠ r.stake.handle.slot) := by
        unfold State.stakes
        rw [routes, stakes_withoutRoute]
        rfl
      have tuned := c.tuned.alike (same vt vs) (by rw [vs])
      rw [seats_perm perm] at tuned
      obtain ⟨counts, listed⟩ := State.releaseRoute_counts tuned (by rw [vt]; exact c.listed.perm perm)
      refine ⟨?_, ?_⟩
      · rw [left]
        exact counts.alike (same tuners stations) (by rw [stations])
      · rw [left, tuners]
        exact listed

/-- A change of the route in one slot that keeps its stake. -/
theorem State.onSlot_alike (s : State) (slot : Nat) (f : Route → Route) (h : ∀ r, (f r).stake = r.stake) :
    s.Alike { s with routes := onSlot slot f s.routes } := by
  refine .rest rfl rfl ?_
  unfold State.stakes onSlot
  rw [List.map_map]
  refine List.map_congr_left (fun r _ => ?_)
  dsimp only [Function.comp]
  split
  · exact h r
  · rfl

theorem State.putOnSlot_alike (s : State) (slot : Nat) (f : Route → Route) (h : ∀ r : Route, r.Keeps (f r)) :
    s.Alike (s.putRoutes (onSlot slot f s.routes)) :=
  s.putRoutes_alike (onSlot_forall₂ slot _ _ (fun r _ _ => h r) (fun r => .refl r))

theorem State.retireSlot_keeps (s : State) (auto own : Bool) (slot : Nat) : KeepsTuners s (s.retireSlot auto own slot) := by
  unfold State.retireSlot
  split
  · exact .refl s
  · split
    · exact .refl s
    · exact s.removeRoute_keeps _ _
    · exact s.removeRoute_keeps _ _
    · extract_lets s1 s2
      have one : s.Alike s1 := s.putOnSlot_alike slot _ Route.close_keeps
      have two : s.Alike s2 := by
        unfold s2
        split
        · exact one.trans (State.markSlots_alike _ _)
        · exact one
      split
      · exact (KeepsTuners.alike two).trans (State.removeRoute_keeps _ _ _)
      · exact .alike two

theorem State.retireSlots_keeps (s : State) (auto own : Bool) (slots : List Nat) :
    KeepsTuners s (s.retireSlots auto own slots) :=
  (KeepsTuners.folded _ (fun t k => t.retireSlot_keeps auto own k) slots s).trans (.alike (State.rerunAll_alike _ _))

theorem State.autoRetire_keeps (s : State) (hs : List Handle) : KeepsTuners s (s.autoRetire hs) :=
  s.retireSlots_keeps _ _ _

theorem State.rampStepSlot_keeps (s : State) (slot : Nat) : KeepsTuners s (s.rampStepSlot slot) := by
  unfold State.rampStepSlot
  split
  · exact .refl s
  · split
    · have stepped := KeepsTuners.alike (s.putOnSlot_alike slot _ Route.rampStep_keeps)
      dsimp only
      split
      · exact (stepped.trans (State.removeRoute_keeps _ _ _)).trans (.alike (State.rerun_alike _ _))
      · exact stepped
    · exact .refl s

/-! ## Openings (R19, R29) -/

/-- A route opened adds its stake and leaves tuners and stations. -/
theorem State.openRoute_stakes (s : State) (r : Route) : (s.openRoute r).stakes.Perm (r.stake :: s.stakes) ∧
    (s.openRoute r).tuners = s.tuners ∧ (s.openRoute r).stations = s.stations := by
  have before : ∃ v : State, s.openRoute r = v.rerun r.zone.domain ∧ v.tuners = s.tuners ∧ v.stations = s.stations ∧
      v.routes = insertRoute (s.firstEntry r) s.routes := by
    refine ⟨_, rfl, ?_⟩
    split
    · exact ⟨State.raiseIf_tuners _ _ _, State.raiseIf_stations _ _ _, State.raiseIf_routes _ _ _⟩
    · exact ⟨rfl, rfl, rfl⟩
  obtain ⟨v, e, tuners, stations, routes⟩ := before
  have ran := v.rerun_frame r.zone.domain
  rw [e]
  refine ⟨?_, by rw [ran.rest, ← tuners], by rw [ran.rest, ← stations]⟩
  rw [(v.rerun_alike r.zone.domain).stakes]
  unfold State.stakes
  rw [routes, ← (s.firstEntry_keeps r).stake]
  exact (insertRoute_perm _ _).map _

/-- Openings keep the order of things, and the counts where the new stake does. -/
theorem State.openRoute_kept (s : State) (r : Route) : (s.TunersApart → (s.openRoute r).TunersApart) ∧
    (s.stations.Ordered → (s.openRoute r).stations.Ordered) ∧
    ∀ loose, s.Tuned loose (seats (r.stake :: s.stakes)) → Listed (r.stake :: s.stakes) s.tuners.waiting →
      (s.openRoute r).Counted loose := by
  obtain ⟨stakes, tuners, stations⟩ := s.openRoute_stakes r
  refine ⟨fun a => ?_, fun o => by rw [stations]; exact o, fun loose tuned listed => ⟨?_, ?_⟩⟩
  · unfold State.TunersApart
    rw [tuners]
    exact a
  · rw [seats_perm stakes]
    refine tuned.alike (fun y => ?_) (by rw [stations])
    unfold State.tuner
    rw [tuners]
    exact .refl _
  · rw [tuners]
    exact listed.perm stakes.symm

theorem State.free_stakes {k : Nat} (h : s.freeSlot = some k) : ∀ x ∈ s.stakes, x.handle.slot ≠ k := by
  intro x m
  obtain ⟨r, mr, rfl⟩ := List.mem_map.1 m
  exact (s.freeSlot_spec h).2 r mr

theorem State.openAlert_keeps (s : State) (i : Fin 4) (z : Zone) (pattern : Nat) (level : Int) :
    KeepsTuners s (s.openAlert i z pattern level).1 := by
  unfold State.openAlert
  split
  · exact .rest rfl rfl rfl
  · rename_i k free
    dsimp only
    obtain ⟨apart, ordered, counted⟩ := s.openRoute_kept
      (s.newRoute k 7 z .alert (.tone pattern) level s.defaultRamp.alert (some s.alertMax) none .available (some i))
    refine KeepsTuners.trans ⟨apart, ordered, fun loose c => counted loose ?_ ?_⟩
      ((KeepsTuners.alike (State.markSlots_alike _ _)).trans (.rest rfl rfl rfl))
    · rw [seats_cons_none rfl]
      exact c.tuned
    · exact c.listed.cons (State.free_stakes free) rfl (fun _ e => nomatch e)

/-- A route on the watch tuner's program opened (R29, R101): the tuner counts it, and stays a program. -/
theorem State.openAnnouncement_keeps (s : State) {x : TunerId} (program : (s.tuner x).role = .program) (f : Nat) (z : Zone) :
    KeepsTuners s (s.openAnnouncement x f z).1 ∧ ((s.openAnnouncement x f z).1.tuner x).role = .program := by
  unfold State.openAnnouncement
  split
  · refine ⟨.rest rfl rfl rfl, ?_⟩
    cases x <;> exact program
  · rename_i k free
    extract_lets cond u s1 r
    dsimp only
    have shared : s.Grants s1 x := State.share_grants program
    obtain ⟨-, tuners, -⟩ := s1.openRoute_stakes r
    obtain ⟨apart, ordered, counted⟩ := s1.openRoute_kept r
    have stays : (((s1.openRoute r).markSlots (slotBit k)).raise .routeAuto).tuners = s1.tuners :=
      (State.markSlots_tuners _ _).trans tuners
    refine ⟨KeepsTuners.trans (t := s1.openRoute r) ⟨fun a => apart (shared.keeps.apart a),
      fun o => ordered (shared.keeps.ordered o), fun loose c => counted loose ?_ ?_⟩
      ((KeepsTuners.alike (State.markSlots_alike _ _)).trans (.rest rfl rfl rfl)), ?_⟩
    · rw [seats_cons_some (show r.stake.tuner = some x from rfl), shared.keeps.stakes]
      exact shared.tuned _ _ c.tuned
    · rw [shared.keeps.stakes, shared.keeps.waiting]
      exact c.listed.cons (State.free_stakes free) ⟨rfl, show (6 : Nat) ≠ 7 by decide⟩ (fun _ e => nomatch e)
    · have there := shared.programs x program
      unfold State.tuner at there ⊢
      rw [stays]
      exact there

theorem State.startAnnouncement_keeps (s : State) {x : TunerId} (program : (s.tuner x).role = .program) (f : Nat) :
    KeepsTuners s (s.startAnnouncement x f) := by
  have opened : ∀ (zs : List Zone) (t : State), (t.tuner x).role = .program →
      KeepsTuners t (zs.foldl (fun t z =>
        let (u, hs) := t.openAnnouncement x f z
        { u with stations.announced := u.stations.announced ++ hs }) t) := by
    intro zs
    induction zs with
    | nil => exact fun t _ => .refl t
    | cons z zs ih =>
      intro t p
      obtain ⟨keeps, stays⟩ := t.openAnnouncement_keeps p f z
      have noted : ∀ (v : State) hs, KeepsTuners v { v with stations.announced := hs } := fun v hs =>
        .alike (.stations rfl rfl (fun o => o.of_records rfl) rfl)
      exact (keeps.trans (noted _ _)).trans (ih _ (by cases x <;> exact stays))
  have begun : KeepsTuners s { s with stations.announcing := true, stations.announced := [] } :=
    .alike (.stations rfl rfl (fun o => o.of_records rfl) rfl)
  exact begun.trans (opened _ _ (by cases x <;> exact program))

theorem State.endAnnouncement_keeps (s : State) : KeepsTuners s s.endAnnouncement := by
  unfold State.endAnnouncement
  split
  · exact (s.autoRetire_keeps _).trans (.alike (.stations rfl rfl (fun o => o.of_records rfl) rfl))
  · exact .refl s

theorem State.watchEnded_keeps (s : State) : KeepsTuners s s.watchEnded := by
  have ended : KeepsTuners s { s with stations.watch := none } := .alike (.stations rfl rfl (fun o => o.of_records rfl) rfl)
  exact ended.trans (State.endAnnouncement_keeps _)

theorem State.lines_keeps (s : State) (q : Quad Line) : KeepsTuners s { s with lines := q } := .rest rfl rfl rfl

theorem State.assertLine_keeps (s : State) (i : Fin 4) : KeepsTuners s (s.assertLine i) := by
  unfold State.assertLine
  dsimp only
  split
  · exact (s.lines_keeps _).trans (.folded _ (fun t z => (t.openAlert_keeps i z _ _).trans (State.lines_keeps _ _)) _ _)
  · exact s.lines_keeps _

theorem State.releaseLine_keeps (s : State) (i : Fin 4) : KeepsTuners s (s.releaseLine i) :=
  (s.autoRetire_keeps _).trans (State.lines_keeps _ _)

theorem State.lineDebounceExpiry_keeps (s : State) (i : Fin 4) : KeepsTuners s (s.lineDebounceExpiry i) := by
  unfold State.lineDebounceExpiry
  split
  · split
    · exact s.releaseLine_keeps i
    · exact s.assertLine_keeps i
  · exact .refl s

theorem State.alertCut_keeps (s : State) (slot : Nat) : KeepsTuners s (s.alertCut slot) := by
  unfold State.alertCut
  split
  · exact .refl s
  · split
    · extract_lets s1 s2
      have cut : KeepsTuners s s2 := ((KeepsTuners.alike (s.onSlot_alike slot (fun r => { r with cut := true })
        (fun _ => rfl))).trans (State.retireSlots_keeps _ _ _ _)).trans (.rest rfl rfl rfl)
      split
      · exact cut.trans (State.lines_keeps _ _)
      · exact cut
    · exact .refl s

theorem State.tonePatternEnd_keeps (s : State) (slot : Nat) : KeepsTuners s (s.tonePatternEnd slot) := by
  unfold State.tonePatternEnd
  split
  · exact .refl s
  · split
    · split
      · exact .refl s
      · exact (KeepsTuners.alike (s.onSlot_alike slot (fun r => { r with play := none }) (fun _ => rfl))).trans
          (State.retireSlots_keeps _ _ _ _)
    · exact .refl s

/-! ## Data items of programs (R83, R101, R102) -/

theorem State.announce_keeps (s : State) {x : TunerId} (program : (s.tuner x).role = .program) (f : Nat) :
    KeepsTuners s (s.announce x f) := by
  unfold State.announce
  split
  · split
    · exact .refl s
    · split
      · split
        · exact .refl s
        · exact s.startAnnouncement_keeps program f
      · exact s.endAnnouncement_keeps
  · exact .refl s

theorem State.programItem_keeps (s : State) {x : TunerId} (program : (s.tuner x).role = .program) (f : Nat)
    (i : DataItem) : KeepsTuners s (s.programItem x f i) := by
  obtain ⟨keeps, programs⟩ := s.applyItem_keeps f i
  have stays := programs x program
  unfold State.programItem
  dsimp only
  split
  · split
    · exact keeps.trans (.alike (State.confirm_alike _ (fun _ => stays) _))
    · exact keeps
  · exact keeps.trans (State.announce_keeps _ stays f)
  · exact keeps

theorem State.dataItem_keeps (s : State) (x : TunerId) (i : DataItem) : KeepsTuners s (s.dataItem x i) := by
  unfold State.dataItem
  dsimp only
  split
  · split
    · rename_i program
      exact (s.programItem_keeps program _ _).trans (State.arbitrate_keeps _)
    · exact .refl s
  · split
    · exact .alike (s.setTuner_alike (.rest rfl rfl rfl rfl rfl rfl rfl))
    · exact .refl s
  · exact .refl s

end Sys2Proof.Machine
end

-- ==== support and settled obligations, part 53 ====
section
/-! SUPPORT. The work of the other blocks, QUIET and start-up: what they keep of tuners and stations. -/

namespace Sys2Proof.Machine

/-! ## Volumes, jacks, legs and the link -/

section
variable (s : State)

theorem State.setVolume_alike (z : Zone) (v : Nat) : s.Alike (s.setVolume z v) := by
  have set : ∀ m, s.Alike { s with mixer := m } := fun _ => .rest rfl rfl rfl
  unfold State.setVolume
  split
  · exact .refl s
  · exact (set _).trans (State.retargetWhere_alike _ _ _)

theorem State.followOne_alike (z : Zone) (c : Int) : s.Alike (s.followOne z c) := by
  unfold State.followOne
  dsimp only
  split
  · exact s.setVolume_alike _ _
  · exact .refl s

theorem State.follow_alike (c : Int) : s.Alike (s.follow c) := by
  unfold State.follow
  split
  · exact .refl s
  · exact (s.followOne_alike _ _).trans (State.followOne_alike _ _ _)

theorem State.setVolumeAndFollow_alike (z : Zone) (v : Nat) : s.Alike (s.setVolumeAndFollow z v) := by
  unfold State.setVolumeAndFollow
  dsimp only
  split
  · exact (s.setVolume_alike z v).trans (State.follow_alike _ _)
  · exact s.setVolume_alike z v

theorem State.lowerZone_alike (z : Zone) : s.Alike (s.lowerZone z) := by
  unfold State.lowerZone
  split
  · exact s.setVolumeAndFollow_alike _ _
  · exact .refl s

theorem State.setCap_alike (z : Zone) (cap : Nat) : s.Alike (s.setCap z cap) := by
  have set : ∀ m, s.Alike { s with mixer := m } := fun _ => .rest rfl rfl rfl
  unfold State.setCap
  dsimp only
  split
  · exact (set _).trans (State.setVolume_alike _ _ _)
  · exact set _

theorem State.setJack_alike (o : HpOut) (j : Jack) : s.Alike (s.setJack o j) := by
  cases o <;> exact .rest rfl rfl rfl

theorem State.jackChange_keeps (o : HpOut) : KeepsTuners s (s.jackChange o) := by
  unfold State.jackChange
  extract_lets present t u
  have set : s.Alike t := s.setJack_alike o _
  have safe : s.Alike u := by
    unfold u
    split
    · unfold State.safeStart
      split
      · exact set.trans (State.setVolume_alike _ _ _)
      · exact set
    · exact set
  exact (KeepsTuners.alike ((safe.trans (State.notice_alike _ _ _ (State.refresh_keeps _))).trans
    (State.raiseIf_alike _ true _))).trans (State.arbitrate_keeps _)

theorem State.dropSeats_alike (p : Seat → Bool) : s.Alike (s.dropSeats p) :=
  .rest (by simp [State.dropSeats]) (by simp [State.dropSeats]) (State.stakes_of_routes (by simp))

theorem State.calls_alike (c : Calls) : s.Alike { s with calls := c } := .rest rfl rfl rfl

theorem State.legNotice_alike (id : Nat) (reuse : Byte) : s.Alike (s.legNotice id reuse) := by
  refine s.notice_alike _ _ (fun r => ?_)
  split
  · exact s.refresh_keeps r
  · exact Route.Keeps.trans ⟨rfl⟩ (s.refresh_keeps { r with play := none })

theorem State.holdLeg_alike (l : Leg) : s.Alike (s.holdLeg l) := by
  unfold State.holdLeg
  dsimp only
  refine State.Alike.trans ?_ (State.legNotice_alike _ _ _)
  split
  · exact (s.dropSeats_alike _).trans (State.calls_alike _ _)
  · exact s.calls_alike _

theorem State.holdActive_alike : s.Alike s.holdActive := by
  unfold State.holdActive
  split
  · exact (s.holdLeg_alike _).trans (State.raiseIf_alike _ true _)
  · exact .refl s

theorem State.activateLeg_alike (l : Leg) : s.Alike (s.activateLeg l) :=
  ((s.holdActive_alike.trans (State.calls_alike _ _)).trans (State.calls_alike _ _)).trans (State.legNotice_alike _ _ _)

theorem State.closeLeg_keeps (l : Leg) : KeepsTuners s (s.closeLeg l) := by
  unfold State.closeLeg
  extract_lets s1 s2
  have dropped : s.Alike s1 := by
    unfold s1
    split
    · exact s.dropSeats_alike _
    · exact .refl s
  refine ((KeepsTuners.alike dropped).trans (State.autoRetire_keeps _ _)).trans (.alike (.rest rfl rfl ?_))
  unfold State.stakes
  rw [List.map_map]
  refine List.map_congr_left (fun r _ => ?_)
  dsimp only [Function.comp]
  split <;> rfl

theorem State.setSeats_alike (l : Leg) (n : SeatSet) : s.Alike (s.setSeats l n) := by
  unfold State.setSeats
  dsimp only
  split
  · exact (s.calls_alike _).trans ((State.dropSeats_alike _ _).trans (State.calls_alike _ _))
  · exact s.calls_alike _

theorem State.callsLinkUp_alike : s.Alike s.callsLinkUp :=
  .rest (by simp [State.callsLinkUp]) (by simp [State.callsLinkUp]) (State.stakes_of_routes (by simp))

theorem State.callsLinkDown_alike : s.Alike s.callsLinkDown :=
  .rest (by simp [State.callsLinkDown]) (by simp [State.callsLinkDown]) (State.stakes_of_routes (by simp))

theorem State.routesLink_alike : s.Alike s.routesLink := s.notice_alike _ _ s.refresh_keeps

theorem State.eitherOrder_keeps (f g : State → State) (hf : ∀ t, KeepsTuners t (f t)) (hg : ∀ t, KeepsTuners t (g t)) :
    KeepsTuners s (s.eitherOrder f g) := by
  have counted : KeepsTuners s { s with freeCount := s.freeCount + 1 } := .rest rfl rfl rfl
  unfold State.eitherOrder
  dsimp only
  split
  · exact counted.trans (hf _)
  · exact counted.trans (hg _)

theorem State.setPhone_keeps (p : Phone) : KeepsTuners s (s.setPhone p) := by
  have told : ∀ c, KeepsTuners s ({ s with phone := p }.raiseIf c .phoneLink) := fun c =>
    .rest (by simp) (by simp) (by simp)
  unfold State.setPhone
  extract_lets o rose s1
  split
  · exact (told _).trans (State.eitherOrder_keeps _ _ _
      (fun t => (KeepsTuners.alike (t.callsLinkUp_alike.trans (State.routesLink_alike _))).trans (State.arbitrate_keeps _))
      (fun t => (KeepsTuners.alike (t.routesLink_alike.trans (State.callsLinkUp_alike _))).trans (State.arbitrate_keeps _)))
  · split
    · exact (told _).trans (State.eitherOrder_keeps _ _ _
        (fun t => (KeepsTuners.alike (t.callsLinkDown_alike.trans (State.routesLink_alike _))).trans (State.arbitrate_keeps _))
        (fun t => (KeepsTuners.alike (t.routesLink_alike.trans (State.callsLinkDown_alike _))).trans (State.arbitrate_keeps _)))
    · exact told _

/-! ## LIMP and the watch -/

theorem State.sup_keeps (u : Supervision) : KeepsTuners s { s with sup := u } := .rest rfl rfl rfl

theorem State.enterLimp_keeps : KeepsTuners s s.enterLimp := by
  have limp := s.sup_keeps { s.sup with state := .limp, left := none }
  unfold State.enterLimp
  extract_lets _ s1 s2 s3
  have low : s1.Alike s3 := (((s1.rerunAll_alike _).trans (State.lowerZone_alike _ _)).trans (State.lowerZone_alike _ _)).trans
    (State.lowerZone_alike _ _)
  exact limp.trans ((KeepsTuners.alike (low.trans (State.raiseIf_alike _ true _))).trans (State.arbitrate_keeps _))

theorem State.leaveLimp_keeps : KeepsTuners s s.leaveLimp :=
  ((s.sup_keeps { s.sup with state := .run }).trans (.alike (State.rerunAll_alike _ _))).trans (State.arbitrate_keeps _)

theorem State.watchTuner_watches {x : TunerId} (h : s.watchTuner = some x) : (s.tuner x).watch = true := by
  unfold State.watchTuner at h
  split at h
  · rename_i one
    cases h
    exact one
  · split at h
    · rename_i two
      cases h
      exact two
    · cases h

/-- The watch taken off a tuner, before its announcement ends: the tuner may have no holder left. -/
theorem State.unwatch_keeps {x : TunerId} {loose : TunerId → Prop} (h : s.Counted loose) (watched : (s.tuner x).watch = true) :
    (s.setTuner x { s.tuner x with watch := false }).Counted (alsoLoose loose x) := by
  have program : (s.tuner x).role = .program := h.tuned.program (fun b => by
    rw [b.watch] at watched
    cases watched)
  have stakes : (s.setTuner x { s.tuner x with watch := false }).stakes = s.stakes := State.stakes_of_routes (by simp)
  refine ⟨?_, ?_⟩
  · rw [stakes]
    exact State.Tuned.setTuner (by rfl) (by rfl) h.tuned program (h.tuned.users x) rfl
      (fun l => absurd (Or.inr rfl) l) .inl
  · rw [stakes, State.setTuner_waiting]
    exact h.listed

theorem State.endWatch_keeps : KeepsTuners s s.endWatch := by
  have set : KeepsTuners s { s with tuners.watch := none } :=
    .alike ⟨fun y => by cases y <;> exact .refl _, rfl, id, rfl, rfl⟩
  unfold State.endWatch
  extract_lets _ t
  split
  · exact set
  · rename_i x watcher
    have watched : (t.tuner x).watch = true := by
      have there := s.watchTuner_watches watcher
      cases x <;> exact there
    have order : t.KeepsOrder (t.setTuner x { t.tuner x with watch := false }) :=
      State.setTuner_keepsOrder (by rfl) (by rfl)
    let v := t.setTuner x { t.tuner x with watch := false }
    have ended := v.watchEnded_keeps
    have freed := State.freeIfUnheld_keepsOrder v.watchEnded x
    refine set.trans ⟨fun a => freed.apart (ended.apart (order.apart a)),
      fun o => freed.ordered (ended.ordered (order.ordered o)), fun loose c => ?_⟩
    have before := ended.counted _ (t.unwatch_keeps c watched)
    refine ⟨?_, ?_⟩
    · rw [freed.stakes]
      exact before.tuned.freeIfUnheld
    · rw [freed.stakes, freed.waiting]
      exact before.listed

theorem State.setWatch_keeps (w : Option Nat) : KeepsTuners s (s.setWatch w) := by
  unfold State.setWatch
  split
  · exact .refl s
  · split
    · exact s.endWatch_keeps.trans (State.arbitrate_keeps _)
    · exact (s.endWatch_keeps.trans (.of (State.takeWatch_retains _ _))).trans (State.arbitrate_keeps _)

/-! ## QUIET (R31, R64, R166) -/

theorem State.forceRemovals_keeps : KeepsTuners s s.forceRemovals := by
  unfold State.forceRemovals
  extract_lets gone t u
  have removed : KeepsTuners s t := .folded _ (fun v k => v.removeRoute_keeps k true) _ s
  have told : KeepsTuners s u := by
    unfold u
    split
    · exact removed.trans (.rest (by simp [State.referenceChange]) (by simp [State.referenceChange])
        (by simp [State.referenceChange]))
    · exact removed
  exact told.trans (.alike (State.rerunAll_alike _ _))

end

variable {s : State}

/-- Both tuners free, nothing in use and no claim waiting, over a table without tuners' routes: the counts are right. -/
theorem State.counted_of_free {loose : TunerId → Prop} (tuners : ∀ y, s.tuner y = .free) (inUse : s.stations.inUse = [])
    (waiting : s.tuners.waiting = []) (slots : (s.stakes.map (fun k => k.handle.slot)).Nodup)
    (sources : ∀ k ∈ s.stakes, k.Sourced) (unseated : ∀ k ∈ s.stakes, k.tuner = none)
    (uncoded : ∀ k ∈ s.stakes, ∀ c, k.source ≠ .tunerCode c) : s.Counted loose where
  tuned :=
    { apart := by
        rw [State.apart_iff s .t1, tuners]
        simp [Tuner.holds, Tuner.free]
      users := fun x => by
        rw [tuners]
        symm
        exact List.countP_eq_zero.2 (fun k m => by simp [unseated k m])
      held := fun x p => by
        rw [tuners] at p
        cases p
      placed := fun x p => by
        rw [tuners] at p
        cases p
      bare := fun x _ => by
        rw [tuners]
        exact ⟨rfl, rfl, rfl, rfl, rfl, rfl⟩
      inUse := fun f => by
        rw [inUse]
        simp [tuners, Tuner.holds, Tuner.free] }
  listed :=
    { slots := slots
      sources := sources
      once := by
        rw [waiting]
        exact List.nodup_nil
      waits := by
        rw [waiting]
        exact fun _ m => nomatch m
      enlisted := fun k m _ c e => absurd e (uncoded k m c) }

/-- A line's route plays no tuner. -/
theorem Stake.Sourced.of_line {k : Stake} (h : k.Sourced) (line : k.owner = 7) :
    k.tuner = none ∧ ∀ c, k.source ≠ .tunerCode c := by
  unfold Stake.Sourced at h
  cases e : k.source with
  | tunerFrequency f =>
    rw [e] at h
    exact absurd line h.2
  | tunerCode c =>
    rw [e] at h
    exact absurd line h
  | stream _ =>
    rw [e] at h
    exact ⟨h, fun _ e => nomatch e⟩
  | tone _ =>
    rw [e] at h
    exact ⟨h, fun _ e => nomatch e⟩
  | leg _ _ =>
    rw [e] at h
    exact ⟨h, fun _ e => nomatch e⟩

theorem State.quietTuners_spec (s : State) : (∀ y, s.quietTuners.tuner y = .free) ∧
    s.quietTuners.stations.inUse = [] ∧ s.quietTuners.tuners.waiting = [] ∧
    s.quietTuners.stations.records = s.stations.records := by
  refine ⟨fun y => by cases y <;> rfl, rfl, rfl, ?_⟩
  exact (State.cancelScan_yields (s := s.cancelScan .t1) .t2).records.trans (State.cancelScan_yields (s := s) .t1).records

/-- In QUIET the tuners are free, and only lines' routes are left (R31, R64). -/
theorem State.quietTuners_keeps (lines : ∀ n ∈ s.routes, n.owner = 7) : KeepsTuners s s.quietTuners := by
  obtain ⟨tuners, inUse, waiting, records⟩ := s.quietTuners_spec
  have stakes : s.quietTuners.stakes = s.stakes := State.stakes_of_routes s.quietTuners_routes
  refine ⟨fun _ => ?_, fun o => o.of_records records, fun loose c => ?_⟩
  · rw [State.apart_iff _ .t1, tuners]
    simp [Tuner.holds, Tuner.free]
  · have silent : ∀ k ∈ s.stakes, k.tuner = none ∧ ∀ c, k.source ≠ .tunerCode c := fun k m => by
      refine (c.listed.sources k m).of_line ?_
      obtain ⟨r, mr, rfl⟩ := List.mem_map.1 m
      exact lines r mr
    refine State.counted_of_free tuners inUse waiting ?_ ?_ ?_ ?_
    · rw [stakes]
      exact c.listed.slots
    · rw [stakes]
      exact c.listed.sources
    · rw [stakes]
      exact fun k m => (silent k m).1
    · rw [stakes]
      exact fun k m => (silent k m).2

theorem State.quietStations_keeps (s : State) : KeepsTuners s s.quietStations :=
  .alike (.stations rfl rfl (fun o => o.of_records rfl) rfl)

theorem State.enterQuiet_keeps (s : State) : KeepsTuners s s.enterQuiet := by
  let t : State := { s with sup := { s.sup with state := .quiet, left := none } }
  let u := t.forceRemovals.quietTuners.quietStations
  let v : State := { u with lines := u.lines.map Line.quieted }
  have quiet : KeepsTuners s t := s.sup_keeps _
  have bare : KeepsTuners t u := (t.forceRemovals_keeps.trans (State.quietTuners_keeps t.forceRemovals_owners)).trans
    (State.quietStations_keeps _)
  have lined : KeepsTuners u v := u.lines_keeps _
  exact ((quiet.trans bare).trans lined).trans (v.setPhone_keeps u.phone.toDown)

theorem State.leaveQuiet_keeps (s : State) : KeepsTuners s s.leaveQuiet := by
  let t : State := { s with sup := { s.sup with state := .run } }
  have run : KeepsTuners s t := s.sup_keeps _
  have port : KeepsTuners t (if s.phone.clock then t.setPhone s.phone.toNegotiating else t) := by
    split
    · exact t.setPhone_keeps _
    · exact .refl t
  exact (run.trans port).trans (State.arbitrate_keeps _)

/-! ## Start-up (R64, R89, R174) -/

theorem State.abortWrite_keeps (s : State) : KeepsTuners s s.abortWrite := by
  unfold State.abortWrite
  split
  · exact .refl s
  · exact .rest rfl rfl rfl

theorem State.startingValues_keeps (s : State) (k : ResetKind) (plan : BandPlan) :
    KeepsTuners s (s.startingValues k plan) where
  apart := fun _ => by
    rintro f ⟨a, -⟩
    exact absurd a (by simp [State.startingValues, Tuner.holds, Tuner.free])
  ordered := fun _ => ⟨List.Pairwise.nil, Nat.zero_le _⟩
  counted := fun _ _ => State.counted_of_free (fun y => by cases y <;> rfl) rfl rfl List.nodup_nil (fun _ m => nomatch m)
    (fun _ m => nomatch m) (fun _ m => nomatch m)

theorem State.assertSampled_keeps (s : State) (i : Fin 4) : KeepsTuners s (s.assertSampled i) := by
  unfold State.assertSampled
  split
  · exact s.assertLine_keeps i
  · exact .refl s

theorem State.startUp_keeps (s : State) (k : ResetKind) (plan : BandPlan) : KeepsTuners s (s.startUp k plan) := by
  unfold State.startUp
  exact (s.abortWrite_keeps.trans (State.startingValues_keeps _ _ _)).trans
    (((((KeepsTuners.alike (State.raiseIf_alike _ _ _)).trans (State.assertSampled_keeps _ _)).trans
      (State.assertSampled_keeps _ _)).trans (State.assertSampled_keeps _ _)).trans (State.assertSampled_keeps _ _))

theorem State.readOut_keeps (s : State) (n : Nat) : KeepsTuners s (s.readOut n) := .rest (by simp) (by simp) (by simp)

theorem State.readTransfer_keeps (s : State) (n : Nat) : KeepsTuners s (s.readTransfer n) := by
  unfold State.readTransfer
  split
  · exact .refl s
  · split
    · exact .rest rfl rfl rfl
    · split
      · exact (s.readOut_keeps n).trans (State.startUp_keeps _ _ _)
      · exact s.readOut_keeps n

theorem State.resetRelease_keeps (s : State) (plan : BandPlan) : KeepsTuners s (s.resetRelease plan) := by
  have released : KeepsTuners s { s with pins.resetN := true } := .rest rfl rfl rfl
  unfold State.resetRelease
  split
  · exact .refl s
  · dsimp only
    split
    · exact released.trans (State.startUp_keeps _ _ _)
    · exact released

theorem State.supplyApplied_keeps (s : State) (plan : BandPlan) : KeepsTuners s (s.supplyApplied plan) := by
  have supplied : KeepsTuners s { s with pins.supply := true } := .rest rfl rfl rfl
  unfold State.supplyApplied
  split
  · exact .refl s
  · dsimp only
    split
    · exact supplied.trans (State.startUp_keeps _ _ _)
    · exact supplied

theorem State.hold_keeps (s : State) : KeepsTuners s s.hold := s.abortWrite_keeps.trans (.rest rfl rfl rfl)

theorem State.resetAssert_keeps (s : State) (c : ResetCause) : KeepsTuners s (s.resetAssert c) := by
  cases c
  · exact KeepsTuners.trans (t := { s with pins.resetN := false }) (.rest rfl rfl rfl) (State.hold_keeps _)
  · exact KeepsTuners.trans (t := { s with pins.supply := false }) (.rest rfl rfl rfl) (State.hold_keeps _)

theorem State.startUpEnd_keeps (s : State) : KeepsTuners s s.startUpEnd := by
  unfold State.startUpEnd
  split
  · exact .rest rfl rfl rfl
  · exact .refl s

end Sys2Proof.Machine
end

-- ==== support and settled obligations, part 54 ====
section
/-! SUPPORT. Every command keeps the tuners apart and counted and the Station Table in order, and the two invariants. -/

namespace Sys2Proof.Machine

/-! ## Requests -/

/-- The port lets a client through that is none of the part's own owners (R168, R172). -/
theorem State.gate_client {s : State} {k : Request} {client : Byte} {p : List Byte} (h : s.gate k client p = none) :
    client.toNat ≤ 5 := by
  unfold State.gate at h
  by_contra big
  rw [if_pos (by omega)] at h
  cases h

/-- The stake of a route about to open. -/
def newStake (src : Source) (h : Handle) (x : Option TunerId) (owner : Nat) : Stake :=
  { handle := h, owner := owner, source := src, tuner := x }

/-- Work that readies tuners and waiting list for a route about to open in a free slot (R19, R65, R66). -/
structure State.Serves (s t : State) (src : Source) (h : Handle) (x : Option TunerId) : Prop where
  apart : s.TunersApart → t.TunersApart
  ordered : s.stations.Ordered → t.stations.Ordered
  stakes : t.stakes = s.stakes
  counted : ∀ loose owner, s.Counted loose → owner ≠ 7 → (∀ k ∈ s.stakes, k.handle.slot ≠ h.slot) →
    t.Tuned loose (seats (newStake src h x owner :: s.stakes)) ∧
      Listed (newStake src h x owner :: s.stakes) t.tuners.waiting

section
variable {s t : State} {src : Source} {h : Handle} {x : Option TunerId} {c : Condition}

theorem State.Grants.serves {y : TunerId} (g : s.Grants t y)
    (sourced : ∀ owner, owner ≠ 7 → (newStake src h (some y) owner).Sourced) : s.Serves t src h (some y) where
  apart := g.keeps.apart
  ordered := g.keeps.ordered
  stakes := g.keeps.stakes
  counted := fun loose owner k own free => by
    rw [seats_cons_some (show (newStake src h (some y) owner).tuner = some y from rfl), g.keeps.waiting]
    exact ⟨g.tuned _ _ k.tuned, k.listed.cons free (sourced owner own) (fun _ _ e => nomatch e)⟩

theorem State.serves_plain (sourced : ∀ owner, (newStake src h none owner).Sourced) (plain : ∀ c, src ≠ .tunerCode c) :
    s.Serves s src h none where
  apart := id
  ordered := id
  stakes := rfl
  counted := fun loose owner k _ free => by
    rw [seats_cons_none rfl]
    exact ⟨k.tuned, k.listed.cons free (sourced owner) (fun c e => absurd e (plain c))⟩

theorem State.serves_waiting (s : State) (h : Handle) (c : Nat) :
    s.Serves { s with tuners.waiting := s.tuners.waiting ++ [{ handle := h, code := c }] } (.tunerCode c) h none where
  apart := id
  ordered := id
  stakes := rfl
  counted := fun loose owner k own free => by
    rw [seats_cons_none rfl]
    exact ⟨k.tuned.alike (fun y => by cases y <;> exact .refl _) rfl,
      k.listed.cons_waiting (k := newStake (.tunerCode c) h none owner) free own rfl rfl⟩

theorem State.serve_serves (e : s.serve src h = some (t, x, c)) : s.Serves t src h x := by
  unfold State.serve at e
  split at e
  · split at e
    · rename_i claimed
      cases e
      exact (State.claim_grants claimed).serves (fun owner own => ⟨rfl, own⟩)
    · cases e
  · split at e
    · cases e
      exact s.serves_waiting h _
    · split at e
      · rename_i claimed
        cases e
        exact (State.claimCode_grants claimed).serves (fun owner own => own)
      · cases e
  · rename_i notFrequency notCode
    cases e
    refine State.serves_plain (fun owner => ?_) notCode
    unfold Stake.Sourced newStake
    cases src with
    | tunerFrequency f => exact absurd rfl (notFrequency f)
    | tunerCode c => exact absurd rfl (notCode c)
    | stream _ => rfl
    | tone _ => rfl
    | leg _ _ => rfl

end

theorem routeOpen_keeps {client : Byte} (own : client.toNat ≤ 5) (p : List Byte) (s : State) :
    KeepsTuners s (routeOpen client p s).state := by
  unfold routeOpen
  split
  · exact .refl s
  · rename_i o _
    split
    · exact .refl s
    · split
      · exact .refl s
      · rename_i k free
        split
        · exact .refl s
        · rename_i t x c served
          have serves := State.serve_serves served
          have reuse : t.reuse = s.reuse := (s.serve_frame _ _ served).reuse
          extract_lets r
          have stake : r.stake = newStake o.source { slot := k, reuse := tabGet s.reuse (k - 1) 0 } x client.toNat := by
            rw [← reuse]
            rfl
          obtain ⟨apart, ordered, counted⟩ := t.openRoute_kept r
          refine KeepsTuners.trans ⟨fun a => apart (serves.apart a), fun b => ordered (serves.ordered b),
            fun loose n => ?_⟩ (State.arbitrate_keeps _)
          obtain ⟨tuned, listed⟩ := serves.counted loose client.toNat n (by omega) (State.free_stakes free)
          rw [← stake, ← serves.stakes] at tuned listed
          exact counted loose tuned listed

theorem routeLevel_keeps (client : Byte) (p : List Byte) (s : State) : KeepsTuners s (routeLevel client p s).state := by
  unfold routeLevel
  split
  · exact .refl s
  · split
    · exact .refl s
    · rename_i r _
      split
      · exact .refl s
      · refine .alike (.rest (by rw [Answer.ok_state, s.putRoutes_rest]) (by rw [Answer.ok_state, s.putRoutes_rest]) ?_)
        rw [Answer.ok_state]
        unfold State.stakes onSlot
        rw [s.putRoutes_routes, List.map_map]
        refine List.map_congr_left (fun x _ => ?_)
        dsimp only [Function.comp]
        split
        · unfold State.relevel
          dsimp only
          split
          · rw [(Route.aim_keeps _ _ _).stake]
            rfl
          · rfl
        · rfl

theorem routeRetire_keeps (client : Byte) (p : List Byte) (s : State) : KeepsTuners s (routeRetire client p s).state := by
  unfold routeRetire
  split
  · exact .refl s
  · split
    · exact .refl s
    · exact (s.retireSlots_keeps _ _ _).trans (State.arbitrate_keeps _)

theorem retireOwner_keeps (client : Byte) (p : List Byte) (s : State) : KeepsTuners s (retireOwner client p s).state := by
  unfold retireOwner
  split
  · exact .refl s
  · split
    · exact .refl s
    · exact (s.retireSlots_keeps _ _ _).trans (State.arbitrate_keeps _)

theorem zoneVolume_keeps (p : List Byte) (s : State) : KeepsTuners s (zoneVolume p s).state := by
  unfold zoneVolume
  split
  · exact .refl s
  · split
    · exact .alike (s.setVolumeAndFollow_alike _ _)
    · exact .alike (s.setVolumeAndFollow_alike _ _)
    · exact .refl s

theorem zoneBalance_keeps (p : List Byte) (s : State) : KeepsTuners s (zoneBalance p s).state := by
  unfold zoneBalance
  split
  · exact .refl s
  · dsimp only
    split
    · exact .rest rfl rfl rfl
    · exact .rest rfl rfl rfl
    · exact .refl s

theorem duckPass_keeps (s : State) (d : Domain) (rs : List Route) : List.Forall₂ Route.Keeps rs (s.duckPass d rs) :=
  forall₂_map_of _ _ (fun r _ => by
    split
    · exact s.withDuck_keeps _ r
    · exact .refl r)

theorem duckDepths_keeps (client : Byte) (p : List Byte) (s : State) : KeepsTuners s (duckDepths client p s).state := by
  have set : ∀ m, KeepsTuners s { s with mixer := m } := fun _ => .rest rfl rfl rfl
  have trans : ∀ a b c : Route, a.Keeps b → b.Keeps c → a.Keeps c := fun _ _ _ => .trans
  unfold duckDepths
  split
  · exact .refl s
  · split
    · exact .refl s
    · dsimp only
      exact (set _).trans (.alike (State.putRoutes_alike _ (forall₂_trans trans (forall₂_trans trans (duckPass_keeps _ _ _)
        (duckPass_keeps _ _ _)) (duckPass_keeps _ _ _))))

theorem temperature_keeps (p : List Byte) (s : State) : KeepsTuners s (temperature p s).state := by
  unfold temperature
  split
  · exact .refl s
  · exact .rest rfl rfl rfl

theorem derateSet_keeps (client : Byte) (p : List Byte) (s : State) : KeepsTuners s (derateSet client p s).state := by
  unfold derateSet
  split
  · exact .refl s
  · split
    · exact .refl s
    · exact .rest rfl rfl rfl

theorem alertLimits_keeps (client : Byte) (p : List Byte) (s : State) : KeepsTuners s (alertLimits client p s).state := by
  have set : ∀ m a, KeepsTuners s { s with mixer := m, alertMax := a } := fun _ _ => .rest rfl rfl rfl
  unfold alertLimits
  split
  · exact .refl s
  · split
    · exact .refl s
    · exact (set _ _).trans (.alike (State.retargetWhere_alike _ _ _))

theorem hpCap_keeps (client : Byte) (p : List Byte) (s : State) : KeepsTuners s (hpCap client p s).state := by
  unfold hpCap
  split
  · exact .refl s
  · split
    · exact .refl s
    · exact .alike (s.setCap_alike _ _)

theorem hpFollow_keeps (p : List Byte) (s : State) : KeepsTuners s (hpFollow p s).state := by
  unfold hpFollow
  split
  · exact .refl s
  · exact .rest rfl rfl rfl

theorem tunerPolicy_keeps (client : Byte) (p : List Byte) (s : State) : KeepsTuners s (tunerPolicy client p s).state := by
  unfold tunerPolicy
  split
  · exact .refl s
  · split
    · exact .refl s
    · split
      · exact .refl s
      · exact (KeepsTuners.alike (s.setPolicy_alike _)).trans (State.arbitrate_keeps _)

theorem trafficWatch_keeps (client : Byte) (p : List Byte) (s : State) : KeepsTuners s (trafficWatch client p s).state := by
  unfold trafficWatch
  split
  · exact .refl s
  · split
    · exact .refl s
    · exact s.setWatch_keeps _

/-- Settings of stations and tuners changed, the records and the in-use set as they were. -/
theorem KeepsTuners.setting {s t : State} (a : ∀ y, t.tuner y = s.tuner y) (b : t.stations.inUse = s.stations.inUse)
    (c : t.stations.records = s.stations.records) (d : t.routes = s.routes) (e : t.tuners.waiting = s.tuners.waiting) :
    KeepsTuners s t :=
  .alike ⟨fun y => by rw [a]; exact .refl _, b, fun o => o.of_records c, State.stakes_of_routes d, e⟩

theorem qualityLimits_keeps (client : Byte) (p : List Byte) (s : State) :
    KeepsTuners s (qualityLimits client p s).state := by
  unfold qualityLimits
  split
  · exact .refl s
  · split
    · exact .refl s
    · exact .setting (fun y => by cases y <;> rfl) rfl rfl rfl rfl

theorem stationPin_keeps (p : List Byte) (s : State) : KeepsTuners s (stationPin p s).state := by
  unfold stationPin
  split
  · exact .refl s
  · split
    · exact .refl s
    · rename_i r _
      exact .alike (s.update_alike (u16At p 0) (fun r => { r with pinned := u8At p 2 = 1 }) (fun _ => rfl))

theorem State.removeStation_alike (s : State) (f : Nat) : s.Alike (s.removeStation f) :=
  .stations rfl rfl (fun o => o.filtered _ rfl) rfl

theorem stationForget_keeps (p : List Byte) (s : State) : KeepsTuners s (stationForget p s).state := by
  unfold stationForget
  split
  · exact .refl s
  · split
    · exact .refl s
    · split
      · exact .refl s
      · exact .alike (s.removeStation_alike _)

theorem stationAdd_keeps (p : List Byte) (s : State) : KeepsTuners s (stationAdd p s).state := by
  unfold stationAdd
  split
  · exact .refl s
  · extract_lets f c pin
    split
    · refine KeepsTuners.trans ?_ (State.arbitrate_keeps _)
      unfold State.addToExisting
      split
      · exact (KeepsTuners.alike (s.update_alike f (fun r => { r with pinned := true }) (fun _ => rfl))).trans
          (State.giveCode_keeps _ _ _)
      · exact s.giveCode_keeps _ _
    · rename_i absent
      split
      · exact .refl s
      · rename_i rs inserted
        refine KeepsTuners.trans (.alike ?_) ((State.giveCode_keeps _ _ _).trans (State.arbitrate_keeps _))
        exact .stations rfl rfl (fun o => o.inserted (r := { Station.new f with pinned := pin })
          (b := { s.stations with records := rs }) absent inserted) rfl

theorem stationAging_keeps (client : Byte) (p : List Byte) (s : State) : KeepsTuners s (stationAging client p s).state := by
  unfold stationAging
  split
  · exact .refl s
  · split
    · exact .refl s
    · exact .setting (fun _ => rfl) rfl rfl rfl rfl

theorem announceFollow_keeps (client : Byte) (p : List Byte) (s : State) :
    KeepsTuners s (announceFollow client p s).state := by
  unfold announceFollow
  split
  · exact .refl s
  · split
    · exact .refl s
    · exact .setting (fun _ => rfl) rfl rfl rfl rfl

theorem rearLock_keeps (client : Byte) (p : List Byte) (s : State) : KeepsTuners s (rearLock client p s).state := by
  unfold rearLock
  split
  · exact .refl s
  · split
    · exact .refl s
    · exact .rest rfl rfl rfl

theorem phoneAdvertise_keeps (client : Byte) (p : List Byte) (s : State) :
    KeepsTuners s (phoneAdvertise client p s).state := by
  unfold phoneAdvertise
  split
  · exact .refl s
  · split
    · exact .refl s
    · exact .rest rfl rfl rfl

theorem phoneRestart_keeps (client : Byte) (p : List Byte) (s : State) : KeepsTuners s (phoneRestart client p s).state := by
  unfold phoneRestart
  split
  · exact .refl s
  · split
    · exact .refl s
    · exact s.setPhone_keeps _

theorem legOpen_keeps (client : Byte) (p : List Byte) (s : State) : KeepsTuners s (legOpen client p s).state := by
  unfold legOpen
  split
  · exact .refl s
  · split
    · exact .refl s
    · dsimp only
      refine KeepsTuners.trans (.alike ?_) (State.arbitrate_keeps _)
      split
      · exact (s.holdActive_alike.trans (State.calls_alike _ _)).trans (State.calls_alike _ _)
      · exact s.calls_alike _

theorem legState_keeps (client : Byte) (p : List Byte) (s : State) : KeepsTuners s (legState client p s).state := by
  unfold legState
  split
  · exact .refl s
  · split
    · exact .refl s
    · dsimp only
      split
      · split
        · exact .refl s
        · exact (KeepsTuners.alike (s.holdLeg_alike _)).trans (State.arbitrate_keeps _)
      · split
        · exact .refl s
        · exact (KeepsTuners.alike (s.activateLeg_alike _)).trans (State.arbitrate_keeps _)

theorem legSeats_keeps (client : Byte) (p : List Byte) (s : State) : KeepsTuners s (legSeats client p s).state := by
  unfold legSeats
  split
  · exact .refl s
  · split
    · exact .refl s
    · exact .alike (s.setSeats_alike _ _)

theorem legUplink_keeps (client : Byte) (p : List Byte) (s : State) : KeepsTuners s (legUplink client p s).state := by
  unfold legUplink
  split
  · exact .refl s
  · split
    · exact .refl s
    · exact .rest rfl rfl rfl

theorem legClose_keeps (client : Byte) (p : List Byte) (s : State) : KeepsTuners s (legClose client p s).state := by
  unfold legClose
  split
  · exact .refl s
  · split
    · exact .refl s
    · exact (s.closeLeg_keeps _).trans (State.arbitrate_keeps _)

theorem echoTarget_keeps (client : Byte) (p : List Byte) (s : State) : KeepsTuners s (echoTarget client p s).state := by
  unfold echoTarget
  split
  · exact .refl s
  · split
    · exact .refl s
    · exact .rest rfl rfl rfl

theorem setWatchdog_keeps (client : Byte) (p : List Byte) (s : State) : KeepsTuners s (setWatchdog client p s).state := by
  unfold setWatchdog
  split
  · exact .refl s
  · split
    · exact .refl s
    · exact s.sup_keeps _

theorem resumeRun_keeps (client : Byte) (p : List Byte) (s : State) : KeepsTuners s (resumeRun client p s).state := by
  unfold resumeRun
  split
  · exact .refl s
  · split
    · exact .refl s
    · rw [Answer.ok_state]
      split
      · exact s.leaveLimp_keeps
      · exact .refl s

theorem quietEnter_keeps (client : Byte) (p : List Byte) (s : State) : KeepsTuners s (quietEnter client p s).state := by
  unfold quietEnter
  split
  · exact .refl s
  · split
    · exact .refl s
    · split
      · exact .refl s
      · split
        · exact .refl s
        · rw [Answer.ok_state]
          exact s.enterQuiet_keeps

theorem quietExit_keeps (client : Byte) (p : List Byte) (s : State) : KeepsTuners s (quietExit client p s).state := by
  unfold quietExit
  split
  · exact .refl s
  · split
    · exact .refl s
    · rw [Answer.ok_state]
      split
      · exact s.leaveQuiet_keeps
      · exact .refl s

theorem eventFetch_keeps (p : List Byte) (s : State) : KeepsTuners s (eventFetch p s).state := by
  unfold eventFetch
  split
  · exact .refl s
  · exact .rest rfl rfl rfl

theorem eventRouting_keeps (client : Byte) (p : List Byte) (s : State) : KeepsTuners s (eventRouting client p s).state := by
  unfold eventRouting
  split
  · exact .refl s
  · split
    · exact .refl s
    · exact .rest rfl rfl rfl

theorem storeWrite_keeps (client : Byte) (p : List Byte) (s : State) : KeepsTuners s (storeWrite client p s).state := by
  unfold storeWrite
  split
  · exact .refl s
  · split
    · exact .refl s
    · split
      · exact .refl s
      · split
        · exact .refl s
        · exact .rest rfl rfl rfl

theorem partReset_keeps (client : Byte) (p : List Byte) (s : State) : KeepsTuners s (partReset client p s).state := by
  unfold partReset
  split
  · exact .refl s
  · split
    · exact .refl s
    · exact .rest rfl rfl rfl

end Sys2Proof.Machine
end

-- ==== support and settled obligations, part 55 ====
section
/-! SUPPORT. The searches' ends, the other events and every step: tuners apart and counted, stations in order. -/

namespace Sys2Proof.Machine

/-! ## The ends of checks and jumps (R81, R82) -/

theorem State.refreshStation_tuners (s : State) (f : Nat) (m : Measurement) : (s.refreshStation f m).tuners = s.tuners :=
  (State.ensureStation_beside f).2.2

theorem State.refreshStation_tuner (s : State) (f : Nat) (m : Measurement) (y : TunerId) :
    (s.refreshStation f m).tuner y = s.tuner y := by
  unfold State.tuner
  rw [s.refreshStation_tuners]

/-- A tuner with a search is not bare, so the search may change and end. -/
theorem Tuner.Alike.searching {t u : Tuner} (h : t.search ≠ none) (a : u.role = t.role) (b : u.frequency = t.frequency)
    (c : u.users = t.users) (d : u.watch = t.watch) : t.Alike u := .busy (fun k => absurd k.search h) a b c d

theorem State.afCheckEnd_keeps (s : State) (x : TunerId) (code : Option (BitVec 16)) :
    KeepsTuners s (s.afCheckEnd x code) := by
  unfold State.afCheckEnd
  extract_lets o k src s1
  split
  · rename_i c m rest found _ _ searching
    extract_lets fs
    have checked : s.Alike s1 := s.setTuner_alike (.rest rfl rfl rfl rfl rfl rfl rfl)
    have same : s1.tuner o = s.tuner o := s.tuner_setTuner_other x _
    have searched : ∀ r, KeepsTuners s ((s1.setTuner o { s1.tuner o with search := r }).handOver c m k) := fun r =>
      KeepsTuners.trans (.alike (checked.trans (State.setTuner_alike (t := { s1.tuner o with search := r }) _
        (.searching (by rw [same, searching]; exact nofun) rfl rfl rfl rfl)))) (State.handOver_keeps _ c m k)
    cases rest with
    | nil =>
      refine (searched none).trans (KeepsTuners.trans ?_ (State.arbitrate_keeps _))
      split
      · rename_i still
        exact .alike (State.concludeSearch_alike _ (fun b => by rw [b.af] at still; cases still) _ false)
      · exact .refl _
    | cons next rest => exact (searched _).trans (State.arbitrate_keeps _)
  · exact .refl s

theorem State.selfAfJumpEnd_keeps (s : State) (x : TunerId) (field multipath : Nat) :
    KeepsTuners s (s.selfAfJumpEnd x field multipath) := by
  unfold State.selfAfJumpEnd
  extract_lets t m back
  split
  · split
    · rename_i c _ _ _ rest found searching
      let found' := foundWith found c m (s.qualifies x m)
      let u := ((s.setTuner x { back with search := some ⟨false, rest, found'⟩ }).handOver c m none).notifyTuner x .available
      have back' : s.Alike (s.setTuner x { back with search := some ⟨false, rest, found'⟩ }) :=
        s.setTuner_alike (.searching (by rw [show (s.tuner x).search = _ from searching]; exact nofun) rfl rfl rfl rfl)
      have heard : s.Alike u := (back'.trans (State.refreshStation_alike _ c m)).trans (State.notifyTuner_alike _ x .available)
      have still : (u.tuner x).search = some ⟨false, rest, found'⟩ := by
        unfold u State.handOver
        rw [State.notifyTuner_tuner, State.refreshStation_tuner, State.tuner_setTuner_same]
      refine KeepsTuners.trans ?_ (State.arbitrate_keeps _)
      cases rest with
      | nil => exact .alike (heard.trans (State.concludeSearch_alike _ (fun b => absurd (still.symm.trans b.search) nofun) _ true))
      | cons c rest => exact .alike heard
    · have back' : s.Alike (s.setTuner x back) := s.setTuner_alike (.ended rfl rfl rfl rfl id id (fun _ => rfl))
      exact KeepsTuners.trans (.alike ((back'.trans (State.refreshStation_alike _ _ _)).trans (State.notifyTuner_alike _ _ _)))
        (State.arbitrate_keeps _)
  · exact .refl s

/-! ## Pins and time -/

theorem State.thermalReading_keeps (s : State) (sensor : Int) : KeepsTuners s (s.thermalReading sensor) := by
  have one : s.Alike { s with thermal := s.thermal.taken sensor } := .rest rfl rfl rfl
  unfold State.thermalReading
  dsimp only
  split
  · exact .alike (one.trans (State.raiseIf_alike _ _ _))
  · exact .alike (one.trans ((State.retargetWhere_alike _ _ _).trans (State.raiseIf_alike _ _ _)))

theorem State.hpDetChange_keeps (s : State) (o : HpOut) (level : Bool) : KeepsTuners s (s.hpDetChange o level) := by
  have pins : KeepsTuners s (s.setHpDet o level) := by cases o <;> exact .rest rfl rfl rfl
  unfold State.hpDetChange
  split
  · exact .refl s
  · dsimp only
    split
    · exact pins
    · exact pins.trans (.alike (State.setJack_alike _ _ _))

theorem State.hpDebounceExpiry_keeps (s : State) (o : HpOut) : KeepsTuners s (s.hpDebounceExpiry o) := by
  unfold State.hpDebounceExpiry
  split
  · exact s.jackChange_keeps o
  · exact .refl s

theorem State.alertInChange_keeps (s : State) (i : Fin 4) (level : Bool) : KeepsTuners s (s.alertInChange i level) := by
  unfold State.alertInChange
  split
  · exact .refl s
  · dsimp only
    split
    · exact .rest rfl rfl rfl
    · exact .rest rfl rfl rfl

theorem State.tickRoute_stake (s : State) (r : Route) : (s.tickRoute r).stake = r.stake := rfl

theorem State.tick_keeps (s : State) : KeepsTuners s s.tick := by
  unfold State.tick
  split
  · exact .refl s
  · refine .alike ⟨fun y => by cases y <;> exact .refl _, rfl, id, ?_, rfl⟩
    unfold State.stakes
    rw [List.map_map]
    exact List.map_congr_left (fun r _ => s.tickRoute_stake r)

theorem State.micCheckEnd_keeps (s : State) (x : Seat) (power : Int) : KeepsTuners s (s.micCheckEnd x power) := by
  unfold State.micCheckEnd
  dsimp only
  split
  · split
    · exact .rest (by simp) (by simp) (by simp)
    · exact .rest (by simp) (by simp) (by simp)
  · exact .refl s

theorem State.echoWindowEnd_keeps (s : State) (x : Seat) (d : Int) (m r : Nat) :
    KeepsTuners s (s.echoWindowEnd x d m r) := by
  unfold State.echoWindowEnd
  dsimp only
  split
  · exact .rest (by simp) (by simp) (by simp)
  · exact .refl s

theorem State.storeWriteEnd_keeps (s : State) : KeepsTuners s s.storeWriteEnd := by
  unfold State.storeWriteEnd
  split
  · exact .refl s
  · exact .rest (by simp) (by simp) (by simp)

/-! ## Every command -/

theorem State.validRequest_keeps (s : State) : KeepsTuners s s.validRequest := .rest (by simp) (by simp) (by simp)

theorem State.answered_keeps (s : State) (a b : List Byte) : KeepsTuners s (s.answered a b) := .rest rfl rfl rfl

theorem State.ignoreTransfer_keeps (s : State) (n : Nat) : KeepsTuners s (s.ignoreTransfer n) := .rest rfl rfl rfl

/-- A request keeps tuners and stations where its owning block does; the block runs where the port lets it (R168 to R173). -/
theorem State.request_keepsTuners (s : State) (k : Request) (client : Byte) (p : List Byte) (body : State → Answer)
    (h : s.gate k client p = none → KeepsTuners s (body s).state) : KeepsTuners s (s.request k client p body) := by
  unfold State.request
  dsimp only
  split
  · exact s.ignoreTransfer_keeps _
  · split
    · exact s.answered_keeps _ _
    · split
      · exact s.validRequest_keeps.trans (State.answered_keeps _ _ _)
      · rename_i passed
        refine (h passed).trans (KeepsTuners.trans ?_ (State.answered_keeps _ _ _))
        unfold State.watchdogAfter
        split
        · exact .refl _
        · exact State.validRequest_keeps _

end Sys2Proof.Machine
end

-- ==== support and settled obligations, part 56 ====
section
/-! SUPPORT. What every command keeps of tuners and stations, and the two invariants. -/

namespace Sys2Proof.Machine

/-! ## Every command -/

section
variable {s t : State}

theorem tuners_of_next {u : State} (h : (.next u : Host.Outcome State Fault Refusal) = .next t) (k : KeepsTuners s u) :
    KeepsTuners s t := by
  cases h
  exact k

theorem tuners_of_choice {c : Prop} [Decidable c] {u v : State} (h : KeepsTuners s u) (k : KeepsTuners s v) :
    KeepsTuners s (if c then u else v) := by
  split
  · exact h
  · exact k

theorem tuners_of_event {u : State} (h : (.next (s.unlessHeld u) : Host.Outcome State Fault Refusal) = .next t)
    (k : KeepsTuners s u) : KeepsTuners s t :=
  tuners_of_next h (tuners_of_choice (.refl s) k)

/-- A request whose body keeps tuners and stations for the clients the port lets through (R168, R172). -/
theorem tuners_of_gated {k : Request} {client : Byte} {p : List Byte} {body : State → Answer}
    (h : (.next (s.request k client p body) : Host.Outcome State Fault Refusal) = .next t)
    (b : ∀ u, client.toNat ≤ 5 → KeepsTuners u (body u).state) : KeepsTuners s t :=
  tuners_of_next h (s.request_keepsTuners k client p body (fun passed => b s (State.gate_client passed)))

theorem tuners_of_request {k : Request} {client : Byte} {p : List Byte} {body : State → Answer}
    (h : (.next (s.request k client p body) : Host.Outcome State Fault Refusal) = .next t)
    (b : ∀ u, KeepsTuners u (body u).state) : KeepsTuners s t :=
  tuners_of_gated h (fun u _ => b u)

theorem tuners_of_query {k : Request} {client : Byte} {p : List Byte} {body : State → Answer}
    (h : (.next (s.request k client p body) : Host.Outcome State Fault Refusal) = .next t)
    (b : ∀ u, (body u).state = u) : KeepsTuners s t :=
  tuners_of_request h (fun u => by
    rw [b u]
    exact .refl u)

end

theorem unknownRequest_keepsTuners {s t : State} {code client : Byte} {p : List Byte}
    (h : exec (.unknownRequest code client p) s = .next t) : KeepsTuners s t := by
  change execUnknownRequest code client p s = .next t at h
  unfold execUnknownRequest at h
  split at h
  · cases h
  · refine tuners_of_next h ?_
    unfold State.unknownRequest
    dsimp only
    split
    · exact s.ignoreTransfer_keeps _
    · split
      · exact s.answered_keeps _ _
      · exact s.validRequest_keeps.trans (State.answered_keeps _ _ _)

theorem badFrame_keepsTuners {s t : State} {bytes : List Byte} (h : exec (.badFrame bytes) s = .next t) :
    KeepsTuners s t := by
  change execBadFrame bytes s = .next t at h
  cases bytes with
  | nil => exact tuners_of_next h (.refl s)
  | cons b rest =>
    unfold execBadFrame at h
    dsimp only at h
    split at h
    · cases h
    · refine tuners_of_next h ?_
      unfold State.badFrame
      split
      · exact s.ignoreTransfer_keeps _
      · exact s.answered_keeps _ _

/-- Every command keeps tuners and stations. -/
theorem exec_keepsTuners (i : Instr) (s t : State) (h : exec i s = .next t) : KeepsTuners s t := by
  cases i with
  | routeOpen client payload => exact tuners_of_gated h (fun u own => routeOpen_keeps own payload u)
  | routeLevel client payload => exact tuners_of_request h (fun u => routeLevel_keeps client payload u)
  | routeRetire client payload => exact tuners_of_request h (fun u => routeRetire_keeps client payload u)
  | retireOwner client payload => exact tuners_of_request h (fun u => retireOwner_keeps client payload u)
  | routeGet client payload => exact tuners_of_query h (fun u => routeGet_state payload u)
  | routeList client payload => exact tuners_of_query h (fun u => routeList_state payload u)
  | zoneVolume client payload => exact tuners_of_request h (fun u => zoneVolume_keeps payload u)
  | zoneBalance client payload => exact tuners_of_request h (fun u => zoneBalance_keeps payload u)
  | zoneGet client payload => exact tuners_of_query h (fun u => zoneGet_state payload u)
  | duckDepths client payload => exact tuners_of_request h (fun u => duckDepths_keeps client payload u)
  | temperature client payload => exact tuners_of_request h (fun u => temperature_keeps payload u)
  | derateSet client payload => exact tuners_of_request h (fun u => derateSet_keeps client payload u)
  | tunerPolicy client payload => exact tuners_of_request h (fun u => tunerPolicy_keeps client payload u)
  | trafficWatch client payload => exact tuners_of_request h (fun u => trafficWatch_keeps client payload u)
  | qualityLimits client payload => exact tuners_of_request h (fun u => qualityLimits_keeps client payload u)
  | tunerGet client payload => exact tuners_of_query h (fun u => tunerGet_state payload u)
  | stationList client payload => exact tuners_of_query h (fun u => stationList_state payload u)
  | stationGet client payload => exact tuners_of_query h (fun u => stationGet_state payload u)
  | stationPin client payload => exact tuners_of_request h (fun u => stationPin_keeps payload u)
  | stationForget client payload => exact tuners_of_request h (fun u => stationForget_keeps payload u)
  | stationAdd client payload => exact tuners_of_request h (fun u => stationAdd_keeps payload u)
  | stationAging client payload => exact tuners_of_request h (fun u => stationAging_keeps client payload u)
  | announceFollow client payload => exact tuners_of_request h (fun u => announceFollow_keeps client payload u)
  | hpCap client payload => exact tuners_of_request h (fun u => hpCap_keeps client payload u)
  | hpFollow client payload => exact tuners_of_request h (fun u => hpFollow_keeps payload u)
  | rearLock client payload => exact tuners_of_request h (fun u => rearLock_keeps client payload u)
  | phoneAdvertise client payload => exact tuners_of_request h (fun u => phoneAdvertise_keeps client payload u)
  | phoneRestart client payload => exact tuners_of_request h (fun u => phoneRestart_keeps client payload u)
  | phoneGet client payload => exact tuners_of_query h (fun u => phoneGet_state payload u)
  | legOpen client payload => exact tuners_of_request h (fun u => legOpen_keeps client payload u)
  | legState client payload => exact tuners_of_request h (fun u => legState_keeps client payload u)
  | legSeats client payload => exact tuners_of_request h (fun u => legSeats_keeps client payload u)
  | legUplink client payload => exact tuners_of_request h (fun u => legUplink_keeps client payload u)
  | legClose client payload => exact tuners_of_request h (fun u => legClose_keeps client payload u)
  | legGet client payload => exact tuners_of_query h (fun u => legGet_state payload u)
  | echoTarget client payload => exact tuners_of_request h (fun u => echoTarget_keeps client payload u)
  | alertLimits client payload => exact tuners_of_request h (fun u => alertLimits_keeps client payload u)
  | directLineGet client payload => exact tuners_of_query h (fun u => directLineGet_state payload u)
  | watchdog client payload => exact tuners_of_request h (fun u => setWatchdog_keeps client payload u)
  | keepalive client payload => exact tuners_of_query h (fun u => keepalive_state payload u)
  | resume client payload => exact tuners_of_request h (fun u => resumeRun_keeps client payload u)
  | quietEnter client payload => exact tuners_of_request h (fun u => quietEnter_keeps client payload u)
  | quietExit client payload => exact tuners_of_request h (fun u => quietExit_keeps client payload u)
  | eventFetch client payload => exact tuners_of_request h (fun u => eventFetch_keeps payload u)
  | eventRouting client payload => exact tuners_of_request h (fun u => eventRouting_keeps client payload u)
  | storeRead client payload => exact tuners_of_query h (fun u => storeRead_state payload u)
  | storeWrite client payload => exact tuners_of_request h (fun u => storeWrite_keeps client payload u)
  | partInfo client payload => exact tuners_of_query h (fun u => partInfo_state payload u)
  | partReset client payload => exact tuners_of_request h (fun u => partReset_keeps client payload u)
  | rampStep slot => exact tuners_of_event h ((s.rampStepSlot_keeps slot).trans (State.arbitrate_keeps _))
  | weightRampStep => exact tuners_of_event h (.rest rfl rfl rfl)
  | thermalReading sensor => exact tuners_of_event h (s.thermalReading_keeps sensor)
  | alertCut slot => exact tuners_of_event h (s.alertCut_keeps slot)
  | tonePatternEnd slot => exact tuners_of_event h (s.tonePatternEnd_keeps slot)
  | hpDebounceExpiry out => exact tuners_of_event h (s.hpDebounceExpiry_keeps out)
  | lineDebounceExpiry line => exact tuners_of_event h (s.lineDebounceExpiry_keeps line)
  | acquisitionSettle tuner => exact tuners_of_event h (.of (s.acquisitionSettle_retains tuner))
  | programMeasurement tuner field multipath => exact tuners_of_event h (.of (s.programMeasurement_retains tuner _ _))
  | dataItemDecoded tuner item => exact tuners_of_event h (s.dataItem_keeps tuner item)
  | scanStepBegin tuner => exact tuners_of_event h (.alike (s.scanStepBegin_alike tuner))
  | scanMeasurement tuner field multipath => exact tuners_of_event h (.alike (s.scanMeasurement_alike tuner _ _))
  | scanStepComplete tuner => exact tuners_of_event h (s.scanStepComplete_keeps tuner)
  | scanIntervalExpiry => exact tuners_of_event h (.alike s.scanIntervalExpiry_alike)
  | afCheckMeasurement tuner field multipath => exact tuners_of_event h (.alike (s.afCheckMeasurement_alike tuner _ _))
  | afCheckEnd tuner code => exact tuners_of_event h (s.afCheckEnd_keeps tuner code)
  | retuneSettle tuner => exact tuners_of_event h (.of (s.retuneSettle_retains tuner))
  | selfAfJumpEnd tuner field multipath => exact tuners_of_event h (s.selfAfJumpEnd_keeps tuner _ _)
  | afConfirmTimeout tuner => exact tuners_of_event h (.of (s.afConfirmTimeout_retains tuner))
  | watchdogExpiry => exact tuners_of_event h (tuners_of_choice s.enterLimp_keeps (.refl s))
  | clockDetectPresent => exact tuners_of_event h (tuners_of_choice (.refl s) (s.setPhone_keeps _))
  | clockDetectAbsent => exact tuners_of_event h (tuners_of_choice (s.setPhone_keeps _) (.refl s))
  | rateSpanEnd rate => exact tuners_of_event h (s.setPhone_keeps _)
  | partnerWord word =>
    refine tuners_of_event h ?_
    split
    · exact s.setPhone_keeps _
    · exact .refl s
  | silenceTimerExpiry => exact tuners_of_event h (tuners_of_choice (s.setPhone_keeps _) (.refl s))
  | holdOffExpiry => exact tuners_of_event h (tuners_of_choice (s.setPhone_keeps _) (.refl s))
  | micCheckEnd seat power => exact tuners_of_event h (s.micCheckEnd_keeps seat power)
  | echoWindowEnd seat downlink micPower residualPower =>
    exact tuners_of_event h (s.echoWindowEnd_keeps seat downlink micPower residualPower)
  | storeWriteEnd => exact tuners_of_event h s.storeWriteEnd_keeps
  | readTransfer clocked => exact tuners_of_next h (s.readTransfer_keeps clocked)
  | partResetTimeout => exact tuners_of_next h (tuners_of_choice (s.startUp_keeps _ _) (.refl s))
  | resetNAssert cause => exact tuners_of_next h (s.resetAssert_keeps cause)
  | resetNRelease straps => exact tuners_of_next h (s.resetRelease_keeps straps)
  | startUpEnd => exact tuners_of_next h s.startUpEnd_keeps
  | supplyApplication straps => exact tuners_of_next h (s.supplyApplied_keeps straps)
  | hpDetChange out level => exact tuners_of_next h (s.hpDetChange_keeps out level)
  | alertInChange line level => exact tuners_of_next h (s.alertInChange_keeps line level)
  | unknownRequest code client payload => exact unknownRequest_keepsTuners h
  | badFrame bytes => exact badFrame_keepsTuners h

/-- Every step keeps them. -/
theorem step_keepsTuners {s t : State} (h : step s = .next t) : KeepsTuners s t := by
  unfold step at h
  split at h
  · exact tuners_of_next h s.tick_keeps
  · rename_i c rest _
    have popped : KeepsTuners s { s with pending := rest } := .rest rfl rfl rfl
    exact popped.trans (exec_keepsTuners c _ _ h)

/-! ## The invariants -/

/-- Settles O15, by what every command keeps. -/
theorem tunersStayApartAndStationsOrdered : Obligations.TunersStayApartAndStationsOrdered :=
  ⟨fun _ _ apart stepped => (step_keepsTuners stepped).apart apart,
    fun _ _ ordered stepped => (step_keepsTuners stepped).ordered ordered⟩

/-- Settles O16, by the counts over stakes and tuners that every command keeps. -/
theorem tunersStayCounted : Obligations.TunersStayCounted :=
  fun _ _ slots apart counted stepped => ((step_keepsTuners stepped).counted _ (counted.counted slots apart)).tunersCounted

end Sys2Proof.Machine
end

-- ==== support and settled obligations, part 57 ====
section
/-! SUPPORT. The statement on station settings, pins and removals. -/

namespace Sys2Proof.Machine

/-! ## Codes and bytes -/

theorem reportOf_none {n : Nat} (h : 8 ≤ n) : reportOf n = none := by
  obtain ⟨k, rfl⟩ := Nat.exists_eq_add_of_le' h
  rfl

theorem reportOf_some {n : Nat} (h : n ≤ 7) : ∃ k, reportOf n = some k := by
  have all : ∀ m < 8, (reportOf m).isSome = true := by decide
  exact Option.isSome_iff_exists.1 (all n (by omega))

theorem zoneSetOf_sum {n : Nat} (h : n ≤ 31) : (zoneSetOf n).sum = n := by
  have all : ∀ m < 32, (zoneSetOf m).sum = m := by decide
  exact all n (by omega)

/-- A flag read and written again. -/
theorem flag_of_bit {x : Byte} (b : x.toNat ≤ 1) : flag (decide (x.toNat = 1)) = [x] := by
  rcases Nat.le_one_iff_eq_zero_or_eq_one.1 b with e | e
  · rw [show x = 0 from BitVec.eq_of_toNat_eq e]
    rfl
  · rw [show x = 1 from BitVec.eq_of_toNat_eq e]
    rfl

/-- A frequency and a flag read and written again. -/
theorem u16_flag_u8At {p : List Byte} (l : p.length = 3) (b : u8At p 2 ≤ 1) :
    u16 (u16At p 0) ++ flag (decide (u8At p 2 = 1)) = p := by
  obtain ⟨x, y, z, rfl⟩ := List.length_eq_three.1 l
  have front : u16 (u16At [x, y, z] 0) = [x, y] := u16_u16At (p := [x, y]) rfl
  have last : flag (decide (u8At [x, y, z] 2 = 1)) = [z] := flag_of_bit b
  rw [front, last]
  rfl

theorem Stations.find_frequency {a : Stations} {f : Nat} {r : Station} (h : a.find f = some r) : r.frequency = f := by
  have here := List.find?_some h
  exact of_decide_eq_true here

theorem Stations.isInUse_iff (a : Stations) (f : Nat) : a.isInUse f = true ↔ f ∈ a.inUse := by
  simp [Stations.isInUse]

section
variable {s : State} {c : Byte} {p : List Byte}

/-! ## Settings (R86, R108, R109) -/

theorem exec_qualityLimits (acc : s.Accepts .qualityLimits c p) :
    (p.length = 3 → ∀ k, reportOf (u8At p 2) = some k → c = 0 →
      let low := min 120 (u8At p 0)
      let high := max low (min 120 (u8At p 1))
      exec (.qualityLimits c p) s =
        .next (s.served { s with stations.bLow := low, stations.bHigh := high, tuners.report := k }
          .qualityLimits c p (u8 low ++ u8 high ++ u8 k.code))) ∧
    (p.length ≠ 3 ∨ 8 ≤ u8At p 2 → exec (.qualityLimits c p) s = .next (s.declined .qualityLimits c p .badArgument)) ∧
    (p.length = 3 → u8At p 2 ≤ 7 → c ≠ 0 →
      exec (.qualityLimits c p) s = .next (s.declined .qualityLimits c p .notPermitted)) := by
  refine ⟨fun l k report client => congrArg _ (acc.ok ?_), fun bad => congrArg _ (acc.refused ?_),
    fun l small client => congrArg _ (acc.refused ?_)⟩
  · unfold qualityLimits
    rw [if_pos l, report, client]
    rfl
  · unfold qualityLimits
    split
    · rfl
    · rename_i k known
      split at known
      · rename_i l
        rw [reportOf_none (bad.resolve_left (fun n => n l))] at known
        cases known
      · cases known
  · obtain ⟨k, report⟩ := reportOf_some small
    unfold qualityLimits
    rw [if_pos l, report]
    exact if_pos client

theorem exec_stationAging (acc : s.Accepts .stationAging c p) :
    let good := p.length = 1 ∧ 1 ≤ u8At p 0 ∧ u8At p 0 ≤ 15
    (good → c = 0 → exec (.stationAging c p) s =
      .next (s.served { s with stations.retire := u8At p 0 } .stationAging c p (p ++ [s.stations.round]))) ∧
    (¬good → exec (.stationAging c p) s = .next (s.declined .stationAging c p .badArgument)) ∧
    (good → c ≠ 0 → exec (.stationAging c p) s = .next (s.declined .stationAging c p .notPermitted)) := by
  intro good
  have bad : (p.length ≠ 1 || u8At p 0 < 1 || 15 < u8At p 0) = true ↔ ¬good := by
    simp only [Bool.or_eq_true, decide_eq_true_eq]
    unfold good
    omega
  refine ⟨fun g client => congrArg _ (acc.ok ?_), fun n => congrArg _ (acc.refused (if_pos (bad.2 n))),
    fun g client => congrArg _ (acc.refused ?_)⟩
  · unfold stationAging
    rw [if_neg (fun b => bad.1 b g), if_neg (fun n => n client), u8_u8At g.1]
  · unfold stationAging
    rw [if_neg (fun b => bad.1 b g), if_pos client]

theorem exec_announceFollow (acc : s.Accepts .announceFollow c p) :
    let good := p.length = 1 ∧ u8At p 0 ≤ 31
    (good → c = 0 → ∃ z : ZoneSet, z.sum = u8At p 0 ∧
      exec (.announceFollow c p) s = .next (s.served { s with stations.follow := z } .announceFollow c p
        (p ++ if s.stations.announcing then [1#8] else [0#8]))) ∧
    (¬good → exec (.announceFollow c p) s = .next (s.declined .announceFollow c p .badArgument)) ∧
    (good → c ≠ 0 → exec (.announceFollow c p) s = .next (s.declined .announceFollow c p .notPermitted)) := by
  intro good
  have bad : (p.length ≠ 1 || 31 < u8At p 0) = true ↔ ¬good := by
    simp only [Bool.or_eq_true, decide_eq_true_eq]
    unfold good
    omega
  refine ⟨fun g client => ⟨zoneSetOf (u8At p 0), zoneSetOf_sum g.2, congrArg _ (acc.ok ?_)⟩,
    fun n => congrArg _ (acc.refused (if_pos (bad.2 n))), fun g client => congrArg _ (acc.refused ?_)⟩
  · unfold announceFollow
    rw [if_neg (fun b => bad.1 b g), if_neg (fun n => n client), u8_u8At g.1]
    rfl
  · unfold announceFollow
    rw [if_neg (fun b => bad.1 b g), if_pos client]

/-! ## Records pinned and forgotten (R105, R106) -/

theorem exec_stationPin (acc : s.Accepts .stationPin c p) :
    (p.length = 3 → u8At p 2 ≤ 1 → ∀ r, s.stations.find (u16At p 0) = some r →
      exec (.stationPin c p) s =
        .next (s.served
          { s with
            stations.records := s.stations.records.map (fun x =>
              if x.frequency = u16At p 0 then { x with pinned := u8At p 2 = 1 } else x) }
          .stationPin c p (p ++ u8 r.age))) ∧
    (p.length = 3 → u8At p 2 ≤ 1 → s.stations.find (u16At p 0) = none →
      exec (.stationPin c p) s = .next (s.declined .stationPin c p .notFound)) ∧
    (p.length ≠ 3 ∨ 2 ≤ u8At p 2 → exec (.stationPin c p) s = .next (s.declined .stationPin c p .badArgument)) := by
  have bad : (p.length ≠ 3 || 1 < u8At p 2) = true ↔ p.length ≠ 3 ∨ 2 ≤ u8At p 2 := by
    simp only [Bool.or_eq_true, decide_eq_true_eq]
    omega
  have form : p.length = 3 → u8At p 2 ≤ 1 → ¬(p.length ≠ 3 || 1 < u8At p 2) = true := fun l b e => by
    have := bad.1 e
    omega
  refine ⟨fun l b r found => congrArg _ (acc.ok ?_), fun l b none => congrArg _ (acc.refused ?_),
    fun n => congrArg _ (acc.refused (if_pos (bad.2 n)))⟩
  · unfold stationPin
    rw [if_neg (form l b), found]
    exact congrArg (fun q => Answer.ok _ (q ++ u8 r.age)) (u16_flag_u8At l b)
  · unfold stationPin
    rw [if_neg (form l b), none]

theorem exec_stationForget (acc : s.Accepts .stationForget c p) :
    (p.length = 2 → ∀ r, s.stations.find (u16At p 0) = some r → u16At p 0 ∉ s.stations.inUse →
      exec (.stationForget c p) s =
        .next (s.served
          { s with
            stations.records := s.stations.records.filter (fun x => x.frequency ≠ u16At p 0)
            events.station := true
            events.flags := s.events.flags ||| 1#18 <<< 4 }
          .stationForget c p [])) ∧
    (p.length = 2 → ∀ r, s.stations.find (u16At p 0) = some r → u16At p 0 ∈ s.stations.inUse →
      exec (.stationForget c p) s = .next (s.declined .stationForget c p .notPermitted)) ∧
    (p.length = 2 → s.stations.find (u16At p 0) = none →
      exec (.stationForget c p) s = .next (s.declined .stationForget c p .notFound)) ∧
    (p.length ≠ 2 → exec (.stationForget c p) s = .next (s.declined .stationForget c p .badArgument)) := by
  have used : ∀ r, s.stations.find (u16At p 0) = some r →
      (s.stations.isInUse r.frequency = true ↔ u16At p 0 ∈ s.stations.inUse) := fun r found => by
    rw [Stations.find_frequency found, Stations.isInUse_iff]
  refine ⟨fun l r found away => congrArg _ (acc.ok ?_), fun l r found on => congrArg _ (acc.refused ?_),
    fun l none => congrArg _ (acc.refused ?_), fun l => congrArg _ (acc.refused (if_pos l))⟩
  · unfold stationForget
    rw [if_neg (fun n => n l), found]
    exact if_neg (fun u => away ((used r found).1 u))
  · unfold stationForget
    rw [if_neg (fun n => n l), found]
    exact if_pos ((used r found).2 on)
  · unfold stationForget
    rw [if_neg (fun n => n l), none]

end

/-- Settles O25, by what each of the five requests answers. -/
theorem stationSettingsAndRecords : Obligations.StationSettingsAndRecords :=
  ⟨fun _ _ _ => ⟨exec_qualityLimits, exec_stationAging, exec_announceFollow⟩,
    fun _ _ _ => ⟨exec_stationPin, exec_stationForget⟩⟩

end Sys2Proof.Machine
end

-- ==== support and settled obligations, part 58 ====
section
/-! SUPPORT. The scan position: what the cursor passes, and the statement on the begin and measurement of scan steps. -/

namespace Sys2Proof.Machine

/-! ## The cursor (R97, R98) -/

/-- The state with its cursor elsewhere. -/
def State.cursorAt (s : State) (c : Nat) : State := { s with stations.cursor := c }

theorem bandStep_pos (p : BandPlan) : 0 < bandStep p := by cases p <;> decide

section
variable (s : State) {c : Nat}

theorem State.roundEnd_spec : s.roundEnd.stations =
      { s.stations with
        round := s.stations.round + 1
        records := (s.stations.records.map Station.aged).filter
          (fun r => r.age ≤ s.stations.retire || r.pinned || s.stations.isInUse r.frequency) } ∧
    s.roundEnd.tuners = s.tuners ∧ s.roundEnd.routes = s.routes := by
  unfold State.roundEnd
  dsimp only
  split <;> exact ⟨rfl, rfl, rfl⟩

theorem State.roundEnd_inUse : s.roundEnd.stations.inUse = s.stations.inUse := by rw [s.roundEnd_spec.1]

theorem State.roundEnd_tuners : s.roundEnd.tuners = s.tuners := s.roundEnd_spec.2.1

/-- The end of a round does not look at the cursor. -/
theorem State.roundEnd_cursorAt (c : Nat) : (s.cursorAt c).roundEnd = s.roundEnd.cursorAt c := by
  unfold State.roundEnd
  dsimp only
  rw [apply_ite (fun u : State => u.cursorAt c)]
  rfl

theorem State.moveCursor_on (h : c + bandStep s.tuners.plan ≤ bandHigh s.tuners.plan) :
    (s.cursorAt c).moveCursor = s.cursorAt (c + bandStep s.tuners.plan) := if_pos h

theorem State.moveCursor_wraps (h : bandHigh s.tuners.plan < c + bandStep s.tuners.plan) :
    (s.cursorAt c).moveCursor = s.roundEnd.cursorAt (bandLow s.tuners.plan) := by
  rw [← State.roundEnd_cursorAt]
  exact if_neg (Nat.not_le.2 h)

theorem State.skipInUse_stops (h : c ∉ s.stations.inUse) (n : Nat) : (s.cursorAt c).skipInUse n = s.cursorAt c := by
  cases n with
  | zero => rfl
  | succ n => exact if_neg (fun u => h ((Stations.isInUse_iff _ _).1 u))

theorem State.skipInUse_passes (h : c ∈ s.stations.inUse) (n : Nat) :
    (s.cursorAt c).skipInUse (n + 1) = (s.cursorAt c).moveCursor.skipInUse n :=
  if_pos ((Stations.isInUse_iff _ _).2 h)

/-- Frequencies in use below the band's end are passed one by one. -/
theorem State.skipInUse_run {k : Nat} (used : ∀ j < k, c + j * bandStep s.tuners.plan ∈ s.stations.inUse)
    (inside : k = 0 ∨ c + k * bandStep s.tuners.plan ≤ bandHigh s.tuners.plan) (n : Nat) :
    (s.cursorAt c).skipInUse (k + n) = (s.cursorAt (c + k * bandStep s.tuners.plan)).skipInUse n := by
  induction k generalizing n with
  | zero => simp
  | succ k ih =>
    have last : c + k * bandStep s.tuners.plan + bandStep s.tuners.plan ≤ bandHigh s.tuners.plan := by
      have := inside.resolve_left (Nat.succ_ne_zero k)
      rw [Nat.succ_mul] at this
      omega
    rw [show k + 1 + n = k + (n + 1) by omega, ih (fun j l => used j (by omega)) (Or.inr (by omega)),
      State.skipInUse_passes _ (used k (by omega)), State.moveCursor_on _ last, Nat.succ_mul, Nat.add_assoc]

end

/-! ## The fuel suffices -/

/-- The frequencies of a stretch of the raster. -/
def stretch (c step k : Nat) : List Nat := (List.range k).map (fun j => c + j * step)

theorem mem_stretch {c step k f : Nat} : f ∈ stretch c step k ↔ ∃ j < k, c + j * step = f := by simp [stretch]

theorem stretch_nodup {step : Nat} (h : 0 < step) (c k : Nat) : (stretch c step k).Nodup :=
  List.nodup_range.map (fun _ _ e => Nat.eq_of_mul_eq_mul_right h (Nat.add_left_cancel e))

theorem stretch_length (c step k : Nat) : (stretch c step k).length = k := by simp [stretch]

theorem stretch_fits {c step k : Nat} {fs : List Nat} (h : 0 < step) (used : ∀ j < k, c + j * step ∈ fs) :
    k ≤ fs.length := by
  rw [← stretch_length c step k]
  refine ((stretch_nodup h c k).subperm (fun f m => ?_)).length_le
  obtain ⟨j, l, rfl⟩ := mem_stretch.1 m
  exact used j l

/-- Two stretches in use that have no frequency in common. -/
theorem stretches_fit {c d step n k : Nat} {fs : List Nat} (h : 0 < step) (one : ∀ j < n, c + j * step ∈ fs)
    (two : ∀ j < k, d + j * step ∈ fs) (apart : ∀ i < n, ∀ j < k, c + i * step ≠ d + j * step) : n + k ≤ fs.length := by
  have length : (stretch c step n ++ stretch d step k).length = n + k := by
    rw [List.length_append, stretch_length, stretch_length]
  rw [← length]
  refine List.Subperm.length_le (List.Nodup.subperm ?_ (fun f m => ?_))
  · refine List.nodup_append.2 ⟨stretch_nodup h c n, stretch_nodup h d k, fun a ma b mb => ?_⟩
    obtain ⟨i, li, rfl⟩ := mem_stretch.1 ma
    obtain ⟨j, lj, rfl⟩ := mem_stretch.1 mb
    exact apart i li j lj
  · rcases List.mem_append.1 m with m | m
    · obtain ⟨j, l, rfl⟩ := mem_stretch.1 m
      exact one j l
    · obtain ⟨j, l, rfl⟩ := mem_stretch.1 m
      exact two j l

/-- A frequency the cursor reaches again after the wrap, but below the band's end, was not passed before it. -/
theorem passed_before_wrap {c d step n k high : Nat} {fs : List Nat} (used : ∀ j ≤ n, c + j * step ∈ fs)
    (end_ : high < c + (n + 1) * step) (away : d + k * step ∉ fs) (inside : d + k * step + step ≤ high) :
    ∀ i < n + 1, ∀ j < k, c + i * step ≠ d + j * step := by
  intro i li j lj same
  have reached : d + k * step = c + (i + (k - j)) * step := by
    obtain ⟨m, rfl⟩ := Nat.exists_eq_add_of_lt lj
    rw [show i + (j + m + 1 - j) = i + (m + 1) by omega, show j + m + 1 = j + (m + 1) by omega, Nat.add_mul i, Nat.add_mul j]
    omega
  refine away (reached ▸ used _ ?_)
  by_contra far
  have : (n + 1) * step ≤ (i + (k - j)) * step := Nat.mul_le_mul_right _ (by omega)
  omega

/-- A stretch that leaves the band has a first frequency that is its last in the band. -/
theorem last_inside {c step high n : Nat} (past : high < c + (n + 1) * step) :
    ∃ m ≤ n, high < c + (m + 1) * step ∧ (m = 0 ∨ c + m * step ≤ high) := by
  induction n with
  | zero => exact ⟨0, le_rfl, past, .inl rfl⟩
  | succ n ih =>
    by_cases sooner : high < c + (n + 1) * step
    · obtain ⟨m, l, rest⟩ := ih sooner
      exact ⟨m, Nat.le_succ_of_le l, rest⟩
    · exact ⟨n + 1, le_rfl, past, .inr (Nat.not_lt.1 sooner)⟩

/-! ## Frequencies handed out (R97) -/

section
variable (s : State) (x : TunerId)

/-- The first returned frequency that is not in use is handed out. -/
theorem State.handOut_returned {used rest : List Nat} {f : Nat} (h : s.stations.returned = used ++ f :: rest)
    (u : ∀ g ∈ used, g ∈ s.stations.inUse) (free : f ∉ s.stations.inUse) :
    s.handOut x = { s with stations := { s.stations with returned := rest }.reserve x (some f) } := by
  have first : s.stations.returned.dropWhile (fun f => s.stations.isInUse f) = f :: rest := by
    rw [h, List.dropWhile_append_of_pos (fun g m => (Stations.isInUse_iff _ _).2 (u g m)),
      List.dropWhile_cons_of_neg (fun k => free ((Stations.isInUse_iff _ _).1 k))]
  unfold State.handOut
  rw [first]

/-- Without one the cursor's is, once it has passed what is in use, and the cursor moves on. -/
theorem State.handOut_cursor {u v : State} (h : ∀ g ∈ s.stations.returned, g ∈ s.stations.inUse)
    (passed : ({ s with stations.returned := [] } : State).skipInUse (s.stations.inUse.length + 1) = u)
    (moved : u.moveCursor = v) :
    s.handOut x = { v with stations := v.stations.reserve x (some u.stations.cursor) } := by
  have none : s.stations.returned.dropWhile (fun f => s.stations.isInUse f) = [] :=
    List.dropWhile_eq_nil_iff.2 (fun g m => (Stations.isInUse_iff _ _).2 (h g m))
  subst passed moved
  unfold State.handOut
  rw [none]

/-- The cursor below the band's end. -/
theorem State.handOut_on (h : ∀ g ∈ s.stations.returned, g ∈ s.stations.inUse) {k : Nat}
    (used : ∀ j < k, s.stations.cursor + j * bandStep s.tuners.plan ∈ s.stations.inUse)
    (free : s.stations.cursor + k * bandStep s.tuners.plan ∉ s.stations.inUse)
    (inside : s.stations.cursor + k * bandStep s.tuners.plan + bandStep s.tuners.plan ≤ bandHigh s.tuners.plan) :
    s.handOut x = { s with
      stations := { s.stations with
        returned := []
        cursor := s.stations.cursor + k * bandStep s.tuners.plan + bandStep s.tuners.plan }.reserve x
          (some (s.stations.cursor + k * bandStep s.tuners.plan)) } := by
  let v : State := { s with stations.returned := [] }
  have within : s.stations.cursor + k * bandStep s.tuners.plan ≤ bandHigh s.tuners.plan := by omega
  have few := stretch_fits (bandStep_pos _) used
  obtain ⟨n, fuel⟩ := Nat.exists_eq_add_of_le (Nat.le_succ_of_le few)
  refine s.handOut_cursor x (u := v.cursorAt (s.stations.cursor + k * bandStep s.tuners.plan)) h ?_ (v.moveCursor_on inside)
  rw [show s.stations.inUse.length + 1 = k + n from fuel]
  exact (v.skipInUse_run used (Or.inr within) n).trans (v.skipInUse_stops free n)

/-- Where the cursor wraps, and what it then hands out and moves on to (R97, R98). -/
def State.Wraps (s : State) (handed next : Nat) : Prop :=
  let step := bandStep s.tuners.plan
  let high := bandHigh s.tuners.plan
  let low := bandLow s.tuners.plan
  (∃ k, handed = s.stations.cursor + k * step ∧ next = low ∧ handed ∉ s.stations.inUse ∧
      (∀ j, j < k → s.stations.cursor + j * step ∈ s.stations.inUse) ∧ (k = 0 ∨ handed ≤ high) ∧ high < handed + step) ∨
    (∃ n k, (∀ j, j ≤ n → s.stations.cursor + j * step ∈ s.stations.inUse) ∧
      high < s.stations.cursor + (n + 1) * step ∧ (∀ j, j < k → low + j * step ∈ s.stations.inUse) ∧
      handed = low + k * step ∧ handed ∉ s.stations.inUse ∧ handed + step ≤ high ∧ next = handed + step)

/-- The cursor wraps once, and one round ends. -/
theorem State.handOut_wraps (h : ∀ g ∈ s.stations.returned, g ∈ s.stations.inUse) {handed next : Nat}
    (wraps : s.Wraps handed next) :
    let v := ({ s with stations.returned := [] } : State).roundEnd.cursorAt next
    s.handOut x = { v with stations := v.stations.reserve x (some handed) } := by
  intro v
  let w : State := { s with stations.returned := [] }
  rcases wraps with ⟨k, rfl, rfl, free, used, inside, past⟩ | ⟨n, k, before, past, after, rfl, free, inside, rfl⟩
  · obtain ⟨n, fuel⟩ := Nat.exists_eq_add_of_le (Nat.le_succ_of_le (stretch_fits (bandStep_pos _) used))
    refine s.handOut_cursor x (u := w.cursorAt (s.stations.cursor + k * bandStep s.tuners.plan)) h ?_ (w.moveCursor_wraps past)
    rw [show s.stations.inUse.length + 1 = k + n from fuel]
    exact (w.skipInUse_run used inside n).trans (w.skipInUse_stops free n)
  · obtain ⟨m, least, beyond, run⟩ := last_inside past
    have first : ∀ j ≤ m, s.stations.cursor + j * bandStep s.tuners.plan ∈ s.stations.inUse := fun j l => before j (by omega)
    have few : m + 1 + k ≤ s.stations.inUse.length := stretches_fit (bandStep_pos _) (fun j l => first j (by omega)) after
      (passed_before_wrap first beyond free inside)
    obtain ⟨f, fuel⟩ := Nat.exists_eq_add_of_le (Nat.le_succ_of_le few)
    let e := w.roundEnd
    have plan : e.tuners = s.tuners := w.roundEnd_tuners
    have used : e.stations.inUse = s.stations.inUse := w.roundEnd_inUse
    have on : e.tuners.plan = s.tuners.plan := by rw [plan]
    refine s.handOut_cursor x (u := e.cursorAt (bandLow s.tuners.plan + k * bandStep s.tuners.plan)) h ?_ ?_
    · rw [show s.stations.inUse.length + 1 = m + (k + f + 1) by omega]
      have one := w.skipInUse_run (c := s.stations.cursor) (k := m) (fun j l => first j (by omega)) run (k + f + 1)
      have two := w.skipInUse_passes (first m le_rfl) (k + f)
      have three := w.moveCursor_wraps (c := s.stations.cursor + m * bandStep s.tuners.plan) (by
        rw [Nat.succ_mul, ← Nat.add_assoc] at beyond
        exact beyond)
      have four := e.skipInUse_run (c := bandLow s.tuners.plan) (k := k) (by rw [on, used]; exact after)
        (by rw [on]; exact .inr (by omega)) f
      rw [on] at four
      exact one.trans (two.trans ((congrArg (fun u => State.skipInUse u (k + f)) three).trans (four.trans
        (e.skipInUse_stops (by rw [used]; exact free) f))))
    · have moved := e.moveCursor_on (c := bandLow s.tuners.plan + k * bandStep s.tuners.plan) (by rw [on]; exact inside)
      rw [on] at moved
      exact moved

end

end Sys2Proof.Machine
end

-- ==== support and settled obligations, part 59 ====
section
/-! SUPPORT. The statement on the begin and measurement of scan steps. -/

namespace Sys2Proof.Machine

section
variable {s : State} {x : TunerId}

/-! ## The begin of a step (R72, R73, R75, R97) -/

theorem Tuner.checksThrough_false (t : Tuner) : t.checksThrough = false ↔ ∀ q, t.search = some q → q.partner = false := by
  unfold Tuner.checksThrough
  cases t.search with
  | none => simp
  | some q => simp

theorem Tuner.usesOther_false (t : Tuner) : t.usesOther = false ↔
    t.checksThrough = false ∧ ∀ f tuning, t.retune ≠ some ⟨.switch f false, tuning⟩ := by
  unfold Tuner.usesOther
  rw [Bool.or_eq_false_iff]
  refine and_congr_right (fun _ => ?_)
  split
  · rename_i f tuning retuning
    exact ⟨nofun, fun h => absurd retuning (h f tuning)⟩
  · rename_i other
    exact ⟨fun _ f tuning e => other f tuning e, fun _ => rfl⟩

/-- When a scan step may begin (R72, R73, R75). -/
def State.MayScan (s : State) (x : TunerId) : Prop :=
  (s.tuner x).role = .free ∧ (s.tuner x).activity = .none ∧ s.sup.state ≠ .quiet ∧
    (s.tuners.link = .broken ∨
      (s.tuners.policy.scan ≠ .off ∧ s.tuners.link ≠ .requested ∧
        (∀ q, (s.tuner (otherTuner x)).search = some q → q.partner = false) ∧
        (s.tuners.policy.scan = .interleaved → s.tuners.policy.diversity = true →
          ∀ f tuning, (s.tuner (otherTuner x)).retune ≠ some ⟨.switch f false, tuning⟩)))

/-- What a step waits for at the other tuner: a check through this one, and where pairings are made also the switch. -/
theorem TunerPolicy.waits_iff {q : TunerPolicy} (on : q.scan ≠ .off) (t : Tuner) :
    (if q.runsFreely then t.checksThrough else t.usesOther) = false ↔
      (∀ k, t.search = some k → k.partner = false) ∧
        (q.scan = .interleaved → q.diversity = true → ∀ f tuning, t.retune ≠ some ⟨.switch f false, tuning⟩) := by
  unfold TunerPolicy.runsFreely
  split
  · rename_i free
    rw [Tuner.checksThrough_false]
    refine ⟨fun h => ⟨h, fun i d => ?_⟩, fun h => h.1⟩
    rw [i, d] at free
    cases free
  · rename_i pairs
    rw [Tuner.usesOther_false, Tuner.checksThrough_false]
    simp only [Bool.or_eq_true, decide_eq_true_eq, Bool.not_eq_true', not_or, Bool.not_eq_false] at pairs
    refine and_congr_right (fun _ => ⟨fun h _ _ => h, fun h => h ?_ pairs.2⟩)
    cases policy : q.scan
    · exact absurd policy on
    · rfl
    · exact absurd policy pairs.1

theorem State.mayScan_iff : s.mayScan x = true ↔ s.MayScan x := by
  unfold State.mayScan State.MayScan
  simp only [Bool.and_eq_true, Bool.or_eq_true, decide_eq_true_eq, Bool.not_eq_true', and_assoc]
  refine and_congr_right (fun _ => and_congr_right (fun _ => and_congr_right (fun _ => or_congr_right ?_)))
  exact and_congr_right (fun on => and_congr_right (fun _ => TunerPolicy.waits_iff on _))

/-- A tuner's record as its scan step begins. -/
def Tuner.scanBegun (t : Tuner) : Tuner :=
  { t with activity := .scanStep, scan := some { measurement := none, dwell := false, items := [] } }

theorem State.scanStepBegin_not (h : ¬s.MayScan x) : s.scanStepBegin x = s :=
  if_neg (fun may => h (State.mayScan_iff.1 may))

theorem State.scanStepBegin_takes (may : s.MayScan x) {u : State} (handed : s.handOut x = u) (same : u.tuner x = s.tuner x) :
    s.scanStepBegin x = u.setTuner x (s.tuner x).scanBegun := by
  unfold State.scanStepBegin
  rw [if_pos (State.mayScan_iff.2 may), handed, same]
  rfl

/-- A record after the end of a round, and what stays (R98). -/
theorem State.mem_roundEnd {n : Station} : n ∈ s.roundEnd.stations.records ↔
    (∃ r ∈ s.stations.records, r.aged = n) ∧
      (n.age ≤ s.stations.retire ∨ n.pinned = true ∨ n.frequency ∈ s.stations.inUse) := by
  rw [s.roundEnd_spec.1]
  simp only [List.mem_filter, List.mem_map, Bool.or_eq_true, decide_eq_true_eq, Stations.isInUse_iff, or_assoc]

theorem State.roundEnd_aged {n : Station} (h : n ∈ s.roundEnd.stations.records) : n.refreshed = false ∧
    (n.age ≤ s.stations.retire ∨ n.pinned = true ∨ n.frequency ∈ s.stations.inUse) ∧
    ∃ r ∈ s.stations.records,
      n = { r with age := if r.refreshed then r.age else min 15 (r.age + 1), refreshed := false } := by
  obtain ⟨⟨r, m, rfl⟩, keep⟩ := State.mem_roundEnd.1 h
  exact ⟨rfl, keep, r, m, rfl⟩

theorem State.roundEnd_stays {r : Station} (m : r ∈ s.stations.records)
    (keep : (r.refreshed = true ∧ r.age ≤ s.stations.retire) ∨
      (r.refreshed = false ∧ min 15 (r.age + 1) ≤ s.stations.retire) ∨ r.pinned = true ∨ r.frequency ∈ s.stations.inUse) :
    ∃ n ∈ s.roundEnd.stations.records, n.frequency = r.frequency := by
  refine ⟨r.aged, State.mem_roundEnd.2 ⟨⟨r, m, rfl⟩, ?_⟩, rfl⟩
  rcases keep with ⟨fresh, young⟩ | ⟨stale, young⟩ | rest
  · refine .inl ?_
    unfold Station.aged
    rw [if_pos fresh]
    exact young
  · refine .inl ?_
    unfold Station.aged
    rw [if_neg (by simp [stale])]
    exact young
  · exact .inr rest

/-- A step whose frequency the cursor finds at or past the band's end (R97, R98). -/
theorem State.scanStepBegin_wraps (may : s.MayScan x) (h : ∀ g ∈ s.stations.returned, g ∈ s.stations.inUse)
    {handed next : Nat} (wraps : s.Wraps handed next) :
    let t := s.scanStepBegin x
    s.TunerWork t ∧ t.routes = s.routes ∧ t.tuner x = (s.tuner x).scanBegun ∧ t.stations.reserved x = some handed ∧
      t.stations.cursor = next ∧ t.stations.returned = [] ∧ t.stations.round = s.stations.round + 1 ∧
      t.stations.records = ({ s with stations.returned := [] } : State).roundEnd.stations.records := by
  let w : State := { s with stations.returned := [] }
  have out := s.handOut_wraps x h wraps
  have same : ({ w.roundEnd.cursorAt next with
      stations := (w.roundEnd.cursorAt next).stations.reserve x (some handed) } : State).tuner x = s.tuner x := by
    have tuners : w.roundEnd.tuners = s.tuners := w.roundEnd_tuners
    unfold State.tuner State.cursorAt
    rw [tuners]
  have taken := State.scanStepBegin_takes may out same
  refine ⟨(s.scanStepBegin_frame x).work, by simp, ?_⟩
  rw [taken]
  refine ⟨State.tuner_setTuner_same _ _ _, ?_⟩
  rw [State.setTuner_stations]
  have round := w.roundEnd_spec.1
  cases x <;> exact ⟨rfl, rfl, congrArg Stations.returned round, congrArg Stations.round round, rfl⟩

theorem exec_scanStepBegin (works : s.Works) :
    exec (.scanStepBegin x) s = .next (s.scanStepBegin x) := congrArg _ (s.unlessHeld_works works _)

/-! ## Its measurement, and the end of the interval (R75, R97) -/

theorem State.scanMeasurement_kept {f : Nat} {dwell : Bool} {items : List DataItem} (field multipath : Nat)
    (activity : (s.tuner x).activity = .scanStep) (scan : (s.tuner x).scan = some ⟨none, dwell, items⟩)
    (reserved : s.stations.reserved x = some f) :
    ∃ k : ScanStep, s.scanMeasurement x field multipath = s.setTuner x { s.tuner x with scan := some k } ∧
      k.measurement = some (s.measure field multipath .scan) ∧ k.items = [] ∧
      (k.dwell = true ↔ (s.measure field multipath .scan).area ≠ .iii ∧
        ∀ r, s.stations.find f = some r → r.code = none) := by
  unfold State.scanMeasurement
  dsimp only
  rw [activity, scan, reserved]
  refine ⟨_, rfl, rfl, rfl, ?_⟩
  dsimp only
  cases s.stations.find f with
  | none => simp
  | some r => simp

theorem State.scanMeasurement_not (h : (s.tuner x).activity ≠ .scanStep) (field multipath : Nat) :
    s.scanMeasurement x field multipath = s := by
  unfold State.scanMeasurement
  dsimp only
  split
  · rename_i scans _ _
    exact absurd scans h
  · rfl

theorem State.scanIntervalExpiry_not (h : s.tuners.link ≠ .paired ∨ s.tuners.interval = none) : s.scanIntervalExpiry = s := by
  refine if_neg (fun both => ?_)
  rw [Bool.and_eq_true, decide_eq_true_eq] at both
  rcases h with link | interval
  · exact link both.1
  · rw [interval] at both
    exact nomatch both.2

theorem State.scanIntervalExpiry_breaks (link : s.tuners.link = .paired) (interval : s.tuners.interval ≠ none)
    (partner : (s.tuner x).role = .partner) (program : (s.tuner (otherTuner x)).role = .program) :
    s.scanIntervalExpiry = ({ s with tuners.link := .broken, tuners.interval := none } : State).setTuner x
      { s.tuner x with role := .free, activity := .none, partnerOf := none } := by
  have gone : (s.tuner x).unpartnered = { s.tuner x with role := .free, activity := .none, partnerOf := none } := if_pos partner
  have stays : (s.tuner (otherTuner x)).unpartnered = s.tuner (otherTuner x) := if_neg (by rw [program]; decide)
  unfold State.scanIntervalExpiry
  rw [if_pos (by simpa [link, Option.isSome_iff_ne_none] using interval), ← gone]
  unfold State.unpair
  cases x with
  | t1 =>
    have stays : s.tuners.t2.unpartnered = s.tuners.t2 := stays
    rw [stays]
    rfl
  | t2 =>
    have stays : s.tuners.t1.unpartnered = s.tuners.t1 := stays
    rw [stays]
    rfl

end

/-- Settles O41, by what the cursor passes and hands out. -/
theorem scanStepsBeginAndMeasure : Obligations.ScanStepsBeginAndMeasure := by
  refine ⟨fun s x works => ?_, fun s x field multipath works => ?_⟩
  · intro may begun
    have run := exec_scanStepBegin (x := x) works
    refine ⟨fun h => ?_, fun may used f rest returned all free => ?_, ?_, ?_⟩
    · rw [run, State.scanStepBegin_not h]
    · rw [run, State.scanStepBegin_takes may (s.handOut_returned x returned all free) (by cases x <;> rfl)]
      rfl
    · intro may all k used f free inside
      rw [run, State.scanStepBegin_takes may (s.handOut_on x all used free inside) (by cases x <;> rfl)]
      rfl
    · intro may all step high low handed next wraps
      obtain ⟨work, routes, tuner, reserved, cursor, returned, round, records⟩ := State.scanStepBegin_wraps may all wraps
      refine ⟨_, run, work, routes, ?_, reserved, cursor, returned, round, fun n m => ?_, fun r m keep => ?_⟩
      · rw [tuner]
        exact (State.tuner_setTuner_same _ _ _).symm
      · rw [records] at m
        exact State.roundEnd_aged (s := { s with stations.returned := [] }) m
      · rw [records]
        exact State.roundEnd_stays (s := { s with stations.returned := [] }) m keep
  · have expiry : exec .scanIntervalExpiry s = .next s.scanIntervalExpiry := congrArg _ (s.unlessHeld_works works _)
    have measured : exec (.scanMeasurement x field multipath) s = .next (s.scanMeasurement x field.val multipath.val) :=
      congrArg _ (s.unlessHeld_works works _)
    refine ⟨fun f dwell items activity scan reserved => ?_, fun h => ?_, fun h => ?_, fun link interval partner program => ?_⟩
    · obtain ⟨k, kept, rest⟩ := State.scanMeasurement_kept field.val multipath.val activity scan reserved
      exact ⟨k, measured.trans (congrArg _ kept), rest⟩
    · rw [measured, State.scanMeasurement_not h]
    · rw [expiry, State.scanIntervalExpiry_not h]
    · rw [expiry, State.scanIntervalExpiry_breaks link interval partner program]

end Sys2Proof.Machine
end

-- ==== support and settled obligations, part 60 ====
section
/-! SUPPORT. Records found after insertions, refreshes and decoded items (R88, R90, R92, R94 to R96). -/

namespace Sys2Proof.Machine

/-! ## Records amended in place -/

/-- The record of a frequency amended where there is one, the others as they were. -/
structure Stations.Amends (a b : Stations) (f : Nat) (g : Station → Station) : Prop where
  here : b.find f = (a.find f).map g
  beside : ∀ h, h ≠ f → b.find h = a.find h
  names : b.records.map (fun r => r.frequency) = a.records.map (fun r => r.frequency)
  absent : a.find f = none → b.records = a.records

namespace Stations.Amends

variable {a b c : Stations} {f : Nat} {g h : Station → Station}

theorem refl (a : Stations) (f : Nat) : a.Amends a f id := ⟨by simp, fun _ _ => rfl, rfl, fun _ => rfl⟩

theorem of_records (e : b.records = a.records) : a.Amends b f id :=
  ⟨by unfold Stations.find; rw [e]; simp, fun _ _ => by unfold Stations.find; rw [e], by rw [e], fun _ => e⟩

theorem trans (k : a.Amends b f g) (l : b.Amends c f h) : a.Amends c f (h ∘ g) where
  here := by rw [l.here, k.here, Option.map_map]
  beside := fun x n => (l.beside x n).trans (k.beside x n)
  names := l.names.trans k.names
  absent := fun none => (l.absent (by rw [k.here, none]; rfl)).trans (k.absent none)

theorem records (k : a.Amends b f g) (e : c.records = b.records) : a.Amends c f g := k.trans (of_records e)

theorem congr (k : a.Amends b f g) (e : ∀ r, a.find f = some r → g r = h r) : a.Amends b f h where
  here := by
    rw [k.here]
    cases there : a.find f with
    | none => rfl
    | some r => exact congrArg some (e r there)
  beside := k.beside
  names := k.names
  absent := k.absent

end Stations.Amends

/-- What an update of a frequency finds. -/
theorem find_updated (rs : List Station) (f h : Nat) (g : Station → Station) (k : ∀ r, (g r).frequency = r.frequency) :
    (rs.map (fun r => if r.frequency = f then g r else r)).find? (fun r => r.frequency = h) =
      (rs.find? (fun r => r.frequency = h)).map (fun r => if h = f then g r else r) := by
  induction rs with
  | nil => rfl
  | cons r rs ih =>
    have same : (if r.frequency = f then g r else r).frequency = r.frequency := by
      split
      · exact k r
      · rfl
    rw [List.map_cons, List.find?_cons, List.find?_cons, same, ih]
    split
    · rename_i e
      rw [of_decide_eq_true e]
      rfl
    · rfl

theorem Stations.update_amends (a : Stations) (f : Nat) {g : Station → Station} (k : ∀ r, (g r).frequency = r.frequency) :
    a.Amends (a.update f g) f g where
  here := (find_updated a.records f f g k).trans (congrArg (fun e => (a.find f).map e) (funext (fun _ => if_pos rfl)))
  beside := fun h n => (find_updated a.records f h g k).trans
    ((congrArg (fun e => (a.find h).map e) (funext (fun _ => if_neg n))).trans Option.map_id')
  names := by
    unfold Stations.update
    rw [List.map_map]
    refine List.map_congr_left (fun r _ => ?_)
    change (if r.frequency = f then g r else r).frequency = r.frequency
    split
    · exact k r
    · rfl
  absent := fun none => by
    refine (List.map_congr_left (fun r m => ?_)).trans (List.map_id _)
    exact if_neg (Stations.find_none none r m)

/-! ## Records inserted (R88, R92) -/

theorem find_insertRecord_other {r : Station} {f : Nat} (h : f ≠ r.frequency) (rs : List Station) :
    (insertRecord r rs).find? (fun x => x.frequency = f) = rs.find? (fun x => x.frequency = f) := by
  have skip : ∀ xs : List Station, (r :: xs).find? (fun x => x.frequency = f) = xs.find? (fun x => x.frequency = f) :=
    fun xs => List.find?_cons_of_neg (by simpa using Ne.symm h)
  induction rs with
  | nil => exact skip []
  | cons x xs ih =>
    unfold insertRecord
    split
    · exact skip _
    · rw [List.find?_cons, List.find?_cons, ih]

theorem find_dropRecord_same (f : Nat) (rs : List Station) : (dropRecord f rs).find? (fun x => x.frequency = f) = none :=
  List.find?_eq_none.2 (fun x m => by simpa using (List.mem_filter.1 m).2)

theorem find_dropRecord_other {f v : Nat} (h : f ≠ v) (rs : List Station) :
    (dropRecord v rs).find? (fun x => x.frequency = f) = rs.find? (fun x => x.frequency = f) := by
  unfold dropRecord
  rw [List.find?_filter]
  congr 1
  funext x
  by_cases e : x.frequency = f
  · simp [e, h]
  · simp [e]

section
variable {s : State} {f : Nat}

theorem State.ensureStation_found {r : Station} (h : s.stations.find f = some r) : s.ensureStation f = s := by
  unfold State.ensureStation
  rw [h]

theorem State.ensureStation_inserts (absent : s.stations.find f = none) {rs : List Station}
    (h : s.stations.inserted (Station.new f) = some rs) :
    s.ensureStation f = { s with stations.records := rs }.stationChanged := by
  unfold State.ensureStation State.insertStation
  rw [absent, h]

/-- An insertion sets the station change flag and its source (R105, R177). -/
theorem State.stationChanged_events (s : State) : s.stationChanged.events.station = true ∧
    s.stationChanged.events.flags.getLsbD 4 = true := by
  refine ⟨rfl, ?_⟩
  unfold State.stationChanged
  rw [BitVec.getLsbD_or]
  simp [EventSource.bit, EventSource.number]

/-- A missing record finds room (R92). -/
theorem State.ensureStation_room (absent : s.stations.find f = none) (room : s.stations.records.length < 48) :
    let t := s.ensureStation f
    t.stations.find f = some (Station.new f) ∧ (∀ g, g ≠ f → t.stations.find g = s.stations.find g) ∧
      t.events.station = true ∧ t.events.flags.getLsbD 4 = true ∧
      t.stations.records.length = s.stations.records.length + 1 := by
  intro t
  have e : t = { s with stations.records := insertRecord (Station.new f) s.stations.records }.stationChanged :=
    State.ensureStation_inserts absent (if_pos room)
  obtain ⟨station, flag⟩ := State.stationChanged_events { s with stations.records := insertRecord (Station.new f) s.stations.records }
  rw [e]
  exact ⟨find_insertRecord (Station.new f) _ absent, fun g n => find_insertRecord_other n _, station, flag,
    insertRecord_length _ _⟩

/-- In a full table a missing record takes the place of the victim (R92). -/
theorem State.ensureStation_victim (absent : s.stations.find f = none) (full : 48 ≤ s.stations.records.length) {v : Station}
    (victim : s.stations.victim = some v) :
    let t := s.ensureStation f
    t.stations.find f = some (Station.new f) ∧ t.stations.find v.frequency = none ∧
      (∀ g, g ≠ f → g ≠ v.frequency → t.stations.find g = s.stations.find g) ∧
      t.events.station = true ∧ t.events.flags.getLsbD 4 = true := by
  intro t
  let rs := insertRecord (Station.new f) (dropRecord v.frequency s.stations.records)
  have inserted : s.stations.inserted (Station.new f) = some rs := by
    unfold Stations.inserted
    rw [if_neg (Nat.not_lt.2 full), victim]
  have e : t = { s with stations.records := rs }.stationChanged := State.ensureStation_inserts absent inserted
  have apart : v.frequency ≠ f := fun same =>
    Stations.find_none absent v (Stations.victim_mem victim) same
  obtain ⟨station, flag⟩ := State.stationChanged_events { s with stations.records := rs }
  rw [e]
  refine ⟨find_insertRecord (Station.new f) _ (find_dropRecord_none absent), ?_, fun g n k => ?_, station, flag⟩
  · exact (find_insertRecord_other (r := Station.new f) apart _).trans (find_dropRecord_same _ _)
  · exact (find_insertRecord_other (r := Station.new f) n _).trans (find_dropRecord_other k _)

/-- Without a victim the record finds no place, which STATION_TABLE_FULL tells, of an in-use frequency once (R92). -/
theorem State.ensureStation_full (absent : s.stations.find f = none) (full : 48 ≤ s.stations.records.length)
    (none : s.stations.victim = none) :
    let t := s.ensureStation f
    t.stations.records = s.stations.records ∧
      (f ∉ s.stations.inUse ∨ f ∉ s.stations.fullRaised → t.events.flags.getLsbD 5 = true) ∧
      (f ∈ s.stations.inUse → f ∈ s.stations.fullRaised → t = s) ∧ t.events.station = s.events.station := by
  intro t
  have inserted : s.stations.inserted (Station.new f) = .none := by
    unfold Stations.inserted
    rw [if_neg (Nat.not_lt.2 full), none]
  have e : t = s.reportFull f := by
    unfold t State.ensureStation State.insertStation
    rw [absent, inserted]
    rfl
  have raised : ∀ u : State, (u.raise .stationTableFull).events.flags.getLsbD 5 = true := fun u => by
    rw [State.raise_flags, BitVec.getLsbD_or]
    simp [EventSource.bit, EventSource.number]
  rw [e]
  unfold State.reportFull
  split
  · rename_i used
    have used := (Stations.isInUse_iff _ _).1 used
    split
    · rename_i once
      exact ⟨rfl, fun h => absurd used (h.resolve_right (fun n => n once)), fun _ _ => rfl, rfl⟩
    · rename_i first
      exact ⟨rfl, fun _ => raised _, fun _ m => absurd m first, rfl⟩
  · rename_i apart
    exact ⟨rfl, fun _ => raised _, fun m => absurd ((Stations.isInUse_iff _ _).2 m) apart, rfl⟩

/-! ## Records refreshed (R90) -/

theorem State.refreshStation_amends (s : State) (f : Nat) (m : Measurement) :
    (s.ensureStation f).stations.Amends (s.refreshStation f m).stations f (Station.refresh m) :=
  Stations.update_amends _ f (fun _ => rfl)

theorem State.refreshStation_events (s : State) (f : Nat) (m : Measurement) :
    (s.refreshStation f m).events = (s.ensureStation f).events := rfl

theorem State.refreshStation_reserved (s : State) (f : Nat) (m : Measurement) (x : TunerId) :
    (s.refreshStation f m).stations.reserved x = s.stations.reserved x := by
  refine Eq.trans ?_ ((State.ensureStation_beside (s := s) f).1.reserved x)
  cases x <;> rfl

end

end Sys2Proof.Machine
end

-- ==== support and settled obligations, part 61 ====
section
/-! SUPPORT. Decoded items where no claim waits and no retune runs, and the statement on completed scan steps. -/

namespace Sys2Proof.Machine

/-! ## Items on records (R94 to R96) -/

/-- What a decoded item makes of a record. -/
def Station.hears (p : BandPlan) (i : DataItem) (r : Station) : Station :=
  match i with
  | .programCode c => if c = 0 then r else r.withCode c.toNat
  | .nameSegment k a b => r.withSegment k a b
  | .traffic c a => r.withTraffic c a
  | .afList fs => r.withAfList p fs

theorem Station.withCode_of_same {r : Station} {c : Nat} (h : r.code = some c) : r.withCode c = r := by
  unfold Station.withCode
  rw [h]
  exact if_pos rfl

theorem Station.hears_frequency (p : BandPlan) (i : DataItem) (r : Station) : (r.hears p i).frequency = r.frequency := by
  unfold Station.hears
  cases i with
  | programCode c =>
    dsimp only
    split
    · rfl
    · exact Station.withCode_frequency _ r
  | nameSegment k a b => exact Station.withSegment_frequency k a b r
  | traffic c a => rfl
  | afList fs => rfl

/-- The frequencies of an AF list kept one by one are those that fit, each once (R96). -/
theorem foldl_kept (p : Nat → Bool) (fs kept : List Nat) :
    fs.foldl (fun kept f => if p f && !kept.contains f then kept ++ [f] else kept) kept =
      kept ++ (fs.filter (fun f => p f && !kept.contains f)).eraseDups := by
  induction fs generalizing kept with
  | nil => simp
  | cons f fs ih =>
    rw [List.foldl_cons, List.filter_cons, ih]
    split
    · rw [List.eraseDups_cons, List.filter_filter, List.append_assoc, List.singleton_append]
      congr 3
      refine List.filter_congr (fun g _ => ?_)
      by_cases e : g = f
      · simp [e]
      · simp [e]
    · rfl

theorem keptAfs_eq (p : BandPlan) (own : Nat) (fs : List Nat) :
    keptAfs p own fs = ((fs.filter (fun g => onRaster p g && g ≠ own)).eraseDups).take 8 := by
  unfold keptAfs
  rw [foldl_kept (fun g => onRaster p g && g ≠ own)]
  simp

/-! ## Items applied (R80, R84, R94) -/

/-- What an item leaves of a tuner that does not retune: all but its code and its search, with a check given up. -/
structure Tuner.Applied (t u : Tuner) : Prop where
  rest : u = { t with
    code := u.code, activity := u.activity, check := u.check, af := u.af, streak := u.streak, search := u.search }
  activity : u.activity = t.activity ∨ u.activity = .none

theorem Tuner.Applied.refl (t : Tuner) : t.Applied t := ⟨rfl, .inl rfl⟩

theorem Tuner.Applied.trans {t u v : Tuner} (h : t.Applied u) (k : u.Applied v) : t.Applied v where
  rest := by rw [k.rest, h.rest]
  activity := by
    rcases k.activity with e | e
    · rw [e]
      exact h.activity
    · exact .inr e

theorem Tuner.Applied.retune {t u : Tuner} (h : t.Applied u) : u.retune = t.retune := by rw [h.rest]

theorem Tuner.Applied.scan {t u : Tuner} (h : t.Applied u) : u.scan = t.scan := by rw [h.rest]

theorem Tuner.Applied.watch {t u : Tuner} (h : t.Applied u) : u.watch = t.watch := by rw [h.rest]

/-- What applied items leave of the rest, the records aside. -/
structure State.Applies (s t : State) : Prop where
  events : t.events = s.events
  waiting : t.tuners.waiting = s.tuners.waiting
  plan : t.tuners.plan = s.tuners.plan
  watch : t.tuners.watch = s.tuners.watch
  link : t.tuners.link = s.tuners.link
  reserved : ∀ x, t.stations.reserved x = s.stations.reserved x
  tuners : ∀ y, (s.tuner y).Applied (t.tuner y)

namespace State.Applies

variable {s t u : State}

theorem refl (s : State) : s.Applies s := ⟨rfl, rfl, rfl, rfl, rfl, fun _ => rfl, fun _ => .refl _⟩

theorem trans (h : s.Applies t) (k : t.Applies u) : s.Applies u where
  events := k.events.trans h.events
  waiting := k.waiting.trans h.waiting
  plan := k.plan.trans h.plan
  watch := k.watch.trans h.watch
  link := k.link.trans h.link
  reserved := fun x => (k.reserved x).trans (h.reserved x)
  tuners := fun y => (h.tuners y).trans (k.tuners y)

theorem noRetune (h : s.Applies t) (k : s.NoRetune) : t.NoRetune :=
  t.noRetune_iff.2 (fun x => (h.tuners x).retune.trans (k.tuner x))

theorem watchSettled (h : s.Applies t) (k : s.WatchSettled) : t.WatchSettled :=
  k.ofTuners h.watch (fun y => (h.tuners y).watch)

end State.Applies

section
variable {s : State}

theorem State.setTuner_applies {x : TunerId} {t : Tuner} (h : (s.tuner x).Applied t) : s.Applies (s.setTuner x t) where
  events := State.setTuner_events _ _ _
  waiting := s.setTuner_waiting x t
  plan := by cases x <;> rfl
  watch := (State.setTuner_shared x t).1
  link := (State.setTuner_shared x t).2.1
  reserved := fun _ => by rw [State.setTuner_stations]
  tuners := forall_tuner x (by rw [State.tuner_setTuner_same]; exact h) (by
    rw [State.tuner_setTuner_other]
    exact .refl _)

theorem State.cancelCheck_applies (s : State) (x : TunerId) : s.Applies (s.cancelCheck x) := by
  unfold State.cancelCheck
  split
  · exact State.setTuner_applies ⟨rfl, .inr rfl⟩
  · exact .refl s

theorem State.holdStreak_applies (s : State) (x : TunerId) : s.Applies (s.holdStreak x) := by
  unfold State.holdStreak
  extract_lets t listed
  split
  · exact State.setTuner_applies ⟨rfl, .inl rfl⟩
  · exact .refl s

theorem State.endSearch_applies {x : TunerId} (still : (s.tuner x).retune = none) : s.Applies (s.endSearch x) := by
  unfold State.endSearch
  dsimp only
  rw [still]
  refine State.Applies.trans (t := if (s.tuner x).usesOther then s.cancelCheck (otherTuner x) else s) ?_
    (State.setTuner_applies ⟨rfl, .inl rfl⟩)
  split
  · exact s.cancelCheck_applies _
  · exact .refl s

theorem State.followCode_applies (still : s.NoRetune) (x : TunerId) (f c : Nat) : s.Applies (s.followCode x f c) := by
  have coded : s.Applies (s.setTuner x { s.tuner x with code := some c }) := State.setTuner_applies ⟨rfl, .inl rfl⟩
  unfold State.followCode
  dsimp only
  split
  · split
    · exact coded.trans (State.endSearch_applies ((coded.noRetune still).tuner x))
    · exact coded
  · exact .refl s

theorem State.holdStreak_stations (x : TunerId) : (s.holdStreak x).stations = s.stations := (s.holdStreak_spec x).2.2.2

theorem State.endSearch_stations {x : TunerId} (still : (s.tuner x).retune = none) : (s.endSearch x).stations = s.stations := by
  unfold State.endSearch
  dsimp only
  rw [still]
  dsimp only
  rw [State.setTuner_stations]
  split
  · exact State.cancelCheck_stations _
  · rfl

theorem State.followCode_stations (still : s.NoRetune) (x : TunerId) (f c : Nat) :
    (s.followCode x f c).stations = s.stations := by
  have coded : s.Applies (s.setTuner x { s.tuner x with code := some c }) := State.setTuner_applies ⟨rfl, .inl rfl⟩
  unfold State.followCode
  dsimp only
  split
  · split
    · rw [State.endSearch_stations ((coded.noRetune still).tuner x), State.setTuner_stations]
    · exact State.setTuner_stations _ _ _
  · rfl

theorem State.notifyCode_nobody (h : s.tuners.waiting = []) (c : Nat) : s.notifyCode c = s := by
  unfold State.notifyCode
  rw [h]
  rfl

theorem State.update_applies (s : State) (f : Nat) (g : Station → Station) :
    s.Applies { s with stations := s.stations.update f g } :=
  ⟨rfl, rfl, rfl, rfl, rfl, fun x => by cases x <;> rfl, fun y => by cases y <;> exact .refl _⟩

/-- A code that no claim waits for, applied to a record (R94). -/
theorem State.applyCode_applies (nobody : s.tuners.waiting = []) (still : s.NoRetune) (f c : Nat) :
    s.Applies (s.applyCode f c) ∧ s.stations.Amends (s.applyCode f c).stations f (Station.withCode c) := by
  unfold State.applyCode
  split
  · rename_i absent
    exact ⟨.refl s, (Stations.Amends.refl _ f).congr (fun r e => absurd (absent.symm.trans e) nofun)⟩
  · rename_i r found
    split
    · rename_i known
      refine ⟨.refl s, (Stations.Amends.refl _ f).congr (fun n e => ?_)⟩
      rw [found] at e
      cases e
      exact (Station.withCode_of_same known).symm
    · extract_lets s1 s2
      let v : State := { s with stations := s.stations.update f (Station.withCode c) }
      have coded : s.Applies v := s.update_applies f _
      have told : s1 = v := State.notifyCode_nobody (s := v) nobody c
      have still1 : s1.NoRetune := by rw [told]; exact coded.noRetune still
      have one := State.followCode_applies still1 .t1 f c
      have two := one.trans (State.followCode_applies (one.noRetune still1) .t2 f c)
      have all : s1.Applies ((s2.holdStreak .t1).holdStreak .t2) :=
        (two.trans (State.holdStreak_applies _ .t1)).trans (State.holdStreak_applies _ .t2)
      have stations : ((s2.holdStreak .t1).holdStreak .t2).stations = v.stations := by
        rw [State.holdStreak_stations, State.holdStreak_stations,
          show s2.stations = _ from State.followCode_stations (one.noRetune still1) .t2 f c, State.followCode_stations still1, told]
      rw [told] at all
      refine ⟨coded.trans all, ?_⟩
      rw [stations]
      exact Stations.update_amends _ f (Station.withCode_frequency c)

/-- An item that no claim waits for, applied to a record (R94 to R96). -/
theorem State.applyItem_applies (nobody : s.tuners.waiting = []) (still : s.NoRetune) (f : Nat) (i : DataItem) :
    s.Applies (s.applyItem f i) ∧ s.stations.Amends (s.applyItem f i).stations f (Station.hears s.tuners.plan i) := by
  have held : ∀ u : State, u.Applies ((u.holdStreak .t1).holdStreak .t2) := fun u =>
    (u.holdStreak_applies .t1).trans (State.holdStreak_applies _ .t2)
  have amends := Stations.update_amends s.stations f (Station.hears_frequency s.tuners.plan i)
  cases i with
  | programCode c =>
    unfold State.applyItem
    dsimp only
    split
    · rename_i zero
      exact ⟨.refl s, (Stations.Amends.refl _ f).congr (fun r _ => (if_pos zero).symm)⟩
    · rename_i code
      obtain ⟨applies, amended⟩ := State.applyCode_applies nobody still f c.toNat
      exact ⟨applies, amended.congr (fun r _ => (if_neg code).symm)⟩
  | nameSegment k a b => exact ⟨s.update_applies f _, amends⟩
  | traffic c a => exact ⟨s.update_applies f _, amends⟩
  | afList fs =>
    refine ⟨(s.update_applies f _).trans (held _), amends.records ?_⟩
    exact congrArg Stations.records ((State.holdStreak_stations _).trans (State.holdStreak_stations _))

/-- Items applied in their order. -/
theorem State.applyItems_applies (nobody : s.tuners.waiting = []) (still : s.NoRetune) (f : Nat) (items : List DataItem) :
    s.Applies (items.foldl (fun u i => u.applyItem f i) s) ∧
      s.stations.Amends (items.foldl (fun u i => u.applyItem f i) s).stations f
        (fun r => items.foldl (fun r i => r.hears s.tuners.plan i) r) := by
  induction items generalizing s with
  | nil => exact ⟨.refl s, .refl _ f⟩
  | cons i items ih =>
    obtain ⟨applies, amends⟩ := State.applyItem_applies nobody still f i
    obtain ⟨rest, amended⟩ := ih (s := s.applyItem f i) (applies.waiting.trans nobody) (applies.noRetune still)
    rw [applies.plan] at amended
    exact ⟨applies.trans rest, amends.trans amended⟩

/-! ## The arbiter after a scan step (R73 to R75) -/

/-- A tuner out of SCAN_STEP with nothing reserved, and no break of a pairing. -/
structure State.OffScan (s : State) (x : TunerId) : Prop where
  activity : (s.tuner x).activity ≠ .scanStep
  scan : (s.tuner x).scan = none
  reserved : s.stations.reserved x = none
  link : s.tuners.link ≠ .broken

namespace State.OffScan

variable {x : TunerId}

theorem setTuner (h : s.OffScan x) {y : TunerId} {t : Tuner} (a : y = x → t.activity ≠ .scanStep ∧ t.scan = none) :
    (s.setTuner y t).OffScan x := by
  have here : ((s.setTuner y t).tuner x).activity ≠ .scanStep ∧ ((s.setTuner y t).tuner x).scan = none := by
    by_cases e : x = y
    · subst e
      rw [State.tuner_setTuner_same]
      exact a rfl
    · rw [State.tuner_setTuner_ne e]
      exact ⟨h.activity, h.scan⟩
  exact ⟨here.1, here.2, by rw [State.setTuner_stations]; exact h.reserved, by
    rw [(State.setTuner_shared y t).2.1]
    exact h.link⟩

theorem of {t : State} (h : s.OffScan x) (a : t.tuner x = s.tuner x) (b : t.stations = s.stations)
    (c : t.tuners.link ≠ .broken) : t.OffScan x :=
  ⟨by rw [a]; exact h.activity, by rw [a]; exact h.scan, by rw [b]; exact h.reserved, c⟩

theorem beginCheck (h : s.OffScan x) (y : TunerId) : (s.beginCheck y).OffScan x := by
  unfold State.beginCheck
  extract_lets o
  split
  · rename_i c rest found _
    split
    · let s1 := s.setTuner y { s.tuner y with search := some ⟨true, rest, found⟩ }
      have one : s1.OffScan x := h.setTuner (fun e => by subst e; exact ⟨h.activity, h.scan⟩)
      have two : (s1.setTuner (otherTuner y) { s1.tuner (otherTuner y) with
          activity := .afCheckForMaster, check := some ⟨c, none⟩ }).OffScan x :=
        one.setTuner (fun e => ⟨by simp, by rw [← one.scan, ← e]⟩)
      exact two.of (by cases x <;> rfl) rfl (by simp)
    · exact h
  · exact h

theorem startPairing (h : s.OffScan x) (m p : TunerId) : (s.startPairing m p).OffScan x := by
  have one : (s.setTuner p { s.tuner p with role := .partner, partnerOf := some m, activity := .partnerHold }).OffScan x :=
    h.setTuner (fun e => ⟨by simp, by rw [← h.scan, ← e]⟩)
  exact one.of (by cases x <;> rfl) rfl (by simp [State.startPairing])

theorem cancelScan (h : s.OffScan x) (p : TunerId) : (s.cancelScan p).OffScan x := by
  unfold State.cancelScan
  split
  · have given : State.OffScan { s with stations := s.stations.giveBack p } x := by
      refine ⟨by cases x <;> exact h.activity, by cases x <;> exact h.scan, ?_, h.link⟩
      unfold Stations.giveBack
      split
      · have reserved := h.reserved
        cases x <;> cases p
        · rfl
        · exact reserved
        · exact reserved
        · rfl
      · exact h.reserved
    exact given.setTuner (fun _ => ⟨by simp, rfl⟩)
  · exact h

theorem settlePairing (h : s.OffScan x) : s.settlePairing.OffScan x := by
  have meets : ∀ m p, (s.meetPartner m p).OffScan x := fun m p => by
    unfold State.meetPartner
    split
    · exact h.startPairing m p
    · split
      · exact (h.cancelScan p).startPairing m p
      · exact h.of (by cases x <;> rfl) rfl (by simp)
    · exact h.of (by cases x <;> rfl) rfl (by simp)
  unfold State.settlePairing
  split
  · split
    · exact meets _ _
    · exact h
  · split
    · exact meets _ _
    · exact h.of (by cases x <;> rfl) rfl (by simp)
  · exact h

theorem assign (h : s.OffScan x) : s.assign.OffScan x := ((h.beginCheck .t1).beginCheck .t2).settlePairing

/-- What applied items leave off scanning stays so. -/
theorem applied (h : s.OffScan x) {t : State} (a : s.Applies t) : t.OffScan x where
  activity := by
    rcases (a.tuners x).activity with e | e
    · rw [e]
      exact h.activity
    · rw [e]
      exact nofun
  scan := (a.tuners x).scan.trans h.scan
  reserved := (a.reserved x).trans h.reserved
  link := by
    rw [a.link]
    exact h.link

end State.OffScan

/-- The arbiter where no retune runs and no watch waits only claims FREE tuners. -/
theorem State.arbitrate_assigns (still : s.NoRetune) (settled : s.WatchSettled) : s.arbitrate = s.assign := by
  rw [State.arbitrate_eq, still.endFades, settled.reattachWatch]

end

end Sys2Proof.Machine
end

-- ==== support and settled obligations, part 62 ====
section
/-! SUPPORT. The statement on completed scan steps. -/

namespace Sys2Proof.Machine

section
variable {s : State} {x : TunerId}

/-- The state as its scan step ends: the tuner in NONE, its reservation free, a break of the pairing over (R73, R75). -/
def State.scanEnded (s : State) (x : TunerId) : State :=
  let s1 := { s with stations := s.stations.reserve x none }.setTuner x { s.tuner x with activity := .none, scan := none }
  if s1.tuners.link = .broken then { s1 with tuners.link := .none } else s1

theorem State.scanStepComplete_ends {m : Measurement} {dwell : Bool} {items : List DataItem} {f : Nat}
    (activity : (s.tuner x).activity = .scanStep) (scan : (s.tuner x).scan = some ⟨some m, dwell, items⟩)
    (reserved : s.stations.reserved x = some f) :
    s.scanStepComplete x = ((s.scanEnded x).scanResults f m items).arbitrate := by
  unfold State.scanStepComplete
  dsimp only
  rw [activity, scan, reserved]
  rfl

theorem State.scanEnded_spec (s : State) (x : TunerId) : (s.scanEnded x).stations = s.stations.reserve x none ∧
    (s.scanEnded x).events = s.events ∧ (s.scanEnded x).tuners.waiting = s.tuners.waiting ∧
    (s.scanEnded x).tuners.plan = s.tuners.plan ∧ (s.scanEnded x).tuners.watch = s.tuners.watch ∧
    (∀ y, ((s.scanEnded x).tuner y).retune = (s.tuner y).retune ∧ ((s.scanEnded x).tuner y).watch = (s.tuner y).watch) ∧
    (s.scanEnded x).OffScan x := by
  let s1 := { s with stations := s.stations.reserve x none }.setTuner x { s.tuner x with activity := .none, scan := none }
  have tuners : ∀ y, (s1.tuner y).retune = (s.tuner y).retune ∧ (s1.tuner y).watch = (s.tuner y).watch := by
    cases x <;> exact fun y => by cases y <;> exact ⟨rfl, rfl⟩
  have off : (s1.tuner x).activity ≠ .scanStep ∧ (s1.tuner x).scan = none ∧ s1.stations.reserved x = none := by
    cases x <;> exact ⟨nofun, rfl, rfl⟩
  have shared : s1.stations = s.stations.reserve x none ∧ s1.events = s.events ∧ s1.tuners.waiting = s.tuners.waiting ∧
      s1.tuners.plan = s.tuners.plan ∧ s1.tuners.watch = s.tuners.watch := by
    cases x <;> exact ⟨rfl, rfl, rfl, rfl, rfl⟩
  obtain ⟨stations, events, waiting, plan, watch⟩ := shared
  obtain ⟨activity, scan, reserved⟩ := off
  have e : s.scanEnded x = if s1.tuners.link = .broken then { s1 with tuners.link := .none } else s1 := rfl
  rw [e]
  split
  · exact ⟨stations, events, waiting, plan, watch, fun y => match y with | .t1 => tuners .t1 | .t2 => tuners .t2,
      by cases x <;> exact activity, by cases x <;> exact scan, reserved, nofun⟩
  · rename_i link
    exact ⟨stations, events, waiting, plan, watch, tuners, activity, scan, reserved, link⟩

/-- Where no claim waits, the results in area I or II are the record refreshed and the items applied to it (R97). -/
theorem State.scanResults_heard (nobody : s.tuners.waiting = []) (still : s.NoRetune) {m : Measurement}
    (passes : m.area ≠ .iii) (f : Nat) (items : List DataItem) :
    s.scanResults f m items = items.foldl (fun u i => u.applyItem f i) (s.refreshStation f m) := by
  have waiting : (s.refreshStation f m).tuners.waiting = [] := by rw [State.refreshStation_tuners, nobody]
  have quiet : (s.refreshStation f m).NoRetune := by
    unfold State.NoRetune
    rw [State.refreshStation_tuners]
    exact still
  obtain ⟨applies, -⟩ := State.applyItems_applies waiting quiet f items
  unfold State.scanResults
  rw [if_neg passes]
  dsimp only
  split
  · split
    · exact State.notifyCode_nobody (applies.waiting.trans waiting) _
    · rfl
  · rfl

/-- What the record of a scan step's frequency becomes (R90, R94 to R96). -/
def Station.scanned (p : BandPlan) (m : Measurement) (items : List DataItem) (r : Station) : Station :=
  items.foldl (fun r i => r.hears p i) (r.refresh m)

/-- What the results of a completed scan step leave: the record of the frequency, and what no result touches. -/
structure State.Scanned (s t : State) (x : TunerId) (m : Measurement) (items : List DataItem) (f : Nat) : Prop where
  off : t.OffScan x
  out : m.area = .iii → t.stations.records = s.stations.records
  results : m.area ≠ .iii →
    (s.ensureStation f).stations.Amends t.stations f (Station.scanned s.tuners.plan m items) ∧
      t.events = (s.ensureStation f).events

theorem State.ensureStation_congr {s t : State} (records : t.stations.records = s.stations.records)
    (inUse : t.stations.inUse = s.stations.inUse) (raised : t.stations.fullRaised = s.stations.fullRaised)
    (events : t.events = s.events) (f : Nat) :
    (t.ensureStation f).stations.records = (s.ensureStation f).stations.records ∧
      (t.ensureStation f).events = (s.ensureStation f).events := by
  have find : t.stations.find f = s.stations.find f := by
    unfold Stations.find
    rw [records]
  have isInUse : ∀ g, t.stations.isInUse g = s.stations.isInUse g := fun g => by
    unfold Stations.isInUse
    rw [inUse]
  have victim : t.stations.victim = s.stations.victim := by
    unfold Stations.victim
    rw [records]
    simp only [isInUse]
  have inserted : ∀ r, t.stations.inserted r = s.stations.inserted r := fun r => by
    unfold Stations.inserted
    rw [records, victim]
  unfold State.ensureStation
  rw [find]
  split
  · exact ⟨records, events⟩
  · unfold State.insertStation
    rw [inserted]
    split
    · exact ⟨rfl, by simp [State.stationChanged, events]⟩
    · unfold State.reportFull
      rw [isInUse, raised]
      split
      · split
        · exact ⟨records, events⟩
        · exact ⟨records, by simp [State.raise, events]⟩
      · exact ⟨records, by simp [State.raise, events]⟩

theorem State.scanStepComplete_scanned {m : Measurement} {dwell : Bool} {items : List DataItem} {f : Nat} (still : s.NoRetune)
    (settled : s.WatchSettled) (nobody : s.tuners.waiting = []) (activity : (s.tuner x).activity = .scanStep)
    (scan : (s.tuner x).scan = some ⟨some m, dwell, items⟩) (reserved : s.stations.reserved x = some f) :
    s.Scanned (s.scanStepComplete x) x m items f := by
  obtain ⟨stations, events, waiting, plan, watch, tuners, off⟩ := s.scanEnded_spec x
  rw [State.scanStepComplete_ends activity scan reserved]
  generalize s.scanEnded x = u at *
  have still : u.NoRetune := u.noRetune_iff.2 (fun y => (tuners y).1.trans (still.tuner y))
  have settled : u.WatchSettled := settled.ofTuners watch (fun y => (tuners y).2)
  have nobody : u.tuners.waiting = [] := waiting.trans nobody
  have records : u.stations.records = s.stations.records := by
    rw [stations]
    cases x <;> rfl
  have done : ∀ v : State, v.NoRetune → v.WatchSettled → v.OffScan x →
      v.arbitrate.OffScan x ∧ v.arbitrate.stations.records = v.stations.records ∧ v.arbitrate.events = v.events :=
    fun v still settled off => by
      rw [State.arbitrate_assigns still settled]
      exact ⟨off.assign, v.assign_yields.records, v.assign_events⟩
  by_cases area : m.area = .iii
  · rw [show u.scanResults f m items = u from if_pos area]
    obtain ⟨off, kept, -⟩ := done u still settled off
    exact ⟨off, fun _ => kept.trans records, fun n => absurd area n⟩
  · rw [State.scanResults_heard nobody still area]
    let r := u.refreshStation f m
    have same : r.tuners = u.tuners := u.refreshStation_tuners f m
    have stillR : r.NoRetune := by
      unfold State.NoRetune
      rw [same]
      exact still
    obtain ⟨applies, amends⟩ := State.applyItems_applies (s := r) (by rw [same]; exact nobody) stillR f items
    have offR : r.OffScan x := ⟨by rw [u.refreshStation_tuner]; exact off.activity, by rw [u.refreshStation_tuner]; exact off.scan,
      by rw [u.refreshStation_reserved]; exact off.reserved, by rw [same]; exact off.link⟩
    have settledR : r.WatchSettled := by
      unfold State.WatchSettled
      rw [same]
      exact settled
    obtain ⟨off, kept, told⟩ := done _ (applies.noRetune stillR) (applies.watchSettled settledR) (offR.applied applies)
    refine ⟨off, fun n => absurd n area, fun _ => ?_⟩
    have eventsR : r.events = (u.ensureStation f).events := u.refreshStation_events f m
    obtain ⟨sameRecords, sameEvents⟩ := State.ensureStation_congr (s := s) (t := u) records
      (by rw [stations]; cases x <;> rfl) (by rw [stations]; cases x <;> rfl) events f
    rw [show r.tuners.plan = s.tuners.plan by rw [same, plan]] at amends
    refine ⟨((Stations.Amends.of_records sameRecords).trans ((u.refreshStation_amends f m).trans amends)).records kept, ?_⟩
    rw [told, applies.events, eventsR, sameEvents]

theorem Station.withCode_eq (c : Nat) (r : Station) : r.withCode c =
    if r.code = some c then r
    else if r.code = none then { r with code := some c }
    else { r with code := some c, name := List.replicate 8 none, afList := [] } := by
  unfold Station.withCode
  cases code : r.code with
  | none => simp
  | some d =>
    by_cases same : d = c
    · simp [same]
    · simp [same]

/-- The items as the statement applies them are the model's. -/
theorem foldl_hears {p : BandPlan} {f : Nat} {g : Station → DataItem → Station}
    (same : ∀ r i, r.frequency = f → g r i = r.hears p i) (items : List DataItem) {r : Station} (h : r.frequency = f) :
    items.foldl g r = items.foldl (fun r i => r.hears p i) r := by
  induction items generalizing r with
  | nil => rfl
  | cons i items ih =>
    rw [List.foldl_cons, List.foldl_cons, same r i h]
    exact ih ((r.hears_frequency p i).trans h)

end

/-- Settles O42: the step's end, the record made to exist and amended by what was heard, and an arbiter that leaves both. -/
theorem scanStepCompletes : Obligations.ScanStepCompletes := by
  intro s x m dwell items f works still settled nobody activity scan reserved apply found heard
  have run : exec (.scanStepComplete x) s = .next (s.scanStepComplete x) := congrArg _ (s.unlessHeld_works works _)
  obtain ⟨off, out, results⟩ := State.scanStepComplete_scanned still settled nobody activity scan reserved
  have applied : ∀ r i, r.frequency = f → apply r i = r.hears s.tuners.plan i := by
    intro r i own
    cases i with
    | programCode c =>
      change (if c = 0 ∨ r.code = some c.toNat then r else _) = if c = 0 then r else r.withCode c.toNat
      by_cases zero : c = 0
      · rw [if_pos (.inl zero), if_pos zero]
      · rw [if_neg zero, Station.withCode_eq]
        by_cases known : r.code = some c.toNat
        · rw [if_pos (.inr known), if_pos known]
        · rw [if_neg (fun either => either.elim zero known), if_neg known]
    | nameSegment k a b => rfl
    | traffic c a => rfl
    | afList fs =>
      have kept : keptAfs s.tuners.plan r.frequency fs =
          ((fs.filter (fun g => onRaster s.tuners.plan g && g ≠ f)).eraseDups).take 8 := by rw [keptAfs_eq, own]
      exact congrArg (fun l => { r with afList := l }) kept.symm
  have scanned : ∀ r, r.frequency = f → Station.scanned s.tuners.plan m items r =
      items.foldl apply { r with last := found, age := 0, refreshed := true } := fun r own =>
    (foldl_hears applied items (r := r.refresh m) own).symm
  have fresh : Station.scanned s.tuners.plan m items (Station.new f) = heard := scanned _ rfl
  refine ⟨_, run, (s.scanStepComplete_frame x).work, off.reserved, off.activity, off.scan, off.link, out,
    fun passes r there => ?_, fun passes absent room => ?_, fun passes absent full => ⟨fun v victim => ?_, fun none => ?_⟩⟩
  · obtain ⟨amends, -⟩ := results passes
    rw [State.ensureStation_found there] at amends
    refine ⟨?_, amends.names⟩
    rw [amends.here, there]
    exact congrArg some (scanned r (Stations.find_frequency there))
  · obtain ⟨amends, events⟩ := results passes
    obtain ⟨inserted, -, station, -⟩ := State.ensureStation_room absent room
    rw [amends.here, inserted, events]
    exact ⟨congrArg some fresh, station⟩
  · obtain ⟨amends, events⟩ := results passes
    obtain ⟨inserted, gone, others, station, -⟩ := State.ensureStation_victim absent full victim
    have apart : v.frequency ≠ f := Stations.find_none absent v (Stations.victim_mem victim)
    rw [amends.here, inserted, events, amends.beside _ apart]
    exact ⟨congrArg some fresh, station, gone, fun g n k => (amends.beside g n).trans (others g n k)⟩
  · obtain ⟨amends, events⟩ := results passes
    obtain ⟨kept, raised, -⟩ := State.ensureStation_full absent full none
    rw [events]
    refine ⟨(amends.absent ?_).trans kept, raised⟩
    unfold Stations.find
    rw [kept]
    exact absent

end Sys2Proof.Machine
end

-- ==== support and settled obligations, part 63 ====
section
/-! SUPPORT. A watch given up and a policy put in force: what the tuners keep (R69, R74, R76, R85). -/

namespace Sys2Proof.Machine

variable {s t u : State}

/-! ## Work under which no watch attaches and no retune begins (R68, R69, R102) -/

/-- Work that leaves the watch setting, gives no tuner the watch and begins no retune. -/
structure State.Sheds (s t : State) : Prop where
  watch : t.tuners.watch = s.tuners.watch
  flags : ∀ y, (s.tuner y).watch = false → (t.tuner y).watch = false
  retunes : ∀ y, (s.tuner y).retune = none → (t.tuner y).retune = none

namespace State.Sheds

theorem refl (s : State) : s.Sheds s := ⟨rfl, fun _ => id, fun _ => id⟩

theorem trans (h : s.Sheds t) (k : t.Sheds u) : s.Sheds u :=
  ⟨k.watch.trans h.watch, fun y a => k.flags y (h.flags y a), fun y a => k.retunes y (h.retunes y a)⟩

theorem same (h : t.tuners = s.tuners) : s.Sheds t := by
  have e : ∀ y, t.tuner y = s.tuner y := fun y => by
    unfold State.tuner
    rw [h]
  exact ⟨by rw [h], fun y => by rw [e]; exact id, fun y => by rw [e]; exact id⟩

theorem noRetune (h : s.Sheds t) (k : s.NoRetune) : t.NoRetune :=
  t.noRetune_iff.2 (fun y => h.retunes y (k.tuner y))

theorem setTuner {x : TunerId} {n : Tuner} (a : (s.tuner x).watch = false → n.watch = false)
    (b : (s.tuner x).retune = none → n.retune = none) : s.Sheds (s.setTuner x n) where
  watch := (State.setTuner_shared x n).1
  flags := forall_tuner x (by rw [State.tuner_setTuner_same]; exact a) (by rw [State.tuner_setTuner_other]; exact id)
  retunes := forall_tuner x (by rw [State.tuner_setTuner_same]; exact b) (by rw [State.tuner_setTuner_other]; exact id)

theorem folded {α : Type} (f : State → α → State) (h : ∀ (t : State) a, t.tuners.watch = none → t.Sheds (f t a)) (xs : List α)
    {s : State} (none : s.tuners.watch = none) : s.Sheds (xs.foldl f s) := by
  induction xs generalizing s with
  | nil => exact .refl s
  | cons a xs ih => exact (h s a none).trans (ih ((h s a none).watch.trans none))

end State.Sheds

theorem Tuner.unpartnered_retune (t : Tuner) : t.unpartnered.retune = t.retune := by
  unfold Tuner.unpartnered
  split <;> rfl

theorem State.unpair_sheds (s : State) : s.Sheds s.unpair where
  watch := rfl
  flags := fun y => by
    rw [State.unpair_tuner, (s.tuner y).unpartnered_keeps.2.1]
    exact id
  retunes := fun y => by
    rw [State.unpair_tuner, Tuner.unpartnered_retune]
    exact id

theorem State.unpairIfPaired_sheds (s : State) : s.Sheds (if s.tuners.link = .none then s else s.unpair) := by
  split
  · exact .refl s
  · exact s.unpair_sheds

theorem State.cancelCheck_sheds (s : State) (x : TunerId) : s.Sheds (s.cancelCheck x) := by
  unfold State.cancelCheck
  split
  · exact .setTuner id id
  · exact .refl s

theorem State.freeTuner_sheds (s : State) (x : TunerId) : s.Sheds (s.freeTuner x) := by
  unfold State.freeTuner
  extract_lets t s1 s2 s3
  have one : s.Sheds s1 := by
    unfold s1
    split
    · exact .same rfl
    · exact .refl s
  have two : s.Sheds s2 := by
    unfold s2
    split
    · exact one.trans (State.cancelCheck_sheds _ _)
    · exact one
  exact (two.trans (State.unpairIfPaired_sheds s2)).trans (.setTuner (fun _ => rfl) (fun _ => rfl))

theorem State.freeIfUnheld_sheds (s : State) (x : TunerId) : s.Sheds (s.freeIfUnheld x) := by
  unfold State.freeIfUnheld
  dsimp only
  split
  · exact s.freeTuner_sheds x
  · exact .refl s

theorem State.reattachWatch_none (h : s.tuners.watch = none) : s.reattachWatch = s := by
  unfold State.reattachWatch
  rw [h]

theorem State.leaveTuner_sheds (none : s.tuners.watch = none) (x : TunerId) : s.Sheds (s.leaveTuner x) := by
  unfold State.leaveTuner
  extract_lets s0 s1 s2
  have one : s.Sheds s1 := .setTuner id id
  have two : s.Sheds s2 := one.trans (State.freeIfUnheld_sheds _ _)
  split
  · rw [State.reattachWatch_none (two.watch.trans none)]
    exact two
  · exact two

theorem State.releaseRoute_sheds (none : s.tuners.watch = none) (r : Route) : s.Sheds (s.releaseRoute r) := by
  unfold State.releaseRoute
  split
  · exact State.leaveTuner_sheds none _
  · exact State.leaveTuner_sheds none _
  · exact ⟨rfl, fun y => by cases y <;> exact id, fun y => by cases y <;> exact id⟩
  · exact .refl s

theorem State.removeRoute_sheds (none : s.tuners.watch = none) (slot : Nat) (mark : Bool) :
    s.Sheds (s.removeRoute slot mark) := by
  unfold State.removeRoute
  split
  · exact .refl s
  · extract_lets left ranked s1 s2
    have one : s.Sheds s1 := .same rfl
    have two : s.Sheds s2 := one.trans (State.releaseRoute_sheds (s := s1) none _)
    split
    · exact two.trans (.same (by simp))
    · exact two

theorem State.retireSlot_sheds (none : s.tuners.watch = none) (auto own : Bool) (slot : Nat) :
    s.Sheds (s.retireSlot auto own slot) := by
  unfold State.retireSlot
  split
  · exact .refl s
  · split
    · exact .refl s
    · exact State.removeRoute_sheds none _ _
    · exact State.removeRoute_sheds none _ _
    · extract_lets s1 s2
      have one : s.Sheds s1 := .same (by unfold s1; rw [s.putRoutes_rest])
      have two : s.Sheds s2 := by
        unfold s2
        split
        · exact one.trans (.same (by simp))
        · exact one
      split
      · exact two.trans (State.removeRoute_sheds (two.watch.trans none) _ _)
      · exact two

theorem State.autoRetire_sheds (none : s.tuners.watch = none) (hs : List Handle) : s.Sheds (s.autoRetire hs) := by
  refine (State.Sheds.folded _ (fun t k n => State.retireSlot_sheds n true false k) (s.liveSlots hs) none).trans (.same ?_)
  have ran : ∀ (u : State) ds, (u.rerunAll ds).tuners = u.tuners := fun u ds => by rw [(u.rerunAll_frame ds).rest]
  exact ran _ _

theorem State.watchEnded_sheds (none : s.tuners.watch = none) : s.Sheds s.watchEnded := by
  have told : s.Sheds { s with stations.watch := .none } := .same rfl
  unfold State.watchEnded State.endAnnouncement
  split
  · exact (told.trans (State.autoRetire_sheds (s := { s with stations.watch := .none }) none _)).trans (.same rfl)
  · exact told

/-! ## The present watch ended (R69) -/

/-- No watch is set, and none is at a tuner. -/
def State.Unwatched (s : State) : Prop := s.tuners.watch = none ∧ ∀ y, (s.tuner y).watch = false

theorem State.Unwatched.shed (h : s.Unwatched) (k : s.Sheds t) : t.Unwatched :=
  ⟨k.watch.trans h.1, fun y => k.flags y (h.2 y)⟩

theorem State.Unwatched.settled (h : s.Unwatched) : s.WatchSettled := .inl h.1

theorem State.watchTuner_none (h : s.watchTuner = none) : ∀ y, (s.tuner y).watch = false := by
  unfold State.watchTuner at h
  split at h
  · cases h
  · split at h
    · cases h
    · rename_i one two
      exact forall_tuner .t1 (Bool.eq_false_of_not_eq_true one) (Bool.eq_false_of_not_eq_true two)

/-- The state with its watch setting gone. -/
def State.withoutWatch (s : State) : State := { s with tuners.watch := none }

theorem State.withoutWatch_tuner (s : State) (y : TunerId) : s.withoutWatch.tuner y = s.tuner y := by cases y <;> rfl

/-- The state with its watch setting gone and the watch off the tuner that had it. -/
def State.watchOff (s : State) : State :=
  match s.watchTuner with
  | none => s.withoutWatch
  | some x => s.withoutWatch.setTuner x { s.tuner x with watch := false }

theorem State.watchOff_nobody (h : s.watchTuner = none) : s.watchOff = s.withoutWatch ∧ s.endWatch = s.withoutWatch := by
  unfold State.watchOff State.endWatch
  rw [h]
  exact ⟨rfl, rfl⟩

theorem State.watchOff_watched {x : TunerId} (h : s.watchTuner = some x) :
    s.watchOff = s.withoutWatch.setTuner x { s.tuner x with watch := false } ∧
      s.endWatch = (s.watchOff.watchEnded).freeIfUnheld x := by
  unfold State.watchOff State.endWatch
  rw [h]
  exact ⟨rfl, by cases x <;> rfl⟩

theorem State.watchOff_watch (s : State) : s.watchOff.tuners.watch = none := by
  cases h : s.watchTuner with
  | none =>
    rw [(State.watchOff_nobody h).1]
    rfl
  | some x =>
    rw [(State.watchOff_watched h).1]
    exact (State.setTuner_shared _ _).1

theorem State.watchOff_flags (one : ¬(s.tuners.t1.watch = true ∧ s.tuners.t2.watch = true)) (y : TunerId) :
    (s.watchOff.tuner y).watch = false := by
  cases h : s.watchTuner with
  | none =>
    rw [(State.watchOff_nobody h).1, s.withoutWatch_tuner]
    exact State.watchTuner_none h y
  | some x =>
    rw [(State.watchOff_watched h).1]
    refine forall_tuner (P := fun y => ((s.withoutWatch.setTuner x { s.tuner x with watch := false }).tuner y).watch = false)
      x ?_ ?_ y
    · rw [State.tuner_setTuner_same]
    · rw [State.tuner_setTuner_other, s.withoutWatch_tuner]
      refine Bool.eq_false_of_not_eq_true (fun other => one ?_)
      have watched := s.watchTuner_watches h
      cases x
      · exact ⟨watched, other⟩
      · exact ⟨other, watched⟩

theorem State.watchOff_unwatched (one : ¬(s.tuners.t1.watch = true ∧ s.tuners.t2.watch = true)) : s.watchOff.Unwatched :=
  ⟨s.watchOff_watch, State.watchOff_flags one⟩

theorem State.watchOff_noRetune (h : s.NoRetune) : s.watchOff.NoRetune := by
  have bare : s.withoutWatch.NoRetune := h
  cases watch : s.watchTuner with
  | none =>
    rw [(State.watchOff_nobody watch).1]
    exact bare
  | some x =>
    rw [(State.watchOff_watched watch).1]
    exact (State.Sheds.setTuner (n := { s.tuner x with watch := false }) (fun _ => rfl) (fun _ => h.tuner x)).noRetune bare

/-- After the watch is off, its announcement ends and a tuner nobody holds is freed. -/
theorem State.watchOff_sheds (s : State) : s.watchOff.Sheds s.endWatch := by
  cases h : s.watchTuner with
  | none =>
    obtain ⟨off, ended⟩ := State.watchOff_nobody h
    rw [off, ended]
    exact .refl _
  | some x =>
    rw [(State.watchOff_watched h).2]
    exact (State.watchEnded_sheds s.watchOff_watch).trans (State.freeIfUnheld_sheds _ _)

theorem State.endWatch_watch (s : State) : s.endWatch.tuners.watch = none := s.watchOff_sheds.watch.trans s.watchOff_watch

/-! ## Fade phases that end without a watch (R77) -/

theorem State.Unwatched.setTuner (h : s.Unwatched) {x : TunerId} {n : Tuner} (a : n.watch = (s.tuner x).watch) :
    (s.setTuner x n).Unwatched :=
  ⟨(State.setTuner_shared x n).1.trans h.1, forall_tuner x (by rw [State.tuner_setTuner_same, a]; exact h.2 x)
    (by rw [State.tuner_setTuner_other]; exact h.2 _)⟩

theorem State.moveProgram_unwatched (h : s.Unwatched) (x : TunerId) (k : RetuneKind) (dest : Nat) (confirm : Bool) :
    (s.moveProgram x k dest confirm).Unwatched := by
  have moves := s.moveProgram_moves x k dest confirm
  refine ⟨?_, forall_tuner x ?_ ?_⟩
  · rw [moves.watch, h.2 x]
    exact h.1
  · rw [moves.tuner]
    exact h.2 x
  · rw [moves.other]
    exact h.2 _

theorem State.beginTuning_unwatched (h : s.Unwatched) (x : TunerId) (k : RetuneKind) : (s.beginTuning x k).Unwatched := by
  have told : ∀ {u : State}, u.Unwatched → ∀ c, (u.notifyTuner x c).Unwatched := fun v c =>
    v.shed (.same (State.notifyTuner_tuners x c))
  have ended : ∀ n : Tuner, n.watch = (s.tuner x).watch → ((s.setTuner x n).abandonRetune x).Unwatched := fun n e =>
    told ((h.setTuner e).setTuner (by rfl)) _
  unfold State.beginTuning
  cases k with
  | jump c => exact (told h _).setTuner rfl
  | switch dest confirm =>
    dsimp only
    split
    · exact ended _ rfl
    · exact State.moveProgram_unwatched (told h _) x _ _ _
  | revert dest decoded =>
    dsimp only
    split
    · exact ended _ rfl
    · exact State.moveProgram_unwatched (told h _) x _ _ _

theorem State.endFades_unwatched (h : s.Unwatched) : s.endFades.Unwatched := by
  have one : ∀ {u : State}, u.Unwatched → ∀ x, (u.endFade x).Unwatched := fun {u} v x => by
    unfold State.endFade
    split
    · split
      · exact State.beginTuning_unwatched v x _
      · exact v
    · exact v
  exact one (one (one h _) _) _

/-- The arbiter gives no tuner a watch where none is set. -/
theorem State.arbitrate_unwatched (h : s.Unwatched) : s.arbitrate.Unwatched := by
  have faded := State.endFades_unwatched h
  rw [State.arbitrate_eq, State.reattachWatch_none faded.1]
  have yields := s.endFades.assign_yields
  exact ⟨yields.watch.trans faded.1, fun y => (yields.tuners y).2.1.trans (faded.2 y)⟩

end Sys2Proof.Machine
end

-- ==== support and settled obligations, part 64 ====
section
/-! SUPPORT. The statement's part on TUNER_POLICY (R74, R76, R85). -/

namespace Sys2Proof.Machine

theorem TunerFrame.policy {s t : State} (h : TunerFrame s t) : t.tuners.policy = s.tuners.policy := by rw [h.rest]

theorem scanPolicyOf_code {n : Nat} {k : ScanPolicy} (h : scanPolicyOf n = some k) : k.code = n := by
  unfold scanPolicyOf at h
  split at h <;> cases h <;> rfl

theorem scanPolicyOf_some {n : Nat} (h : n ≤ 2) : ∃ k, scanPolicyOf n = some k := by
  have all : ∀ m < 3, (scanPolicyOf m).isSome = true := by decide
  exact Option.isSome_iff_exists.1 (all n (by omega))

theorem scanPolicyOf_none {n : Nat} (h : 3 ≤ n) : scanPolicyOf n = none := by
  obtain ⟨k, rfl⟩ := Nat.exists_eq_add_of_le' h
  rfl

/-- The policy a payload spells. -/
def policyOf (p : List Byte) (k : ScanPolicy) : TunerPolicy :=
  { diversity := u8At p 0 = 1, cancel := u8At p 1 = 1, scan := k, interval := u8At p 3, hysteresis := u8At p 4 }

theorem policyOf_bytes {p : List Byte} {k : ScanPolicy} (l : p.length = 5) (a : u8At p 0 ≤ 1) (b : u8At p 1 ≤ 1)
    (c : k.code = u8At p 2) : (policyOf p k).bytes = p := by
  obtain ⟨v, w, x, y, z, rfl⟩ : ∃ v w x y z, p = [v, w, x, y, z] := by
    match p, l with
    | [v, w, x, y, z], _ => exact ⟨v, w, x, y, z, rfl⟩
  have one : flag (decide (u8At [v, w, x, y, z] 0 = 1)) = [v] := flag_of_bit a
  have two : flag (decide (u8At [v, w, x, y, z] 1 = 1)) = [w] := flag_of_bit b
  unfold policyOf TunerPolicy.bytes
  dsimp only
  rw [one, two, c]
  simp [u8, u8At]

section
variable {s : State}

/-! ## The pairing link while the arbiter works (R74, R76) -/

theorem State.moveProgram_link (s : State) (x : TunerId) (k : RetuneKind) (dest : Nat) (confirm : Bool) :
    (s.moveProgram x k dest confirm).tuners.link = s.tuners.link := by
  have held : ∀ u : State, (u.holdStreak x).tuners.link = u.tuners.link := fun u => (u.holdStreak_applies x).link
  unfold State.moveProgram
  extract_lets t s1 s2 u s3 src s4
  have one : s1.tuners = s.tuners := by
    unfold s1
    split <;> rfl
  have two : s2.tuners = s.tuners := (State.joinInUse_tuners dest).trans one
  have three : s3.tuners.link = s.tuners.link := ((State.setTuner_shared x _).2.1).trans (by rw [two])
  have four : s4.tuners.link = s3.tuners.link := by
    unfold s4
    split <;> rfl
  exact (held s4).trans (four.trans three)

theorem State.beginTuning_link (s : State) (x : TunerId) (k : RetuneKind) :
    (s.beginTuning x k).tuners.link = s.tuners.link := by
  have told : ∀ (u : State) (c : Condition), (u.notifyTuner x c).tuners.link = u.tuners.link := fun u c => by
    rw [State.notifyTuner_tuners]
  have set : ∀ (u : State) (n : Tuner), (u.setTuner x n).tuners.link = u.tuners.link := fun u n =>
    (State.setTuner_shared x n).2.1
  have ended : ∀ n : Tuner, ((s.setTuner x n).abandonRetune x).tuners.link = s.tuners.link := fun n =>
    (told _ _).trans ((set _ _).trans (set _ _))
  have moved : ∀ k dest confirm, ((s.notifyTuner x .retune).moveProgram x k dest confirm).tuners.link = s.tuners.link :=
    fun k dest confirm => (State.moveProgram_link _ x k dest confirm).trans (told _ _)
  unfold State.beginTuning
  cases k with
  | jump c => exact (set _ _).trans (told _ _)
  | switch dest confirm =>
    dsimp only
    split
    · exact ended _
    · exact moved _ _ _
  | revert dest decoded =>
    dsimp only
    split
    · exact ended _
    · exact moved _ _ _

theorem State.endFades_link (s : State) : s.endFades.tuners.link = s.tuners.link := by
  have one : ∀ (u : State) x, (u.endFade x).tuners.link = u.tuners.link := fun u x => by
    unfold State.endFade
    split
    · split
      · exact u.beginTuning_link x _
      · rfl
    · rfl
  exact (one _ _).trans ((one _ _).trans (one _ _))

theorem State.reattachWatch_link (s : State) :
    s.reattachWatch.tuners.link = s.tuners.link ∨ s.reattachWatch.tuners.link = .none := by
  have taken : ∀ x f, (s.takeForWatch x f).tuners.link = .none := fun x f => (s.takeTuner_takes x f 0 true).link
  unfold State.reattachWatch
  split
  · exact .inl rfl
  · split
    · exact .inl rfl
    · split
      · exact .inl (State.setTuner_shared _ _).2.1
      · split
        · exact .inr (taken _ _)
        · split
          · exact .inr (taken _ _)
          · exact .inl rfl

theorem State.beginCheck_link (s : State) (x : TunerId) :
    (s.beginCheck x).tuners.link = s.tuners.link ∨ (s.beginCheck x).tuners.link = .none := by
  unfold State.beginCheck
  extract_lets o
  split
  · split
    · exact .inr rfl
    · exact .inl rfl
  · exact .inl rfl

/-- Where the policy forbids pairings a request is withdrawn and none begins (R74). -/
theorem State.settlePairing_forbidden (h : s.tuners.policy.diversity = false ∨ s.tuners.policy.scan = .full)
    (link : s.tuners.link ≠ .paired) : s.settlePairing.tuners.link ≠ .paired ∧ s.settlePairing.tuners.link ≠ .requested := by
  have none : s.pairReady = none := by
    unfold State.pairReady
    refine if_neg (fun all => ?_)
    rcases h with e | e <;> simp [e] at all
  unfold State.settlePairing
  rw [none]
  split
  · rename_i e
    exact ⟨by rw [e]; decide, by rw [e]; decide⟩
  · exact ⟨nofun, nofun⟩
  · rename_i requested
    exact ⟨link, requested⟩

theorem State.arbitrate_forbidden (h : s.tuners.policy.diversity = false ∨ s.tuners.policy.scan = .full)
    (link : s.tuners.link ≠ .paired) : s.arbitrate.tuners.link ≠ .paired ∧ s.arbitrate.tuners.link ≠ .requested := by
  let v := (s.endFades.reattachWatch.beginCheck .t1).beginCheck .t2
  have frame : TunerFrame s v := ((s.endFades_frame.trans (State.reattachWatch_frame _)).trans
    (State.beginCheck_frame _ _)).trans (State.beginCheck_frame _ _)
  have policy : v.tuners.policy = s.tuners.policy := frame.policy
  have stays : ∀ {u w : State}, u.tuners.link ≠ .paired → w.tuners.link = u.tuners.link ∨ w.tuners.link = .none →
      w.tuners.link ≠ .paired := fun a b => by
    rcases b with e | e
    · rw [e]
      exact a
    · rw [e]
      decide
  have one : s.endFades.tuners.link ≠ .paired := by
    rw [s.endFades_link]
    exact link
  exact State.settlePairing_forbidden (s := v) (by rw [policy]; exact h)
    (stays (stays (stays one (State.reattachWatch_link _)) (State.beginCheck_link _ _)) (State.beginCheck_link _ _))

theorem State.setPolicy_link {q : TunerPolicy} (h : q.diversity = false ∨ q.scan = .full) :
    (s.setPolicy q).tuners.link ≠ .paired := by
  unfold State.setPolicy
  extract_lets _ t
  split
  · rw [if_pos (by rcases h with e | e <;> simp [e])]
    exact nofun
  · rename_i apart
    exact apart

variable {c : Byte} {p : List Byte}

theorem exec_tunerPolicy (acc : s.Accepts .tunerPolicy c p) :
    let good := p.length = 5 ∧ u8At p 0 ≤ 1 ∧ u8At p 1 ≤ 1 ∧ u8At p 2 ≤ 2 ∧ (1 ≤ u8At p 3 ∧ u8At p 3 ≤ 60) ∧ u8At p 4 ≤ 30
    (¬good → exec (.tunerPolicy c p) s = .next (s.declined .tunerPolicy c p .badArgument)) ∧
    (good → c ≠ 0 → exec (.tunerPolicy c p) s = .next (s.declined .tunerPolicy c p .notPermitted)) ∧
    (good → c = 0 → ∃ (u : State) (k : ScanPolicy),
      exec (.tunerPolicy c p) s = .next (s.served u .tunerPolicy c p p) ∧ k.code = u8At p 2 ∧
      u.tuners.policy =
        { diversity := u8At p 0 = 1, cancel := u8At p 1 = 1, scan := k, interval := u8At p 3, hysteresis := u8At p 4 } ∧
      State.TunerWork { s with tuners.policy := u.tuners.policy } u ∧
      (u8At p 0 = 0 ∨ k = .full → u.tuners.link ≠ .paired ∧ u.tuners.link ≠ .requested)) := by
  intro good
  have bad : (p.length ≠ 5 || 1 < u8At p 0 || 1 < u8At p 1 || u8At p 3 < 1 || 60 < u8At p 3 || 30 < u8At p 4) = true ↔
      ¬(p.length = 5 ∧ u8At p 0 ≤ 1 ∧ u8At p 1 ≤ 1 ∧ (1 ≤ u8At p 3 ∧ u8At p 3 ≤ 60) ∧ u8At p 4 ≤ 30) := by
    simp only [Bool.or_eq_true, decide_eq_true_eq]
    omega
  have fits : good → ¬(p.length ≠ 5 || 1 < u8At p 0 || 1 < u8At p 1 || u8At p 3 < 1 || 60 < u8At p 3 || 30 < u8At p 4) =
      true := fun ⟨l, a, b, _, d, e⟩ f => bad.1 f ⟨l, a, b, d, e⟩
  refine ⟨fun n => congrArg _ (acc.refused ?_), fun g client => congrArg _ (acc.refused ?_), fun g client => ?_⟩
  · unfold tunerPolicy
    split
    · rfl
    · rename_i form
      rw [bad, not_not] at form
      obtain ⟨l, a, b, d, e⟩ := form
      rw [scanPolicyOf_none (by
        by_contra small
        exact n ⟨l, a, b, by omega, d, e⟩)]
  · obtain ⟨k, scan⟩ := scanPolicyOf_some g.2.2.2.1
    unfold tunerPolicy
    rw [if_neg (fits g), scan]
    exact if_pos client
  · obtain ⟨l, a, b, small, -, -⟩ := id g
    obtain ⟨k, scan⟩ := scanPolicyOf_some small
    have code := scanPolicyOf_code scan
    have frame := (s.setPolicy_frame (policyOf p k)).trans (State.arbitrate_frame _)
    have policy : (s.setPolicy (policyOf p k)).arbitrate.tuners.policy = policyOf p k :=
      frame.policy
    have set : (s.setPolicy (policyOf p k)).tuners.policy = policyOf p k :=
      (s.setPolicy_frame (policyOf p k)).policy
    refine ⟨(s.setPolicy (policyOf p k)).arbitrate, k, congrArg _ (acc.ok ?_), code, policy, ?_, fun off => ?_⟩
    · unfold tunerPolicy
      rw [if_neg (fits g), scan]
      refine (if_neg (fun n => n client)).trans ?_
      exact congrArg (Answer.ok _) (policyOf_bytes l a b code)
    · rw [policy]
      exact frame.work
    · have forbids : (policyOf p k).diversity = false ∨ (policyOf p k).scan = .full :=
        off.imp (fun zero => decide_eq_false (by omega)) id
      exact State.arbitrate_forbidden (by rw [set]; exact forbids) (State.setPolicy_link forbids)

end

end Sys2Proof.Machine
end

-- ==== support and settled obligations, part 65 ====
section
/-! SUPPORT. A watch frequency taken, and the statement on TUNER_POLICY and TRAFFIC_WATCH (R69). -/

namespace Sys2Proof.Machine

section
variable {s : State} {x : TunerId} {f : Nat}

/-! ## What stays as the watch ends (R68, R69) -/

/-- A tuner holds a program that the watch alone does not hold. -/
def State.Stays (s : State) (x : TunerId) : Prop :=
  (s.tuner x).role = .program ∧ ((s.tuner x).users ≠ 0 ∨ (s.tuner x).watch = false)

theorem State.freeTuner_other (s : State) (x : TunerId) :
    (s.freeTuner x).tuner x = .free ∧ (s.tuner (otherTuner x)).Alike ((s.freeTuner x).tuner (otherTuner x)) ∧
      (s.freeTuner x).stations.watch = s.stations.watch := by
  obtain ⟨-, tuners, -, -⟩ := s.departed_spec x
  have same : (s.departed x).tuner (otherTuner x) = s.tuner (otherTuner x) := by
    unfold State.tuner
    rw [tuners]
  have left : (s.departed x).stations.watch = s.stations.watch := by
    unfold State.departed
    split <;> rfl
  have given : (s.abandoned x).stations = (s.departed x).stations := by
    unfold State.abandoned
    dsimp only
    rw [apply_ite State.stations, State.unpair_stations, ite_self, apply_ite State.stations, State.cancelCheck_stations, ite_self]
  rw [State.freeTuner_eq, State.tuner_setTuner_same, State.tuner_setTuner_other, State.setTuner_stations, given, ← same]
  exact ⟨rfl, (s.abandoned_alike x).tuners _, left⟩

/-- What is left once the watch has ended. -/
structure State.WatchGone (s e : State) : Prop where
  unwatched : e.Unwatched
  programs : ∀ x, (e.tuner x).role = .program ↔ s.Stays x
  keeps : ∀ x, s.Stays x → (e.tuner x).frequency = (s.tuner x).frequency ∧ (e.tuner x).users = (s.tuner x).users
  told : e.stations.watch = if s.tuners.t1.watch = true ∨ s.tuners.t2.watch = true then none else s.stations.watch
  sup : e.sup = s.sup

/-- The end of the watch where no announcement is on. -/
theorem State.endWatch_gone (silent : s.stations.announcing = false)
    (one : ¬(s.tuners.t1.watch = true ∧ s.tuners.t2.watch = true)) : s.WatchGone s.endWatch := by
  have unwatched : s.endWatch.Unwatched := (State.watchOff_unwatched one).shed s.watchOff_sheds
  have mark : ∀ y, (s.tuner y).watch = true → (s.tuners.t1.watch = true ∨ s.tuners.t2.watch = true) := fun y e => by
    cases y
    · exact .inl e
    · exact .inr e
  cases watcher : s.watchTuner with
  | none =>
    have flags := State.watchTuner_none watcher
    have ended := (State.watchOff_nobody watcher).2
    refine ⟨unwatched, fun x => ?_, fun x _ => ?_, ?_, ?_⟩
    · rw [ended, s.withoutWatch_tuner]
      exact ⟨fun p => ⟨p, .inr (flags x)⟩, fun stays => stays.1⟩
    · rw [ended, s.withoutWatch_tuner]
      exact ⟨rfl, rfl⟩
    · have off : ¬(s.tuners.t1.watch = true ∨ s.tuners.t2.watch = true) := fun on =>
        on.elim (fun e => by simp [show s.tuners.t1.watch = false from flags .t1] at e)
          (fun e => by simp [show s.tuners.t2.watch = false from flags .t2] at e)
      rw [ended, if_neg off]
      rfl
    · rw [ended]
      rfl
  | some w =>
    have watched := s.watchTuner_watches watcher
    obtain ⟨off, ended⟩ := State.watchOff_watched watcher
    have other : (s.tuner (otherTuner w)).watch = false := by
      have flag := State.watchOff_flags one (otherTuner w)
      rw [off, State.tuner_setTuner_other, s.withoutWatch_tuner] at flag
      exact flag
    let v : State := { s.watchOff with stations.watch := .none }
    have quiet : s.watchOff.watchEnded = v := by
      have announcing : s.watchOff.stations.announcing = false := by
        rw [off, State.setTuner_stations]
        exact silent
      exact if_neg (by simp [announcing])
    have here : v.tuner w = { s.tuner w with watch := false } := by
      have e : s.watchOff.tuner w = { s.tuner w with watch := false } := by rw [off, State.tuner_setTuner_same]
      cases w <;> exact e
    have beside : v.tuner (otherTuner w) = s.tuner (otherTuner w) := by
      have e : s.watchOff.tuner (otherTuner w) = s.tuner (otherTuner w) := by
        rw [off, State.tuner_setTuner_other, s.withoutWatch_tuner]
      cases w <;> exact e
    have sup : v.sup = s.sup := by
      change s.watchOff.sup = s.sup
      rw [off, State.setTuner_sup]
      rfl
    rw [quiet] at ended
    have besides : s.Stays (otherTuner w) ↔ (s.tuner (otherTuner w)).role = .program :=
      ⟨fun stays => stays.1, fun p => ⟨p, .inr other⟩⟩
    have own : s.Stays w ↔ (s.tuner w).role = .program ∧ (s.tuner w).users ≠ 0 := by
      unfold State.Stays
      simp [watched]
    have toldNone : ∀ e : State, e.stations.watch = .none → e.stations.watch =
        if s.tuners.t1.watch = true ∨ s.tuners.t2.watch = true then .none else s.stations.watch := fun e h => by
      rw [h, if_pos (mark w watched)]
    by_cases held : (s.tuner w).role = .program ∧ (s.tuner w).users = 0
    · have freed : s.endWatch = v.freeTuner w := by
        rw [ended]
        unfold State.freeIfUnheld
        rw [here]
        exact if_pos (by simp [held.1, held.2])
      obtain ⟨free, alike, told⟩ := v.freeTuner_other w
      rw [beside] at alike
      rw [freed] at unwatched ⊢
      refine ⟨unwatched, forall_tuner w ?_ ?_, forall_tuner w (fun stays => absurd held.2 (own.1 stays).2) (fun _ => ?_),
        toldNone _ told, (v.freeTuner_frame w).sup.trans sup⟩
      · rw [free, own]
        exact ⟨fun p => absurd p (by decide), fun ⟨_, n⟩ => absurd held.2 n⟩
      · rw [besides]
        exact alike.role
      · exact ⟨alike.frequency, alike.users⟩
    · have kept : s.endWatch = v := by
        rw [ended]
        unfold State.freeIfUnheld
        rw [here]
        refine if_neg (fun all => held ?_)
        simpa using all
      rw [kept] at unwatched ⊢
      refine ⟨unwatched, forall_tuner w ?_ ?_, forall_tuner w (fun _ => ?_) (fun _ => ?_), toldNone _ rfl, sup⟩
      · rw [here, own]
        exact ⟨fun p => ⟨p, fun zero => held ⟨p, zero⟩⟩, fun h => h.1⟩
      · rw [beside, besides]
      · rw [here]
        exact ⟨rfl, rfl⟩
      · rw [beside]
        exact ⟨rfl, rfl⟩

/-! ## A watch frequency taken (R69) -/

/-- The state with a watch frequency set. -/
def State.withWatch (s : State) (f : Nat) : State := { s with tuners.watch := some f }

theorem State.withWatch_tuner (s : State) (f : Nat) (y : TunerId) : (s.withWatch f).tuner y = s.tuner y := by cases y <;> rfl

theorem State.withWatch_holder (s : State) (f g : Nat) : (s.withWatch f).holder g = s.holder g := rfl

theorem State.takeWatch_eq (s : State) (f : Nat) : s.takeWatch f =
    if s.sup.state = .quiet then s.withWatch f
    else match s.holder f with
      | some x => (s.withWatch f).attachWatch x f
      | none =>
        if (s.tuner .t1).role ≠ .program then (s.withWatch f).takeForWatch .t1 f
        else if (s.tuner .t2).role ≠ .program then (s.withWatch f).takeForWatch .t2 f
        else s.withWatch f := by
  unfold State.takeWatch
  dsimp only
  split
  · rfl
  · change (match s.holder f with | some x => _ | none => _) = _
    cases s.holder f <;> rfl

theorem State.cancelScan_sheds (s : State) (x : TunerId) : s.Sheds (s.cancelScan x) := by
  unfold State.cancelScan
  split
  · have given : s.Sheds { s with stations := s.stations.giveBack x } := .same rfl
    exact given.trans (.setTuner (by cases x <;> exact id) (by cases x <;> exact id))
  · exact .refl s

theorem State.abortSearchBy_sheds (s : State) (x : TunerId) : s.Sheds (s.abortSearchBy x) := by
  unfold State.abortSearchBy
  dsimp only
  split
  · split
    · exact .setTuner id id
    · exact .refl s
  · exact .refl s

theorem State.yielded_sheds (s : State) (x : TunerId) : s.Sheds (s.yielded x) :=
  (((s.cancelScan_sheds x).trans (State.cancelCheck_sheds _ x)).trans (State.abortSearchBy_sheds _ x)).trans
    (State.unpairIfPaired_sheds _)

/-- A tuner taken begins no retune. -/
theorem State.takeForWatch_noRetune (h : s.NoRetune) (x : TunerId) (f : Nat) : (s.takeForWatch x f).NoRetune := by
  obtain ⟨code, e⟩ := s.takeTuner_eq x f 0 true
  obtain ⟨same, -⟩ := (s.yielded x).joined_spec x f
  rw [State.noRetune_iff]
  refine forall_tuner x ?_ ?_
  · unfold State.takeForWatch
    rw [State.tellWatch_tuner, e, State.tuner_setTuner_same]
    rfl
  · unfold State.takeForWatch
    rw [State.tellWatch_tuner, e, State.tuner_setTuner_other, same]
    exact (s.yielded_sheds x).retunes _ (h.tuner _)

theorem State.attachWatch_noRetune (h : s.NoRetune) (x : TunerId) (f : Nat) : (s.attachWatch x f).NoRetune := by
  rw [State.noRetune_iff]
  intro y
  rw [State.attachWatch_tuner]
  split
  · exact h.tuner y
  · exact h.tuner y

theorem State.takeWatch_noRetune (h : s.NoRetune) (f : Nat) : (s.takeWatch f).NoRetune := by
  have set : (s.withWatch f).NoRetune := h
  rw [State.takeWatch_eq]
  split
  · exact set
  · split
    · exact State.attachWatch_noRetune set _ _
    · split
      · exact State.takeForWatch_noRetune set _ _
      · split
        · exact State.takeForWatch_noRetune set _ _
        · exact set

theorem State.takeForWatch_watch (s : State) (x : TunerId) (f : Nat) : (s.takeForWatch x f).tuners.watch = s.tuners.watch :=
  (s.takeTuner_takes x f 0 true).watch

theorem State.attachWatch_watch (s : State) (x : TunerId) (f : Nat) : (s.attachWatch x f).tuners.watch = s.tuners.watch :=
  (State.setTuner_shared x _).1

theorem State.takeWatch_watch (s : State) (f : Nat) : (s.takeWatch f).tuners.watch = some f := by
  rw [State.takeWatch_eq]
  split
  · rfl
  · split
    · exact State.attachWatch_watch _ _ _
    · split
      · exact State.takeForWatch_watch _ _ _
      · split
        · exact State.takeForWatch_watch _ _ _
        · rfl

/-- The arbiter attaches a watch, but sets none where no retune runs. -/
theorem State.NoRetune.arbitrate_watch (h : s.NoRetune) : s.arbitrate.tuners.watch = s.tuners.watch := by
  rw [State.arbitrate_eq, h.endFades, (State.assign_yields _).watch]
  unfold State.reattachWatch
  split
  · rfl
  · split
    · rfl
    · split
      · exact State.attachWatch_watch _ _ _
      · split
        · exact State.takeForWatch_watch _ _ _
        · split
          · exact State.takeForWatch_watch _ _ _
          · rfl

theorem State.setWatch_watch (h : s.NoRetune) (w : Option Nat) : (s.setWatch w).tuners.watch = w := by
  have ended := s.watchOff_sheds.noRetune (State.watchOff_noRetune h)
  unfold State.setWatch
  split
  · rename_i same
    exact same.symm
  · split
    · rw [ended.arbitrate_watch, s.endWatch_watch]
    · rw [(State.takeWatch_noRetune ended _).arbitrate_watch, State.takeWatch_watch]

/-! ## Where the watch then is (R69) -/

theorem State.holder_t2 (one : (s.tuner .t1).holds f = false) (two : (s.tuner .t2).holds f = true) : s.holder f = some .t2 := by
  refine (if_neg ?_).trans (if_pos two)
  rw [show s.tuners.t1.holds f = false from one]
  decide

theorem State.holder_t1 (one : (s.tuner .t1).holds f = true) : s.holder f = some .t1 := if_pos one

section
variable (bare : s.Unwatched) (still : s.NoRetune)
include bare still

/-- In QUIET, or where two programs are on other frequencies, the watch waits. -/
theorem State.takeWatch_waits (h : s.sup.state = .quiet ∨
      (s.tuner .t1).role = .program ∧ (s.tuner .t2).role = .program ∧ s.holder f = none) :
    let u := (s.takeWatch f).arbitrate
    u.tuners.watch = some f ∧ (∀ y, (u.tuner y).watch = false) ∧ u.stations.watch = s.stations.watch := by
  have taken : s.takeWatch f = s.withWatch f := by
    rw [State.takeWatch_eq]
    rcases h with quiet | ⟨one, two, nobody⟩
    · exact if_pos quiet
    · split
      · rfl
      · rw [nobody]
        dsimp only
        rw [if_neg (not_not.2 one), if_neg (not_not.2 two)]
  have left : (s.withWatch f).reattachWatch = s.withWatch f := by
    rcases h with quiet | ⟨one, two, nobody⟩
    · exact State.reattachWatch_quiet quiet
    · have busy : ∀ y, ¬(s.tuner y).role = .free := fun y e => by
        cases y
        · rw [one] at e
          cases e
        · rw [two] at e
          cases e
      unfold State.reattachWatch
      change (if _ then _ else match (s.withWatch f).holder f with | some x => _ | none => _) = _
      rw [State.withWatch_holder, nobody]
      split
      · rfl
      · exact (if_neg (busy .t1)).trans (if_neg (busy .t2))
  have arbitrated : (s.takeWatch f).arbitrate = (s.withWatch f).assign := by
    rw [taken, State.arbitrate_eq, State.NoRetune.endFades (s := s.withWatch f) still, left]
  have yields := (s.withWatch f).assign_yields
  intro u
  rw [show u = _ from arbitrated]
  refine ⟨yields.watch, fun y => ?_, yields.told⟩
  rw [(yields.tuners y).2.1, s.withWatch_tuner]
  exact bare.2 y

/-- A program on the frequency takes the watch on. -/
theorem State.takeWatch_attaches (out : s.sup.state ≠ .quiet) (held : s.holder f = some x) :
    let u := (s.takeWatch f).arbitrate
    u.stations.watch = some (f, x) ∧ (u.tuner (otherTuner x)).watch = false ∧ (u.tuner x).watch = true ∧
      (u.tuner x).users = (s.tuner x).users ∧ (u.tuner x).frequency = some f := by
  obtain ⟨program, frequency⟩ := (Tuner.holds_iff _ _).1 (State.holder_holds held)
  have taken : s.takeWatch f = (s.withWatch f).attachWatch x f := by
    rw [State.takeWatch_eq, if_neg out, held]
  have here : ((s.withWatch f).attachWatch x f).tuner x = { s.tuner x with watch := true } := by
    rw [State.attachWatch_tuner, if_pos rfl, s.withWatch_tuner]
  have beside : ((s.withWatch f).attachWatch x f).tuner (otherTuner x) = s.tuner (otherTuner x) := by
    rw [State.attachWatch_tuner, if_neg (otherTuner_ne x), s.withWatch_tuner]
  have settled : ((s.withWatch f).attachWatch x f).WatchSettled := by
    have flag := congrArg Tuner.watch here
    cases x
    · exact .inr (.inl flag)
    · exact .inr (.inr flag)
  have arbitrated : (s.takeWatch f).arbitrate = ((s.withWatch f).attachWatch x f).assign := by
    rw [taken, State.arbitrate_assigns (State.attachWatch_noRetune (s := s.withWatch f) still x f) settled]
  have yields := ((s.withWatch f).attachWatch x f).assign_yields
  have kept := State.assign_program (s := (s.withWatch f).attachWatch x f) (x := x) (by rw [here]; exact program)
  intro u
  rw [show u = _ from arbitrated, yields.told, (yields.tuners _).2.1, beside, kept, here]
  exact ⟨rfl, bare.2 _, rfl, rfl, frequency⟩

/-- Without one a tuner that holds no program is taken, T1 before T2. -/
theorem State.takeWatch_takes (out : s.sup.state ≠ .quiet) (nobody : s.holder f = none) (free : (s.tuner x).role ≠ .program)
    (first : x = .t2 → (s.tuner .t1).role = .program) :
    let u := (s.takeWatch f).arbitrate
    u.stations.watch = some (f, x) ∧ (u.tuner (otherTuner x)).watch = false ∧ (u.tuner x).role = .program ∧
      (u.tuner x).frequency = some f ∧ (u.tuner x).users = 0 ∧ (u.tuner x).watch = true ∧
      (u.tuner x).activity = .retune ∧ (u.tuner x).measurement = none := by
  have taken : s.takeWatch f = (s.withWatch f).takeForWatch x f := by
    rw [State.takeWatch_eq, if_neg out, nobody]
    dsimp only
    cases x with
    | t1 => exact if_pos free
    | t2 => exact (if_neg (not_not.2 (first rfl))).trans (if_pos free)
  have takes := (s.withWatch f).takeTuner_takes x f 0 true
  let v := (s.withWatch f).takeForWatch x f
  have tuner : ∀ y, v.tuner y = ((s.withWatch f).takeTuner x f 0 true).tuner y := State.tellWatch_tuner f x
  have here := (tuner x).trans takes.tuner
  have settled : v.WatchSettled := by
    have flag : (v.tuner x).watch = true := congrArg Tuner.watch here
    cases x
    · exact .inr (.inl flag)
    · exact .inr (.inr flag)
  have arbitrated : (s.takeWatch f).arbitrate = v.assign := by
    rw [taken, State.arbitrate_assigns (State.takeForWatch_noRetune (s := s.withWatch f) still x f) settled]
  have yields := v.assign_yields
  have kept := State.assign_program (s := v) (x := x) (by rw [here])
  intro u
  rw [show u = _ from arbitrated, yields.told, (yields.tuners _).2.1, tuner, takes.other.2.1, s.withWatch_tuner, kept, here]
  exact ⟨rfl, bare.2 _, rfl, rfl, rfl, rfl, rfl, rfl⟩

end

end

end Sys2Proof.Machine
end

-- ==== support and settled obligations, part 66 ====
section
/-! SUPPORT. The statement on TUNER_POLICY and TRAFFIC_WATCH. -/

namespace Sys2Proof.Machine

section
variable {s : State} {c : Byte} {p : List Byte}

theorem State.watchState_eq (u : State) : u.watchState = if u.tuners.watch = none then 0
    else if u.tuners.t1.watch = true ∨ u.tuners.t2.watch = true then 1 else 2 := by
  unfold State.watchState State.watchTuner
  cases u.tuners.watch with
  | none => rfl
  | some f =>
    by_cases one : u.tuners.t1.watch = true
    · simp [one]
    · by_cases two : u.tuners.t2.watch = true
      · simp [one, two]
      · simp [one, two]

/-- A watch set to another frequency, where no announcement is on and no retune runs (R69). -/
theorem State.setWatch_places {f : Nat} (new : some f ≠ s.tuners.watch) (still : s.NoRetune)
    (silent : s.stations.announcing = false) (one : ¬(s.tuners.t1.watch = true ∧ s.tuners.t2.watch = true)) :
    let u := s.setWatch (some f)
    let on := fun (x : TunerId) => s.Stays x ∧ (s.tuner x).frequency = some f
    let waits := u.tuners.watch = some f ∧ u.tuners.t1.watch = false ∧ u.tuners.t2.watch = false ∧
      u.stations.watch = (if s.tuners.t1.watch = true ∨ s.tuners.t2.watch = true then none else s.stations.watch)
    (s.sup.state = .quiet → waits) ∧
    (s.sup.state ≠ .quiet →
      (∀ x, on x → (x = .t2 → ¬on .t1) → u.stations.watch = some (f, x) ∧ (u.tuner (otherTuner x)).watch = false ∧
        (u.tuner x).watch = true ∧ (u.tuner x).users = (s.tuner x).users ∧ (u.tuner x).frequency = some f) ∧
      (¬on .t1 → ¬on .t2 →
        (∀ x, ¬s.Stays x → (x = .t2 → s.Stays .t1) →
          u.stations.watch = some (f, x) ∧ (u.tuner (otherTuner x)).watch = false ∧
          (u.tuner x).role = .program ∧ (u.tuner x).frequency = some f ∧ (u.tuner x).users = 0 ∧
          (u.tuner x).watch = true ∧ (u.tuner x).activity = .retune ∧ (u.tuner x).measurement = none) ∧
        (s.Stays .t1 → s.Stays .t2 → waits))) := by
  intro u on waits
  have gone := State.endWatch_gone silent one
  have ended : s.endWatch.NoRetune := s.watchOff_sheds.noRetune (State.watchOff_noRetune still)
  have placed : u = (s.endWatch.takeWatch f).arbitrate := if_neg new
  have holds : ∀ x, (s.endWatch.tuner x).holds f = true ↔ on x := fun x => by
    rw [Tuner.holds_iff, gone.programs]
    exact and_congr_right (fun stays => by rw [(gone.keeps x stays).1])
  have waiting : (s.endWatch.sup.state = .quiet ∨ (s.endWatch.tuner .t1).role = .program ∧
      (s.endWatch.tuner .t2).role = .program ∧ s.endWatch.holder f = none) → waits := fun h => by
    have stands := State.takeWatch_waits gone.unwatched ended (f := f) h
    rw [← placed, gone.told] at stands
    obtain ⟨watch, flags, told⟩ := stands
    exact ⟨watch, flags .t1, flags .t2, told⟩
  refine ⟨fun quiet => waiting (.inl (by rw [gone.sup]; exact quiet)), fun out => ⟨fun x onX first => ?_, fun off1 off2 =>
    ⟨fun x free first => ?_, fun one two => waiting (.inr ?_)⟩⟩⟩
  · have held : s.endWatch.holder f = some x := by
      cases x with
      | t1 => exact State.holder_t1 ((holds .t1).2 onX)
      | t2 => exact State.holder_t2 (Bool.eq_false_of_not_eq_true (fun h => first rfl ((holds .t1).1 h))) ((holds .t2).2 onX)
    have attached := State.takeWatch_attaches gone.unwatched ended (by rw [gone.sup]; exact out) held
    rw [placed, ← (gone.keeps x onX.1).2]
    exact attached
  · have nobody : s.endWatch.holder f = none := State.holder_none (forall_tuner .t1
      (Bool.eq_false_of_not_eq_true (fun h => off1 ((holds .t1).1 h)))
      (Bool.eq_false_of_not_eq_true (fun h => off2 ((holds .t2).1 h))))
    rw [placed]
    exact State.takeWatch_takes gone.unwatched ended (by rw [gone.sup]; exact out) nobody
      (fun program => free ((gone.programs x).1 program)) (fun e => (gone.programs .t1).2 (first e))
  · have nobody : s.endWatch.holder f = none := State.holder_none (forall_tuner .t1
      (Bool.eq_false_of_not_eq_true (fun h => off1 ((holds .t1).1 h)))
      (Bool.eq_false_of_not_eq_true (fun h => off2 ((holds .t2).1 h))))
    exact ⟨(gone.programs .t1).2 one, (gone.programs .t2).2 two, nobody⟩

theorem State.setWatch_gone (set : s.tuners.watch ≠ none) (one : ¬(s.tuners.t1.watch = true ∧ s.tuners.t2.watch = true)) :
    (s.setWatch none).Unwatched := by
  have ended : s.setWatch none = s.endWatch.arbitrate := if_neg (fun e => set e.symm)
  rw [ended]
  exact State.arbitrate_unwatched ((State.watchOff_unwatched one).shed s.watchOff_sheds)

theorem exec_trafficWatch (acc : s.Accepts .trafficWatch c p) :
    let w := if u16At p 0 = 0 then none else some (u16At p 0)
    let good := p.length = 2 ∧ (u16At p 0 = 0 ∨ onRaster s.tuners.plan (u16At p 0) = true)
    (¬good → exec (.trafficWatch c p) s = .next (s.declined .trafficWatch c p .badArgument)) ∧
    (good → c ≠ 0 → exec (.trafficWatch c p) s = .next (s.declined .trafficWatch c p .notPermitted)) ∧
    (good → c = 0 → exec (.trafficWatch c p) s = .next (s.served (s.setWatch w) .trafficWatch c p
      (u16 ((s.setWatch w).tuners.watch.getD 0) ++ u8 (s.setWatch w).watchState ++ u8 (tunerCode (s.setWatch w).watchTuner)))) := by
  intro w good
  have bad : (p.length ≠ 2 || (u16At p 0 ≠ 0 && !onRaster s.tuners.plan (u16At p 0))) = true ↔ ¬good := by
    unfold good
    rw [not_and_or, not_or, Bool.or_eq_true, Bool.and_eq_true, Bool.not_eq_true', decide_eq_true_eq, decide_eq_true_eq,
      Bool.not_eq_true]
  refine ⟨fun n => congrArg _ (acc.refused (if_pos (bad.2 n))), fun g client => congrArg _ (acc.refused ?_),
    fun g client => congrArg _ (acc.ok ?_)⟩
  · unfold trafficWatch
    rw [if_neg (fun b => bad.1 b g), if_pos client]
  · unfold trafficWatch
    rw [if_neg (fun b => bad.1 b g), if_neg (fun n => n client)]
    rfl

end

/-- Settles O37: the policy's link, and the watch ended, then taken on by a program or a tuner. -/
theorem tunerPolicyAndTrafficWatch : Obligations.TunerPolicyAndTrafficWatch := by
  refine ⟨fun s c p acc => exec_tunerPolicy acc, fun s c p acc slots => ?_⟩
  intro w good
  obtain ⟨bad, others, own⟩ := exec_trafficWatch acc
  refine ⟨bad, others, fun g client => ⟨s.setWatch w, own g client, (s.setWatch_frame (fun _ => True) True (fun _ _ _ => id) w
    slots).work, fun same => if_pos same, fun still => State.setWatch_watch still w, State.watchState_eq _, rfl, ?_, ?_⟩⟩
  · intro f set new still silent one
    rw [set] at new ⊢
    exact State.setWatch_places new still silent one
  · intro gone set one
    rw [gone]
    obtain ⟨watch, flags⟩ := State.setWatch_gone set one
    exact ⟨watch, flags .t1, flags .t2⟩

end Sys2Proof.Machine
end

-- ==== support and settled obligations, part 67 ====
section
/-! SUPPORT. A retune begun and what the arbiter makes of it: a fade that goes on, or a program moved at once (R77, R83). -/

namespace Sys2Proof.Machine

variable {s t u : State} {x : TunerId}

/-! ## Records that stand but for their announcement flag (R100) -/

/-- Every record found stands, but for its announcement-active flag, which stands too where `told` fails. -/
def State.RecordsStand (s t : State) (told : Prop) : Prop :=
  ∀ g n, s.stations.find g = some n →
    ∃ r, t.stations.find g = some r ∧ r = { n with active := r.active } ∧ (¬told → r.active = n.active)

theorem State.RecordsStand.of_records {told : Prop} (h : t.stations.records = s.stations.records) : s.RecordsStand t told :=
  fun g n e => ⟨n, by unfold Stations.find at e ⊢; rw [h, e], rfl, fun _ => rfl⟩

theorem State.RecordsStand.trans {told : Prop} (h : s.RecordsStand t told) (k : t.RecordsStand u told) :
    s.RecordsStand u told := fun g n e => by
  obtain ⟨r, found, rest, flag⟩ := h g n e
  obtain ⟨r', found', rest', flag'⟩ := k g r found
  exact ⟨r', found', by rw [rest', rest], fun q => (flag' q).trans (flag q)⟩

theorem State.tellWatch_stands (s : State) (f : Nat) (x : TunerId) {told : Prop} (h : told) :
    s.RecordsStand (s.tellWatch f x) told := fun g n e => by
  have amends := Stations.update_amends { s.stations with watch := some (f, x) } f
    (g := fun r => { r with active := false }) (fun _ => rfl)
  by_cases own : g = f
  · subst own
    refine ⟨{ n with active := false }, amends.here.trans ?_, rfl, fun no => absurd h no⟩
    rw [show Stations.find { s.stations with watch := some (g, x) } g = some n from e]
    rfl
  · exact ⟨n, (amends.beside g own).trans e, rfl, fun _ => rfl⟩

theorem State.ensureStation_stands (f : Nat) (room : s.stations.records.length < 48 ∨ s.stations.find f ≠ none)
    {told : Prop} : s.RecordsStand (s.ensureStation f) told := by
  cases found : s.stations.find f with
  | some r =>
    rw [State.ensureStation_found found]
    exact .of_records rfl
  | none =>
    obtain ⟨-, others, -⟩ := State.ensureStation_room found (room.resolve_right (not_not.2 found))
    refine fun g n e => ⟨n, ?_, rfl, fun _ => rfl⟩
    rw [others g (fun same => by rw [same, found] at e; cases e), e]

/-- An insertion leaves the station change flag or sets it. -/
theorem State.ensureStation_station (f : Nat) (h : s.events.station = true) : (s.ensureStation f).events.station = true := by
  unfold State.ensureStation
  split
  · exact h
  · unfold State.insertStation
    split
    · rfl
    · unfold State.reportFull
      split
      · split
        · exact h
        · exact h
      · exact h

/-! ## A program moved (R77, R83) -/

/-- What a program's move leaves of the records and of the station change flag. -/
theorem State.moveProgram_stands (s : State) (x : TunerId) (k : RetuneKind) (dest : Nat) (confirm : Bool) :
    (s.stations.records.length < 48 ∨ s.stations.find dest ≠ none →
      s.RecordsStand (s.moveProgram x k dest confirm) ((s.tuner x).watch = true)) ∧
    (s.events.station = true → (s.moveProgram x k dest confirm).events.station = true) := by
  unfold State.moveProgram
  extract_lets t s1 s2 u s3 src s4
  have one : s1.stations.records = s.stations.records ∧ s1.events = s.events := by
    unfold s1
    split <;> exact ⟨rfl, rfl⟩
  have three : s3.stations = s2.stations ∧ s3.events = s2.events := ⟨State.setTuner_stations _ _ _, State.setTuner_events _ _ _⟩
  have four : s3.RecordsStand s4 (t.watch = true) ∧ s4.events = s3.events := by
    unfold s4
    split
    · rename_i watched
      exact ⟨State.tellWatch_stands { s3 with tuners.watch := some dest } dest x watched, rfl⟩
    · exact ⟨.of_records rfl, rfl⟩
  have five : (s4.holdStreak x).stations = s4.stations ∧ (s4.holdStreak x).events = s4.events :=
    ⟨s4.holdStreak_stations x, (s4.holdStreak_applies x).events⟩
  refine ⟨fun room => ?_, fun h => ?_⟩
  · let v : State := { s1 with stations.inUse := dest :: s1.stations.inUse.filter (· ≠ dest) }
    have records : v.stations.records = s.stations.records := one.1
    have find : v.stations.find dest = s.stations.find dest := by
      unfold Stations.find
      rw [records]
    have joined : v.RecordsStand s2 (t.watch = true) :=
      State.ensureStation_stands (s := v) dest (by rw [records, find]; exact room)
    exact (((State.RecordsStand.of_records records).trans joined).trans
      ((State.RecordsStand.of_records (congrArg Stations.records three.1)).trans four.1)).trans
        (.of_records (congrArg Stations.records five.1))
  · have two : s2.events.station = true := State.ensureStation_station _ (by
      show s1.events.station = true
      rw [one.2]
      exact h)
    show (s4.holdStreak x).events.station = true
    rw [five.2, four.2, three.2]
    exact two

/-! ## The arbiter after a retune begins (R77) -/

theorem State.beginRetune_spec (s : State) (x : TunerId) (k : RetuneKind) :
    (s.beginRetune x k).tuner x = { s.tuner x with retune := some ⟨k, false⟩ } ∧
      (s.beginRetune x k).tuner (otherTuner x) = s.tuner (otherTuner x) ∧
      (s.beginRetune x k).tuners.watch = s.tuners.watch ∧ (s.beginRetune x k).stations = s.stations ∧
      (s.beginRetune x k).events.station = s.events.station := by
  let v := s.setTuner x { s.tuner x with retune := some ⟨k, false⟩ }
  let w := s.beginRetune x k
  have e : w = v.putRoutes (v.routes.map (fun r => if r.tuner = some x then r.fade else r)) := rfl
  have tuners : w.tuners = v.tuners := by rw [e, v.putRoutes_rest]
  have stations : w.stations = v.stations := by rw [e, v.putRoutes_rest]
  have station : w.events.station = v.events.station := by rw [e, v.putRoutes_rest]
  have same : ∀ y, w.tuner y = v.tuner y := fun y => by
    unfold State.tuner
    rw [tuners]
  refine ⟨(same x).trans (State.tuner_setTuner_same _ _ _), (same _).trans (State.tuner_setTuner_other _ _ _), ?_, ?_, ?_⟩
  · exact (congrArg Tuners.watch tuners).trans (State.setTuner_shared x _).1
  · exact stations.trans (State.setTuner_stations _ _ _)
  · exact station.trans (congrArg Events.station (State.setTuner_events _ _ _))

theorem RetuneKind.moves_switch (s : State) (x : TunerId) (dest : Nat) (confirm : Bool)
    (away : (s.tuner (otherTuner x)).holds dest = false) :
    s.beginTuning x (.switch dest confirm) = (s.notifyTuner x .retune).moveProgram x (.switch dest confirm) dest confirm :=
  if_neg (by rw [away]; decide)

theorem RetuneKind.moves_revert (s : State) (x : TunerId) (dest : Nat) (decoded : Option Nat)
    (away : (s.tuner (otherTuner x)).holds dest = false) :
    s.beginTuning x (.revert dest decoded) = (s.notifyTuner x .retune).moveProgram x (.revert dest decoded) dest false :=
  if_neg (by rw [away]; decide)

/-! ## What claims on FREE tuners leave of a tuner (R72 to R74) -/

/-- What claims on FREE tuners change of a tuner: its role, its work, and its search. -/
structure Tuner.Claimed (t u : Tuner) : Prop where
  rest : u = { t with
    role := u.role, partnerOf := u.partnerOf, activity := u.activity, check := u.check, scan := u.scan, search := u.search }
  search : t.search = none → u.search = none
  activity : u.activity = t.activity ∨ t.activity = .none ∨ t.activity = .scanStep

theorem Tuner.Claimed.refl (t : Tuner) : t.Claimed t := ⟨rfl, id, .inl rfl⟩

theorem Tuner.Claimed.trans {t u v : Tuner} (h : t.Claimed u) (k : u.Claimed v) : t.Claimed v where
  rest := by rw [k.rest, h.rest]
  search := fun e => k.search (h.search e)
  activity := by
    rcases h.activity with e | e
    · rw [← e]
      exact k.activity
    · exact .inr e

/-- Work in which every tuner is at most claimed. -/
def State.Claimed (s t : State) : Prop := ∀ y, (s.tuner y).Claimed (t.tuner y)

theorem State.Claimed.refl (s : State) : s.Claimed s := fun _ => .refl _

theorem State.Claimed.trans (h : s.Claimed t) (k : t.Claimed u) : s.Claimed u := fun y => (h y).trans (k y)

theorem State.setTuner_claimed {n : Tuner} (h : (s.tuner x).Claimed n) : s.Claimed (s.setTuner x n) :=
  forall_tuner x (by rw [State.tuner_setTuner_same]; exact h) (by rw [State.tuner_setTuner_other]; exact .refl _)

theorem State.Claimed.of_tuner (h : ∀ y, t.tuner y = s.tuner y) : s.Claimed t := fun y => by
  rw [h y]
  exact .refl _

theorem State.beginCheck_claimed (s : State) (x : TunerId) : s.Claimed (s.beginCheck x) := by
  unfold State.beginCheck
  extract_lets o
  split
  · split
    · rename_i searching free
      rw [Bool.and_eq_true, decide_eq_true_eq, decide_eq_true_eq] at free
      extract_lets s1 mine s2
      have one : s.Claimed s1 := State.setTuner_claimed ⟨rfl, fun e => absurd (searching.symm.trans e) nofun, .inl rfl⟩
      have beside : s1.tuner (otherTuner x) = o := State.tuner_setTuner_other _ _ _
      have two : s1.Claimed s2 := State.setTuner_claimed ⟨rfl, id, .inr (.inl (by rw [beside]; exact free.2))⟩
      exact (one.trans two).trans (.of_tuner (fun y => by cases y <;> rfl))
    · exact .refl s
  · exact .refl s

theorem State.cancelScan_claimed (s : State) (x : TunerId) : s.Claimed (s.cancelScan x) := by
  unfold State.cancelScan
  split
  · rename_i scans
    exact State.setTuner_claimed (s := { s with stations := s.stations.giveBack x }) (x := x) ⟨rfl, id, .inr (.inr scans)⟩
  · exact .refl s

theorem State.startPairing_claimed {m p : TunerId} (idle : (s.tuner p).activity = .none ∨ (s.tuner p).activity = .scanStep) :
    s.Claimed (s.startPairing m p) :=
  State.Claimed.trans (State.setTuner_claimed (x := p) (n := { s.tuner p with
    role := .partner, partnerOf := some m, activity := .partnerHold }) ⟨rfl, id, .inr idle⟩)
    (.of_tuner (fun y => by cases y <;> rfl))

theorem State.meetPartner_claimed (s : State) (m p : TunerId) : s.Claimed (s.meetPartner m p) := by
  have requested : s.Claimed { s with tuners.link := .requested } := .of_tuner (fun y => by cases y <;> rfl)
  unfold State.meetPartner
  split
  · rename_i idle
    exact State.startPairing_claimed (.inl idle)
  · rename_i scans
    split
    · have stopped : ((s.cancelScan p).tuner p).activity = .none := by
        unfold State.cancelScan
        rw [if_pos scans, State.tuner_setTuner_same]
      exact (s.cancelScan_claimed p).trans (State.startPairing_claimed (.inl stopped))
    · exact requested
  · exact requested

theorem State.settlePairing_claimed (s : State) : s.Claimed s.settlePairing := by
  unfold State.settlePairing
  split
  · split
    · exact s.meetPartner_claimed _ _
    · exact .refl s
  · split
    · exact s.meetPartner_claimed _ _
    · exact .of_tuner (fun y => by cases y <;> rfl)
  · exact .refl s

theorem State.assign_claimed (s : State) : s.Claimed s.assign :=
  ((s.beginCheck_claimed .t1).trans (State.beginCheck_claimed _ .t2)).trans (State.settlePairing_claimed _)

/-- Where no fade phase ends, and the tuner holds a program or no watch waits, the arbiter leaves it where it is. -/
theorem State.arbitrate_leaves (still : s.endFades = s) (kind : (s.tuner x).role = .program ∨ s.WatchSettled) :
    (s.arbitrate.tuner x).frequency = (s.tuner x).frequency ∧ (s.arbitrate.tuner x).retune = (s.tuner x).retune ∧
      (s.arbitrate.tuner x).oldFrequency = (s.tuner x).oldFrequency ∧
      ((s.tuner x).role = .program ∨ (s.tuner x).activity = .retune →
        (s.arbitrate.tuner x).activity = (s.tuner x).activity) := by
  by_cases program : (s.tuner x).role = .program
  · obtain ⟨rest, -, -⟩ := State.arbitrate_program still program
    rw [rest]
    exact ⟨rfl, rfl, rfl, fun _ => rfl⟩
  · have settled := kind.resolve_left program
    have claims : s.arbitrate = s.assign := by rw [State.arbitrate_eq, still, settled.reattachWatch]
    have claimed := s.assign_claimed x
    rw [claims]
    refine ⟨by rw [claimed.rest], by rw [claimed.rest], by rw [claimed.rest], fun moving => ?_⟩
    rcases claimed.activity with e | e
    · exact e
    · rw [moving.resolve_left program] at e
      simp at e

/-- A retune begun, once the arbiter has worked: its fade goes on, or the program has moved. -/
structure State.Retunes (s t : State) (x : TunerId) (k : RetuneKind) (dest : Nat) (tuning : Bool) : Prop where
  retune : (t.tuner x).retune = some ⟨k, tuning⟩
  tunes : tuning = true → (t.tuner x).frequency = some dest ∧ (t.tuner x).activity = .retune ∧
    (t.tuner x).oldFrequency = (if k.confirms then (s.tuner x).frequency else none) ∧
    t.events.flags.getLsbD 7 = true ∧ (s.WatchSettled → dest ∈ t.stations.inUse)
  fades : tuning = false → (t.tuner x).frequency = (s.tuner x).frequency ∧
    ((s.tuner x).role = .program → (t.tuner x).activity = (s.tuner x).activity)
  records : s.WatchSettled → s.stations.records.length < 48 ∨ s.stations.find dest ≠ none →
    s.RecordsStand t ((s.tuner x).watch = true)
  station : s.WatchSettled → s.events.station = true → t.events.station = true

/-- A state in which no fade phase ends and no watch waits keeps its records and its station change flag. -/
theorem State.arbitrate_kept (still : s.endFades = s) (settled : s.WatchSettled) :
    s.arbitrate.stations.records = s.stations.records ∧ s.arbitrate.stations.inUse = s.stations.inUse ∧
      s.arbitrate.events = s.events := by
  have yields := State.arbitrate_settled still settled
  refine ⟨yields.records, yields.inUse, ?_⟩
  rw [State.arbitrate_eq, still, settled.reattachWatch, State.assign_events]

theorem State.WatchSettled.moved (h : s.WatchSettled) {k : RetuneKind} {dest : Nat} {confirm : Bool}
    (moves : s.Moves u x k dest confirm) : u.WatchSettled := by
  have here : (u.tuner x).watch = (s.tuner x).watch := by rw [moves.tuner]
  by_cases watched : (s.tuner x).watch = true
  · have on : (u.tuner x).watch = true := here.trans watched
    cases x
    · exact .inr (.inl on)
    · exact .inr (.inr on)
  · refine h.ofTuners (by rw [moves.watch, if_neg watched]) (forall_tuner x here ?_)
    rw [moves.other]

theorem State.beginRetune_arbitrates {k : RetuneKind} {dest : Nat} (kind : (s.tuner x).role = .program ∨ s.WatchSettled)
    (other : (s.tuner (otherTuner x)).retune = none)
    (moves : ∀ u : State, (u.tuner (otherTuner x)).holds dest = false →
      u.beginTuning x k = (u.notifyTuner x .retune).moveProgram x k dest k.confirms)
    (away : (s.tuner (otherTuner x)).holds dest = false) :
    ∃ tuning, s.Retunes (s.beginRetune x k).arbitrate x k dest tuning := by
  obtain ⟨here, beside, watch, stations, station⟩ := s.beginRetune_spec x k
  have begun : (s.beginRetune x k).WatchSettled ↔ s.WatchSettled := by
    have flags : ∀ y, ((s.beginRetune x k).tuner y).watch = (s.tuner y).watch :=
      forall_tuner x (by rw [here]) (by rw [beside])
    exact ⟨fun h => h.ofTuners watch.symm (fun y => (flags y).symm), fun h => h.ofTuners watch flags⟩
  generalize s.beginRetune x k = w at *
  have fading : (w.tuner x).retune = some ⟨k, false⟩ := by rw [here]
  have otherStill : (w.tuner (otherTuner x)).retune = none := by rw [beside, other]
  by_cases done : w.fadeDone x = true
  · obtain ⟨ends, still⟩ := State.endFades_ends fading otherStill done
    rw [moves w (by rw [beside]; exact away)] at ends still
    have arbitrated : w.arbitrate = ((w.notifyTuner x .retune).moveProgram x k dest k.confirms).arbitrate := by
      rw [w.arbitrate_eq, State.arbitrate_eq, ends, still]
    have moved := (w.notifyTuner x .retune).moveProgram_moves x k dest k.confirms
    obtain ⟨stand, kept⟩ := (w.notifyTuner x .retune).moveProgram_stands x k dest k.confirms
    have settles : s.WatchSettled → ((w.notifyTuner x .retune).moveProgram x k dest k.confirms).WatchSettled := fun h => by
      refine State.WatchSettled.moved ?_ moved
      refine (begun.2 h).ofTuners ?_ (fun y => by rw [State.notifyTuner_tuner])
      rw [State.notifyTuner_tuners]
    have tunerN : (w.notifyTuner x .retune).tuner x = { s.tuner x with retune := some ⟨k, false⟩ } := by
      rw [State.notifyTuner_tuner, here]
    have stationsN : (w.notifyTuner x .retune).stations = s.stations :=
      ((State.notice_stakes w _ _).2.2).trans stations
    have stationN : (w.notifyTuner x .retune).events.station = s.events.station := by
      rw [(w.notifyTuner_frame x .retune).rest]
      exact station
    rw [tunerN, stationsN] at stand
    rw [stationN] at kept
    rw [arbitrated]
    have tuner := moved.tuner
    rw [tunerN] at tuner
    have joins := moved.joins
    have flag := moved.flag
    generalize (w.notifyTuner x .retune).moveProgram x k dest k.confirms = m at *
    obtain ⟨frequency, retune, origin, activity⟩ := State.arbitrate_leaves (s := m) (x := x) still
      (kind.imp (fun h => by rw [tuner]; exact h) settles)
    have moving : (m.tuner x).activity = .retune := by rw [tuner]
    have flags := (m.arbitrate_frame).flags
    refine ⟨true, ⟨by rw [retune, tuner], fun _ => ⟨by rw [frequency, tuner], (activity (.inr moving)).trans moving,
      by rw [origin, tuner], flag_stands flags flag, fun h => ?_⟩, nofun, fun h room => ?_, fun h set => ?_⟩⟩
    · rw [(State.arbitrate_kept still (settles h)).2.1]
      exact joins
    · have same : State.RecordsStand s w ((s.tuner x).watch = true) := .of_records (by rw [stations])
      refine State.RecordsStand.trans ?_ (.of_records (State.arbitrate_kept still (settles h)).1)
      intro g n e
      exact stand room g n (by rw [stationsN]; exact e)
    · rw [(State.arbitrate_kept still (settles h)).2.2]
      exact kept set
  · have still : w.endFades = w := State.endFades_waits (forall_tuner x
      (fun _ _ => Bool.eq_false_of_not_eq_true done) (fun l e => by rw [otherStill] at e; cases e))
    obtain ⟨frequency, retune, -, activity⟩ := State.arbitrate_leaves (x := x) still
      (kind.imp (fun h => by rw [here]; exact h) begun.2)
    rw [here] at frequency retune activity
    refine ⟨false, ⟨retune, nofun, fun _ => ⟨frequency, fun h => activity (.inl h)⟩, fun h _ => ?_,
      fun h set => ?_⟩⟩
    · exact .of_records ((State.arbitrate_kept still (begun.2 h)).1.trans (by rw [stations]))
    · rw [(State.arbitrate_kept still (begun.2 h)).2.2, station]
      exact set

end Sys2Proof.Machine
end

-- ==== support and settled obligations, part 68 ====
section
/-! SUPPORT. A search concluded, a program back from a candidate, and a confirmation that no code decides (R81 to R83). -/

namespace Sys2Proof.Machine

variable {s t u : State} {x : TunerId}

/-! ## A search concluded (R81, R82) -/

/-- A tuner's record with its search ended and the streak at 0. -/
def Tuner.searchOver (t : Tuner) : Tuner := { t with af := .idle, streak := 0, search := none }

/-- A tuner's search ended with the streak at 0. -/
def State.searchOver (s : State) (x : TunerId) : State := s.setTuner x (s.tuner x).searchOver

/-- A tuner's search taken out of its record, for its switch. -/
def State.searchless (s : State) (x : TunerId) : State := s.setTuner x { s.tuner x with search := none }

theorem State.concludeSearch_held {y : Nat × Nat} (held : (s.tuner (otherTuner x)).holds y.1 = true) (confirm : Bool) :
    s.concludeSearch x (some y) confirm = s.searchOver x := if_pos held

theorem State.concludeSearch_away {y : Nat × Nat} (away : (s.tuner (otherTuner x)).holds y.1 = false) (confirm : Bool) :
    s.concludeSearch x (some y) confirm = (s.searchless x).beginRetune x (.switch y.1 confirm) :=
  if_neg (by rw [away]; decide)

/-- A tuner's record replaced by one without a retune and with the same hold on the watch. -/
theorem State.NoRetune.setTuner {n : Tuner} (h : s.NoRetune) (a : n.retune = none) : (s.setTuner x n).NoRetune := by
  refine (State.noRetune_iff _).2 (forall_tuner x ?_ ?_)
  · rw [State.tuner_setTuner_same, a]
  · rw [State.tuner_setTuner_other]
    exact h.tuner _

theorem State.WatchSettled.setTuner {n : Tuner} (h : s.WatchSettled) (a : n.watch = (s.tuner x).watch) :
    (s.setTuner x n).WatchSettled := by
  refine h.ofTuners (State.setTuner_shared x n).1 (forall_tuner x ?_ ?_)
  · rw [State.tuner_setTuner_same, a]
  · rw [State.tuner_setTuner_other]

theorem State.searchOver_arbitrates (still : s.NoRetune) (settled : s.WatchSettled) :
    (s.tuner x).searchOver.Claimed ((s.searchOver x).arbitrate.tuner x) := by
  have quiet : (s.searchOver x).NoRetune := still.setTuner (still.tuner x)
  have calm : (s.searchOver x).WatchSettled := settled.setTuner rfl
  have claimed := (s.searchOver x).assign_claimed x
  rw [State.arbitrate_assigns quiet calm]
  rw [show (s.searchOver x).tuner x = (s.tuner x).searchOver from State.tuner_setTuner_same _ _ _] at claimed
  exact claimed

theorem State.concludeSearch_switches (kind : (s.tuner x).role = .program ∨ s.WatchSettled)
    (other : (s.tuner (otherTuner x)).retune = none)
    {y : Nat × Nat} (away : (s.tuner (otherTuner x)).holds y.1 = false) (confirm : Bool) :
    ∃ tuning, (s.searchless x).Retunes (s.concludeSearch x (some y) confirm).arbitrate x (.switch y.1 confirm) y.1 tuning := by
  rw [State.concludeSearch_away away]
  have here : (s.searchless x).tuner x = { s.tuner x with search := none } := State.tuner_setTuner_same _ _ _
  have beside : (s.searchless x).tuner (otherTuner x) = s.tuner (otherTuner x) := State.tuner_setTuner_other _ _ _
  exact State.beginRetune_arbitrates (kind.imp (fun h => by rw [here]; exact h) (fun h => h.setTuner rfl)) (by rw [beside]; exact other)
    (fun u gone => RetuneKind.moves_switch u x y.1 confirm gone) (by rw [beside]; exact away)

/-- A search without a candidate, or whose candidate the other tuner holds, is over at once. -/
theorem State.concluded_over (still : s.NoRetune) (settled : s.WatchSettled) {best : Option (Nat × Nat)}
    (gone : ∀ y, best = some y → (s.tuner (otherTuner x)).holds y.1 = true) (confirm : Bool) :
    (s.tuner x).searchOver.Claimed ((s.concludeSearch x best confirm).arbitrate.tuner x) := by
  have ended := State.searchOver_arbitrates (x := x) still settled
  cases best with
  | none => exact ended
  | some y =>
    rw [State.concludeSearch_held (gone y rfl)]
    exact ended

/-- What a search that is over leaves of a tuner that claims find at work. -/
theorem Tuner.Claimed.over_spec {t u : Tuner} (h : t.searchOver.Claimed u) (still : t.retune = none) :
    u.af = .idle ∧ u.streak = 0 ∧ u.search = none ∧ u.retune = none ∧ (t.activity = .dwell → u.activity = .dwell) := by
  refine ⟨by rw [h.rest]; rfl, by rw [h.rest]; rfl, h.search rfl, by rw [h.rest]; exact still, fun dwells => ?_⟩
  rcases h.activity with e | e
  · exact e.trans dwells
  · rw [show t.searchOver.activity = .dwell from dwells] at e
    simp at e

/-- The switch to a candidate that nobody holds: its fade, or the program moved. -/
theorem State.concluded_switches (still : s.NoRetune) (settled : s.WatchSettled)
    {y : Nat × Nat} (away : (s.tuner (otherTuner x)).holds y.1 = false) (confirm : Bool) :
    ∃ tuning, ((s.concludeSearch x (some y) confirm).arbitrate.tuner x).retune = some ⟨.switch y.1 confirm, tuning⟩ ∧
      (tuning = true →
        ((s.concludeSearch x (some y) confirm).arbitrate.tuner x).frequency = some y.1 ∧
        ((s.concludeSearch x (some y) confirm).arbitrate.tuner x).activity = .retune ∧
        ((s.concludeSearch x (some y) confirm).arbitrate.tuner x).oldFrequency =
          (if confirm then (s.tuner x).frequency else none) ∧
        y.1 ∈ (s.concludeSearch x (some y) confirm).arbitrate.stations.inUse ∧
        (s.concludeSearch x (some y) confirm).arbitrate.events.flags.getLsbD 7 = true) ∧
      (tuning = false →
        ((s.concludeSearch x (some y) confirm).arbitrate.tuner x).frequency = (s.tuner x).frequency ∧
        ((s.tuner x).role = .program →
          ((s.concludeSearch x (some y) confirm).arbitrate.tuner x).activity = (s.tuner x).activity)) := by
  obtain ⟨tuning, retunes⟩ := State.concludeSearch_switches (.inr settled) (still.tuner _) away confirm
  have mine : (s.searchless x).tuner x = { s.tuner x with search := none } := State.tuner_setTuner_same _ _ _
  have calm : (s.searchless x).WatchSettled := settled.setTuner rfl
  refine ⟨tuning, retunes.retune, fun tunes => ?_, fun fades => ?_⟩
  · obtain ⟨frequency, activity, origin, flag, joins⟩ := retunes.tunes tunes
    rw [mine] at origin
    exact ⟨frequency, activity, origin, joins calm, flag⟩
  · have kept := retunes.fades fades
    rw [mine] at kept
    exact kept

/-! ## A program back from a candidate (R82) -/

/-- The program back on its frequency, its record replaced, the measurement applied and the routes told. -/
def State.jumpedBack (s : State) (x : TunerId) (n : Tuner) (c : Nat) (m : Measurement) : State :=
  ((s.setTuner x n).refreshStation c m).notifyTuner x .available

theorem State.jumpedBack_tuner {n : Tuner} {c : Nat} {m : Measurement} (y : TunerId) :
    (s.jumpedBack x n c m).tuner y = (s.setTuner x n).tuner y := by
  unfold State.jumpedBack
  rw [State.notifyTuner_tuner, State.refreshStation_tuner]

theorem State.jumpedBack_noRetune {n : Tuner} {c : Nat} {m : Measurement} (a : n.retune = none)
    (other : (s.tuner (otherTuner x)).retune = none) : (s.jumpedBack x n c m).NoRetune := by
  refine (State.noRetune_iff _).2 (forall_tuner x ?_ ?_)
  · rw [State.jumpedBack_tuner, State.tuner_setTuner_same, a]
  · rw [State.jumpedBack_tuner, State.tuner_setTuner_other, other]

theorem State.WatchSettled.jumpedBack {n : Tuner} {c : Nat} {m : Measurement} (h : s.WatchSettled)
    (a : n.watch = (s.tuner x).watch) : (s.jumpedBack x n c m).WatchSettled := by
  refine (h.setTuner a).ofTuners ?_ (fun y => congrArg Tuner.watch (State.jumpedBack_tuner y))
  unfold State.jumpedBack
  rw [State.notifyTuner_tuners, State.refreshStation_tuners]

theorem State.jumpedBack_finds {n : Tuner} {c : Nat} {m : Measurement} {r : Station} (found : s.stations.find c = some r) :
    (s.jumpedBack x n c m).stations.find c = some (r.refresh m) := by
  have same : (s.setTuner x n).stations.find c = some r := by rw [State.setTuner_stations, found]
  have told : (s.jumpedBack x n c m).stations = ((s.setTuner x n).refreshStation c m).stations :=
    (State.notice_stakes ((s.setTuner x n).refreshStation c m) _ _).2.2
  rw [told, ((s.setTuner x n).refreshStation_amends c m).here, State.ensureStation_found same, same]
  rfl

/-- What stands of the program and of the other tuner once a jump is back. -/
theorem State.jumpedBack_spec {n : Tuner} {c : Nat} {m : Measurement} (a : n.retune = none)
    (other : (s.tuner (otherTuner x)).retune = none) (watch : n.watch = (s.tuner x).watch) (settled : s.WatchSettled) :
    (s.jumpedBack x n c m).tuner x = n ∧ (s.jumpedBack x n c m).tuner (otherTuner x) = s.tuner (otherTuner x) ∧
      (s.jumpedBack x n c m).NoRetune ∧ (s.jumpedBack x n c m).WatchSettled :=
  ⟨by rw [State.jumpedBack_tuner, State.tuner_setTuner_same], by rw [State.jumpedBack_tuner, State.tuner_setTuner_other],
    State.jumpedBack_noRetune a other, settled.jumpedBack watch⟩

/-- A program back from its candidate that settles: its record but for the watch and the search, and the candidate's. -/
theorem State.jumpedBack_arbitrates {n : Tuner} {c : Nat} {m : Measurement} (a : n.retune = none)
    (other : (s.tuner (otherTuner x)).retune = none) (watch : n.watch = (s.tuner x).watch) (settled : s.WatchSettled)
    (program : n.role = .program) : n.Stands ((s.jumpedBack x n c m).arbitrate.tuner x) ∧
      ∀ r, s.stations.find c = some r → (s.jumpedBack x n c m).arbitrate.stations.find c = some (r.refresh m) := by
  have still : (s.jumpedBack x n c m).NoRetune := State.jumpedBack_noRetune a other
  have here : (s.jumpedBack x n c m).tuner x = n := by rw [State.jumpedBack_tuner, State.tuner_setTuner_same]
  refine ⟨?_, fun r found => ?_⟩
  · have stands := State.arbitrate_program still.endFades (x := x) (by rw [here]; exact program)
    rw [here] at stands
    exact stands
  · have records := (State.arbitrate_kept still.endFades (settled.jumpedBack watch)).1
    rw [← State.jumpedBack_finds (x := x) (n := n) found]
    unfold Stations.find
    rw [records]

theorem State.goodEnough_iff (s : State) (x : TunerId) (q : Nat) : s.goodEnough x q = true ↔
    ∃ p, (s.tuner x).measurement = some p ∧ p.quality + s.tuners.policy.hysteresis ≤ q := by
  unfold State.goodEnough
  cases (s.tuner x).measurement with
  | none => simp
  | some p => simp

theorem State.qualifies_iff (s : State) (x : TunerId) (m : Measurement) : s.qualifies x m = true ↔
    m.area ≠ .iii ∧ ∃ p, (s.tuner x).measurement = some p ∧ p.quality + s.tuners.policy.hysteresis ≤ m.quality := by
  unfold State.qualifies
  rw [Bool.and_eq_true, State.goodEnough_iff, decide_eq_true_eq]

/-- The jump's end while candidates are left, or without a search of its own. -/
theorem State.selfAfJumpEnd_returns {c field multipath : Nat} (jumps : (s.tuner x).activity = .selfAfJump)
    (away : (s.tuner x).retune = some ⟨.jump c, true⟩)
    (left : ∀ cs found, (s.tuner x).search = some ⟨false, cs, found⟩ → cs ≠ []) :
    ∃ search, s.selfAfJumpEnd x field multipath = (s.jumpedBack x
      { s.tuner x with activity := .dwell, retune := none, search := search } c (s.measure field multipath .afCheck)).arbitrate := by
  unfold State.selfAfJumpEnd
  dsimp only
  rw [jumps, away]
  dsimp only
  split
  · rename_i rest found searching
    cases rest with
    | nil => exact absurd rfl (left [] found searching)
    | cons g rest => exact ⟨_, rfl⟩
  · exact ⟨(s.tuner x).search, rfl⟩

/-- The jump's end after the last candidate. -/
theorem State.selfAfJumpEnd_concludes {c field multipath : Nat} {found : List (Nat × Nat)}
    (jumps : (s.tuner x).activity = .selfAfJump) (away : (s.tuner x).retune = some ⟨.jump c, true⟩)
    (last : (s.tuner x).search = some ⟨false, [], found⟩) :
    s.selfAfJumpEnd x field multipath =
      ((s.jumpedBack x { s.tuner x with
          activity := .dwell, retune := none
          search := some ⟨false, [], foundWith found c (s.measure field multipath .afCheck)
            (s.qualifies x (s.measure field multipath .afCheck))⟩ } c (s.measure field multipath .afCheck)).concludeSearch x
        (bestCandidate (foundWith found c (s.measure field multipath .afCheck)
          (s.qualifies x (s.measure field multipath .afCheck)))) true).arbitrate := by
  unfold State.selfAfJumpEnd
  dsimp only
  rw [jumps, away]
  dsimp only
  rw [last]
  rfl

theorem State.exec_selfAfJumpEnd (works : s.Works) (field : Fin 121) (multipath : Fin 101) :
    exec (.selfAfJumpEnd x field multipath) s = .next (s.selfAfJumpEnd x field.val multipath.val) :=
  congrArg _ (s.unlessHeld_works works _)

theorem State.exec_afConfirmTimeout (works : s.Works) : exec (.afConfirmTimeout x) s = .next (s.afConfirmTimeout x) :=
  congrArg _ (s.unlessHeld_works works _)

/-! ## A switch that no code confirms (R83) -/

theorem State.confirm_away {old : Nat} {decoded : Option Nat} (other : decoded.isSome = true → decoded ≠ (s.tuner x).code)
    (origin : (s.tuner x).oldFrequency = some old) (away : (s.tuner (otherTuner x)).holds old = false) :
    s.confirm x decoded = s.beginRetune x (.revert old decoded) := by
  unfold State.confirm
  dsimp only
  rw [if_neg (by simpa using other), origin]
  dsimp only
  rw [if_neg (by rw [away]; decide)]

theorem State.confirm_held {old : Nat} {decoded : Option Nat} (other : decoded.isSome = true → decoded ≠ (s.tuner x).code)
    (origin : (s.tuner x).oldFrequency = some old) (held : (s.tuner (otherTuner x)).holds old = true) :
    s.confirm x decoded = s.setTuner x { s.tuner x with af := .idle, streak := 0, oldFrequency := none, code := decoded } := by
  unfold State.confirm
  dsimp only
  rw [if_neg (by simpa using other), origin]
  dsimp only
  rw [if_pos held]

theorem State.confirm_own {c : Nat} (own : (s.tuner x).code = some c) :
    s.confirm x (some c) = s.setTuner x { s.tuner x with af := .idle, streak := 0, oldFrequency := none } := by
  unfold State.confirm
  dsimp only
  rw [if_pos (by simp [own])]

theorem State.confirm_reverts {old : Nat} {decoded : Option Nat} (program : (s.tuner x).role = .program)
    (still : (s.tuner (otherTuner x)).retune = none) (other : decoded.isSome = true → decoded ≠ (s.tuner x).code)
    (origin : (s.tuner x).oldFrequency = some old) (away : (s.tuner (otherTuner x)).holds old = false) :
    ∃ tuning, s.Retunes (s.confirm x decoded).arbitrate x (.revert old decoded) old tuning := by
  rw [State.confirm_away other origin away]
  exact State.beginRetune_arbitrates (.inl program) still (fun u gone => RetuneKind.moves_revert u x old decoded gone) away

/-- A program's record replaced, with no retune: it stands while the arbiter works. -/
theorem State.setTuner_arbitrates {n : Tuner} (a : n.retune = none) (other : (s.tuner (otherTuner x)).retune = none)
    (program : n.role = .program) : n.Stands ((s.setTuner x n).arbitrate.tuner x) := by
  have still : (s.setTuner x n).NoRetune := by
    refine (State.noRetune_iff _).2 (forall_tuner x ?_ ?_)
    · rw [State.tuner_setTuner_same, a]
    · rw [State.tuner_setTuner_other, other]
  have stands := State.arbitrate_program still.endFades (x := x) (by rw [State.tuner_setTuner_same]; exact program)
  rw [State.tuner_setTuner_same] at stands
  exact stands

theorem Tuner.Stands.idle {t u : Tuner} (h : t.Stands u) (idle : t.af = .idle) : u.af = .idle := by
  rcases h.af with e | ⟨-, e⟩
  · rw [e, idle]
  · exact e

theorem Tuner.awaitsCode_iff (t : Tuner) : t.awaitsCode = true ↔ t.af = .confirming ∧ t.retune = none := by
  unfold Tuner.awaitsCode
  simp [Option.isNone_iff_eq_none]

end Sys2Proof.Machine
end

-- ==== support and settled obligations, part 69 ====
section
/-! SUPPORT. The first code a switch awaits (R83, R94), and the jumps and confirmations of self searches settled. -/

namespace Sys2Proof.Machine

variable {s t u : State} {x : TunerId}

/-! ## A code applied while a switch awaits it (R83, R94) -/

/-- While CONFIRMING in DWELL a program does not follow a record's new code. -/
theorem State.followCode_confirming (confirming : (s.tuner x).af = .confirming) (dwells : (s.tuner x).activity = .dwell)
    (still : s.NoRetune) (y : TunerId) (f c : Nat) : (s.followCode y f c).tuner x = s.tuner x := by
  by_cases own : y = x
  · subst own
    unfold State.followCode
    rw [if_neg (by simp [confirming])]
  · have other : x = otherTuner y := (otherTuner_of_ne (Ne.symm own)).symm
    have coded : ∀ n : Tuner, (s.setTuner y n).tuner x = s.tuner x := fun n => State.tuner_setTuner_ne (Ne.symm own) n
    unfold State.followCode
    extract_lets t s1
    split
    · split
      · have quiet : (s1.tuner y).retune = none := by
          rw [State.tuner_setTuner_same]
          exact still.tuner y
        unfold State.endSearch
        dsimp only
        rw [quiet]
        dsimp only
        rw [State.tuner_setTuner_ne (Ne.symm own)]
        split
        · unfold State.cancelCheck
          rw [if_neg (by rw [← other, coded, dwells]; decide), coded]
        · exact coded _
      · exact coded _
    · rfl

theorem State.holdStreak_tuner (s : State) (x y : TunerId) :
    (s.holdStreak y).tuner x = { s.tuner x with streak := ((s.holdStreak y).tuner x).streak } := by
  obtain ⟨own, other, -⟩ := s.holdStreak_spec y
  exact forall_tuner y (P := fun x => (s.holdStreak y).tuner x = { s.tuner x with streak := ((s.holdStreak y).tuner x).streak })
    own (by rw [other]) x

/-- A code applied to a record leaves a program that awaits one as it was, but for its streak. -/
theorem State.applyCode_confirming (nobody : s.tuners.waiting = []) (still : s.NoRetune)
    (confirming : (s.tuner x).af = .confirming) (dwells : (s.tuner x).activity = .dwell) (f c : Nat) :
    (s.applyCode f c).tuner x = { s.tuner x with streak := ((s.applyCode f c).tuner x).streak } := by
  unfold State.applyCode
  split
  · rfl
  · split
    · rfl
    · extract_lets s1 s2
      let v : State := { s with stations := s.stations.update f (Station.withCode c) }
      have told : s1 = v := State.notifyCode_nobody (s := v) nobody c
      have same : s1.tuner x = s.tuner x := by
        rw [told]
        cases x <;> rfl
      have quiet : s1.NoRetune := by
        rw [told]
        exact still
      have one : (s1.followCode .t1 f c).tuner x = s.tuner x :=
        (State.followCode_confirming (by rw [same]; exact confirming) (by rw [same]; exact dwells) quiet _ f c).trans same
      have two : s2.tuner x = s.tuner x :=
        (State.followCode_confirming (by rw [one]; exact confirming) (by rw [one]; exact dwells)
          ((State.followCode_applies quiet _ f c).noRetune quiet) _ f c).trans one
      rw [State.holdStreak_tuner (s2.holdStreak .t1), State.holdStreak_tuner s2, two]

theorem Tuner.Applied.holds {a b : Tuner} (h : a.Applied b) (f : Nat) : b.holds f = a.holds f := by
  rw [h.rest]
  rfl

theorem Station.withCode_code (c : Nat) (r : Station) : (r.withCode c).code = some c := by
  rw [Station.withCode_eq]
  split
  · rename_i same
    exact same
  · split <;> rfl

/-! ## The confirmation decided (R83) -/

/-- The records stand while a confirmation is decided, where the record of the old frequency has room. -/
theorem State.confirm_records {old : Nat} {decoded : Option Nat} (still : s.NoRetune) (settled : s.WatchSettled)
    (program : (s.tuner x).role = .program) (origin : (s.tuner x).oldFrequency = some old)
    (room : s.stations.records.length < 48 ∨ s.stations.find old ≠ none) :
    s.RecordsStand (s.confirm x decoded).arbitrate ((s.tuner x).watch = true) := by
  have kept : ∀ n : Tuner, n.retune = none → n.watch = (s.tuner x).watch →
      s.RecordsStand (s.setTuner x n).arbitrate ((s.tuner x).watch = true) := fun n a b => by
    have stays := (State.arbitrate_kept (still.setTuner a).endFades (settled.setTuner b)).1
    exact .of_records (stays.trans (by rw [State.setTuner_stations]))
  by_cases own : decoded.isSome = true ∧ decoded = (s.tuner x).code
  · unfold State.confirm
    dsimp only
    rw [if_pos (by simpa using own)]
    exact kept _ (still.tuner x) rfl
  · have other : decoded.isSome = true → decoded ≠ (s.tuner x).code := fun a b => own ⟨a, b⟩
    by_cases held : (s.tuner (otherTuner x)).holds old = true
    · rw [State.confirm_held other origin held]
      exact kept _ (still.tuner x) rfl
    · obtain ⟨tuning, retunes⟩ := State.confirm_reverts program (still.tuner _) other origin (Bool.eq_false_of_not_eq_true held)
      exact retunes.records settled room

/-- What a decoded code makes of a switch: confirmed by the program's own, else reverted, or left without a confirmation. -/
theorem State.confirm_decided {c old : Nat} (still : s.NoRetune) (program : (s.tuner x).role = .program)
    (origin : (s.tuner x).oldFrequency = some old) :
    let t := (s.confirm x (some c)).arbitrate
    ((s.tuner x).code = some c →
      (t.tuner x).af = .idle ∧ (t.tuner x).streak = 0 ∧ (t.tuner x).oldFrequency = none ∧ (t.tuner x).retune = none ∧
      (t.tuner x).code = some c ∧ (t.tuner x).frequency = (s.tuner x).frequency) ∧
    ((s.tuner x).code ≠ some c → (s.tuner (otherTuner x)).holds old = true →
      (t.tuner x).af = .idle ∧ (t.tuner x).streak = 0 ∧ (t.tuner x).code = some c ∧ (t.tuner x).retune = none ∧
      (t.tuner x).frequency = (s.tuner x).frequency) ∧
    ((s.tuner x).code ≠ some c → (s.tuner (otherTuner x)).holds old = false →
      ∃ tuning, (t.tuner x).retune = some ⟨.revert old (some c), tuning⟩ ∧
        (tuning = true → (t.tuner x).frequency = some old ∧ (t.tuner x).activity = .retune ∧
          t.events.flags.getLsbD 7 = true) ∧
        (tuning = false → (t.tuner x).frequency = (s.tuner x).frequency ∧ (t.tuner x).activity = (s.tuner x).activity)) := by
  intro t
  have stays : ∀ n : Tuner, n.retune = none → n.role = .program → n.Stands ((s.setTuner x n).arbitrate.tuner x) :=
    fun n a b => State.setTuner_arbitrates a (still.tuner _) b
  refine ⟨fun same => ?_, fun differs held => ?_, fun differs gone => ?_⟩
  · have e : t = (s.setTuner x { s.tuner x with af := .idle, streak := 0, oldFrequency := none }).arbitrate :=
      congrArg State.arbitrate (State.confirm_own same)
    have stands := stays { s.tuner x with af := .idle, streak := 0, oldFrequency := none } (still.tuner x) program
    rw [← e] at stands
    refine ⟨stands.idle rfl, by rw [stands.rest], by rw [stands.rest], ?_, ?_, by rw [stands.rest]⟩
    · rw [stands.rest]
      exact still.tuner x
    · rw [stands.rest]
      exact same
  · have e : t = (s.setTuner x { s.tuner x with af := .idle, streak := 0, oldFrequency := none, code := some c }).arbitrate :=
      congrArg State.arbitrate (State.confirm_held (fun _ same => differs same.symm) origin held)
    have stands := stays { s.tuner x with af := .idle, streak := 0, oldFrequency := none, code := some c } (still.tuner x) program
    rw [← e] at stands
    refine ⟨stands.idle rfl, by rw [stands.rest], by rw [stands.rest], ?_, by rw [stands.rest]⟩
    rw [stands.rest]
    exact still.tuner x
  · obtain ⟨tuning, retunes⟩ := State.confirm_reverts program (still.tuner _) (fun _ same => differs same.symm) origin gone
    refine ⟨tuning, retunes.retune, fun tunes => ?_, fun fades => ?_⟩
    · obtain ⟨frequency, activity, -, flag, -⟩ := retunes.tunes tunes
      exact ⟨frequency, activity, flag⟩
    · obtain ⟨frequency, activity⟩ := retunes.fades fades
      exact ⟨frequency, activity program⟩

/-- The first code decoded while a switch awaits one. -/
theorem State.dataItem_confirms {f : Nat} {c : BitVec 16} (program : (s.tuner x).role = .program)
    (dwells : (s.tuner x).activity = .dwell) (on : (s.tuner x).frequency = some f) (awaits : (s.tuner x).awaitsCode = true)
    (code : c ≠ 0) : s.dataItem x (.programCode c) = ((s.applyCode f c.toNat).confirm x (some c.toNat)).arbitrate := by
  have applied : s.applyItem f (.programCode c) = s.applyCode f c.toNat := if_neg code
  have confirmed : s.programItem x f (.programCode c) = (s.applyItem f (.programCode c)).confirm x (some c.toNat) :=
    if_pos (by
      rw [Bool.and_eq_true]
      exact ⟨awaits, decide_eq_true code⟩)
  unfold State.dataItem
  dsimp only
  rw [dwells, on]
  dsimp only
  rw [if_pos program, confirmed, applied]

theorem State.exec_dataItem (works : s.Works) (i : DataItem) : exec (.dataItemDecoded x i) s = .next (s.dataItem x i) :=
  congrArg _ (s.unlessHeld_works works _)

/-- The state once the awaited code is applied to the record of the program's frequency. -/
structure State.Decoded (s u : State) (x : TunerId) (f c : Nat) : Prop where
  applies : s.Applies u
  amends : s.stations.Amends u.stations f (Station.withCode c)
  tuner : u.tuner x = { s.tuner x with streak := (u.tuner x).streak }

theorem State.Decoded.room {f c old : Nat} (h : s.Decoded u x f c)
    (room : s.stations.records.length < 48 ∨ s.stations.find old ≠ none) :
    u.stations.records.length < 48 ∨ u.stations.find old ≠ none := by
  rcases room with few | found
  · have same := congrArg List.length h.amends.names
    rw [List.length_map, List.length_map] at same
    exact .inl (by omega)
  · refine .inr ?_
    by_cases own : old = f
    · rw [own, h.amends.here]
      rw [own] at found
      simpa using found
    · rw [h.amends.beside old own]
      exact found

theorem State.applyCode_decoded (nobody : s.tuners.waiting = []) (still : s.NoRetune)
    (confirming : (s.tuner x).af = .confirming) (dwells : (s.tuner x).activity = .dwell) (f c : Nat) :
    s.Decoded (s.applyCode f c) x f c := by
  obtain ⟨applies, amends⟩ := State.applyCode_applies nobody still f c
  exact ⟨applies, amends, State.applyCode_confirming nobody still confirming dwells f c⟩

/-- Settles O44: the jump's end by what concludes its search, and each confirmation by where it leads. -/
theorem jumpEndsAndUnconfirmedSwitchesRevert : Obligations.JumpEndsAndUnconfirmedSwitchesRevert := by
  unfold Obligations.JumpEndsAndUnconfirmedSwitchesRevert
  intro s x works other program
  refine ⟨?returns, ?concludes, ?reverts, ?stays, ?decodes, ?idles⟩
  case returns =>
    intro c field multipath jumps away settled left
    obtain ⟨search, ends⟩ := State.selfAfJumpEnd_returns (field := field.val) (multipath := multipath.val) jumps away left
    let n : Tuner := { s.tuner x with activity := .dwell, retune := none, search := search }
    obtain ⟨stands, records⟩ := State.jumpedBack_arbitrates (n := n) (c := c)
      (m := s.measure field.val multipath.val .afCheck) rfl other rfl settled program
    refine ⟨_, State.exec_selfAfJumpEnd works field multipath, (s.selfAfJumpEnd_frame x _ _).work, ?_⟩
    rw [ends]
    exact ⟨by rw [stands.rest], by rw [stands.rest], by rw [stands.rest], fun r found => records r found⟩
  case concludes =>
    intro c field multipath found fs jumps away settled last m qualifies yes no
    have collected : foundWith found c m (s.qualifies x m) = fs := by
      by_cases q : s.qualifies x m = true
      · rw [yes ((s.qualifies_iff x m).1 q)]
        exact if_pos q
      · rw [no (fun k => q ((s.qualifies_iff x m).2 k))]
        exact if_neg q
    let n : Tuner := { s.tuner x with activity := .dwell, retune := none, search := some ⟨false, [], fs⟩ }
    have ends : s.selfAfJumpEnd x field.val multipath.val =
        ((s.jumpedBack x n c m).concludeSearch x (bestCandidate fs) true).arbitrate := by
      rw [State.selfAfJumpEnd_concludes jumps away last, collected]
    obtain ⟨here, beside, still, calm⟩ := State.jumpedBack_spec (n := n) (c := c) (m := m) rfl other rfl settled
    refine ⟨_, State.exec_selfAfJumpEnd works field multipath, (s.selfAfJumpEnd_frame x _ _).work, ?_⟩
    rw [ends]
    generalize s.jumpedBack x n c m = v at here beside still calm
    refine ⟨fun empty => ?_, fun before y later parts lower upper => ⟨fun held => ?_, fun gone => ?_⟩⟩
    · obtain ⟨af, streak, search, retune, activity⟩ :=
        (State.concluded_over (x := x) still calm (best := bestCandidate fs) (by rw [empty]; exact nofun) true).over_spec (still.tuner x)
      exact ⟨af, streak, search, activity (by rw [here]), retune⟩
    · have best : bestCandidate fs = some y := by rw [parts, bestCandidate_split before later y lower upper]
      obtain ⟨af, streak, -, retune, -⟩ := (State.concluded_over (x := x) still calm (best := bestCandidate fs)
        (by rw [best, beside]; rintro _ ⟨⟩; exact held) true).over_spec (still.tuner x)
      exact ⟨af, streak, retune⟩
    · rw [parts, bestCandidate_split before later y lower upper]
      obtain ⟨tuning, retune, tunes, fades⟩ := State.concluded_switches (x := x) still calm (y := y) (by rw [beside]; exact gone) true
      rw [here] at tunes fades
      exact ⟨tuning, retune, tunes, fun fading => (fades fading).imp_right (fun h => h program)⟩
  case reverts =>
    intro old confirming still origin away
    have awaits := ((s.tuner x).awaitsCode_iff).2 ⟨confirming, still⟩
    obtain ⟨tuning, retunes⟩ := State.confirm_reverts (decoded := none) program other (by simp) origin away
    refine ⟨_, tuning, State.exec_afConfirmTimeout works, (s.afConfirmTimeout_frame x).work, ?_⟩
    rw [State.afConfirmTimeout, if_pos awaits]
    refine ⟨retunes.retune, fun tunes => ?_⟩
    obtain ⟨frequency, activity, -, flag, -⟩ := retunes.tunes tunes
    exact ⟨frequency, activity, flag⟩
  case stays =>
    intro old confirming still origin held
    have awaits := ((s.tuner x).awaitsCode_iff).2 ⟨confirming, still⟩
    let n : Tuner := { s.tuner x with af := .idle, streak := 0, oldFrequency := none, code := none }
    have stands := State.setTuner_arbitrates (n := n) still other program
    refine ⟨_, State.exec_afConfirmTimeout works, (s.afConfirmTimeout_frame x).work, ?_⟩
    rw [State.afConfirmTimeout, if_pos awaits, State.confirm_held (by simp) origin held]
    exact ⟨stands.idle rfl, by rw [stands.rest], by rw [stands.rest], by rw [stands.rest]; exact still, by rw [stands.rest]⟩
  case decodes =>
    intro old f c confirming still origin dwells on code nobody
    have awaits := ((s.tuner x).awaitsCode_iff).2 ⟨confirming, still⟩
    have quiet : s.NoRetune := s.noRetune_iff.2 (forall_tuner x still other)
    have decoded := State.applyCode_decoded nobody quiet confirming dwells f c.toNat
    have ends := State.dataItem_confirms program dwells on awaits code
    have frame : TunerFrame s (s.dataItem x (.programCode c)) := by
      rw [ends]
      exact ((s.applyCode_frame f c.toNat).trans (State.confirm_frame _ _ _)).trans (State.arbitrate_frame _)
    refine ⟨_, State.exec_dataItem works _, frame.work, ?_⟩
    rw [ends]
    generalize s.applyCode f c.toNat = u at decoded
    have beside : ∀ g, (u.tuner (otherTuner x)).holds g = (s.tuner (otherTuner x)).holds g := (decoded.applies.tuners _).holds
    have calm : u.NoRetune := decoded.applies.noRetune quiet
    have master : (u.tuner x).role = .program := by rw [decoded.tuner]; exact program
    have past : (u.tuner x).oldFrequency = some old := by rw [decoded.tuner]; exact origin
    have kept : (u.tuner x).frequency = some f ∧ (u.tuner x).code = (s.tuner x).code ∧ (u.tuner x).activity = .dwell := by
      rw [decoded.tuner]
      exact ⟨on, rfl, dwells⟩
    obtain ⟨own, held, away⟩ := State.confirm_decided (c := c.toNat) calm master past
    rw [kept.1, kept.2.1] at own
    rw [kept.1, kept.2.1, beside] at held
    rw [kept.1, kept.2.1, kept.2.2, beside] at away
    refine ⟨fun settled room r found => ?_, own, held, away⟩
    have coded : u.stations.find f = some (r.withCode c.toNat) := by rw [decoded.amends.here, found]; rfl
    obtain ⟨n, there, rest, -⟩ := State.confirm_records (decoded := some c.toNat) calm (decoded.applies.watchSettled settled)
      master past (decoded.room room) f _ coded
    exact ⟨n, there, by rw [rest]; exact r.withCode_code _⟩
  case idles =>
    intro no
    rw [State.exec_afConfirmTimeout works]
    refine congrArg _ (if_neg (fun awaits => ?_))
    obtain ⟨confirming, still⟩ := ((s.tuner x).awaitsCode_iff).1 awaits
    rcases no with no | no
    · exact no confirming
    · exact no still

end Sys2Proof.Machine
end

-- ==== support and settled obligations, part 70 ====
section
/-! SUPPORT. No check gains a measurement while a check's results are handed on and the arbiter works (R81, R84). -/

namespace Sys2Proof.Machine

variable {s t u : State} {x : TunerId}

/-- Each measured check of the second state was one of the first. -/
def State.Unmeasured (s t : State) : Prop :=
  ∀ y k m, (t.tuner y).check = some ⟨k, some m⟩ → (s.tuner y).check = some ⟨k, some m⟩

namespace State.Unmeasured

theorem refl (s : State) : s.Unmeasured s := fun _ _ _ h => h

theorem trans (h : s.Unmeasured t) (k : t.Unmeasured u) : s.Unmeasured u := fun y c m e => h y c m (k y c m e)

/-- Work that leaves each check as it is. -/
theorem same (h : ∀ y, (t.tuner y).check = (s.tuner y).check) : s.Unmeasured t := fun y k m e => by
  rw [← h y]
  exact e

theorem of_tuners (h : t.tuners = s.tuners) : s.Unmeasured t := same (fun y => by
  unfold State.tuner
  rw [h])

theorem setTuner {n : Tuner} (h : ∀ k m, n.check = some ⟨k, some m⟩ → (s.tuner x).check = some ⟨k, some m⟩) :
    s.Unmeasured (s.setTuner x n) :=
  forall_tuner x (by rw [State.tuner_setTuner_same]; exact h) (by rw [State.tuner_setTuner_other]; exact fun _ _ e => e)

theorem kept {n : Tuner} (h : n.check = (s.tuner x).check) : s.Unmeasured (s.setTuner x n) :=
  setTuner (fun _ _ e => h ▸ e)

/-- Work after a record replaced by one with the same check. -/
theorem after {n : Tuner} (k : (s.setTuner x n).Unmeasured u) (h : n.check = (s.tuner x).check) : s.Unmeasured u :=
  (kept h).trans k

theorem gone {n : Tuner} (h : n.check = none) : s.Unmeasured (s.setTuner x n) :=
  setTuner (fun k m e => by rw [h] at e; cases e)

theorem folded {α : Type} {f : State → α → State} (h : ∀ (t : State) a, t.Unmeasured (f t a)) (xs : List α) (s : State) :
    s.Unmeasured (xs.foldl f s) := by
  induction xs generalizing s with
  | nil => exact refl s
  | cons a xs ih => exact (h s a).trans (ih _)

end State.Unmeasured

section
open State.Unmeasured

/-! ## Work given up and tuners taken (R65, R66, R76) -/

theorem State.cancelCheck_unmeasured (s : State) (x : TunerId) : s.Unmeasured (s.cancelCheck x) := by
  unfold State.cancelCheck
  split
  · exact gone rfl
  · exact .refl s

theorem State.cancelScan_unmeasured (s : State) (x : TunerId) : s.Unmeasured (s.cancelScan x) := by
  unfold State.cancelScan
  split
  · exact kept (s := { s with stations := s.stations.giveBack x }) rfl
  · exact .refl s

theorem State.abortSearchBy_unmeasured (s : State) (x : TunerId) : s.Unmeasured (s.abortSearchBy x) := by
  unfold State.abortSearchBy
  dsimp only
  split
  · split
    · exact kept rfl
    · exact .refl s
  · exact .refl s

theorem State.unpair_unmeasured (s : State) : s.Unmeasured s.unpair := same (fun y => by
  rw [State.unpair_tuner]
  unfold Tuner.unpartnered
  split <;> rfl)

theorem State.joinInUse_unmeasured (s : State) (f : Nat) : s.Unmeasured (s.joinInUse f) := of_tuners (State.joinInUse_tuners f)

theorem State.takeTuner_unmeasured (s : State) (x : TunerId) (f users : Nat) (watch : Bool) :
    s.Unmeasured (s.takeTuner x f users watch) := by
  unfold State.takeTuner
  extract_lets s1 s2 s3 s4 code
  have one : s.Unmeasured s1 := ((s.cancelScan_unmeasured x).trans (State.cancelCheck_unmeasured _ x)).trans
    (State.abortSearchBy_unmeasured _ x)
  have two : s1.Unmeasured s2 := by
    unfold s2
    split
    · exact .refl s1
    · exact s1.unpair_unmeasured
  have three : s2.Unmeasured s3 := by
    unfold s3
    split
    · exact of_tuners rfl
    · exact .refl s2
  exact (((one.trans two).trans three).trans (s3.joinInUse_unmeasured f)).trans (gone rfl)

theorem State.dropWatch_unmeasured (s : State) (x : TunerId) : s.Unmeasured (s.dropWatch x) :=
  State.Unmeasured.trans (kept (x := x) (n := { s.tuner x with watch := false }) rfl) (of_tuners (by simp [State.dropWatch]))

theorem State.share_unmeasured (s : State) (x : TunerId) : s.Unmeasured (s.share x).1 := kept rfl

theorem State.claim_unmeasured (s : State) (f : Nat) : s.Unmeasured (s.claim f).1 := by
  unfold State.claim
  split
  · exact s.share_unmeasured _
  · split
    · exact s.takeTuner_unmeasured _ _ _ _
    · split
      · exact s.takeTuner_unmeasured _ _ _ _
      · split
        · exact (s.dropWatch_unmeasured _).trans (State.takeTuner_unmeasured _ _ _ _ _)
        · split
          · exact (s.dropWatch_unmeasured _).trans (State.takeTuner_unmeasured _ _ _ _ _)
          · exact .refl s

theorem State.claimCode_unmeasured (s : State) (c : Nat) : s.Unmeasured (s.claimCode c).1 := by
  unfold State.claimCode
  split
  · exact s.share_unmeasured _
  · exact s.claim_unmeasured _
  · exact .refl s

theorem State.dropWaiting_unmeasured (s : State) (h : Handle) : s.Unmeasured (s.dropWaiting h) :=
  same (fun y => by cases y <;> rfl)

theorem State.tryWaiting_unmeasured (s : State) (w : Waiting) : s.Unmeasured (s.tryWaiting w) := by
  unfold State.tryWaiting
  split
  · have claimed := s.claimCode_unmeasured w.code
    split
    · rename_i v y c e
      rw [e] at claimed
      exact (claimed.trans (State.dropWaiting_unmeasured v _)).trans (of_tuners (State.notice_stakes _ _ _).2.1)
    · exact .refl s
  · exact s.dropWaiting_unmeasured _

theorem State.notifyCode_unmeasured (s : State) (c : Nat) : s.Unmeasured (s.notifyCode c) :=
  folded State.tryWaiting_unmeasured _ s

/-! ## Codes and measurements applied (R84, R90, R94) -/

theorem State.notifyTuner_unmeasured (s : State) (x : TunerId) (c : Condition) : s.Unmeasured (s.notifyTuner x c) :=
  of_tuners (State.notifyTuner_tuners x c)

theorem State.abandonRetune_unmeasured (s : State) (x : TunerId) : s.Unmeasured (s.abandonRetune x) :=
  after (State.notifyTuner_unmeasured _ x _) rfl

theorem State.endSearch_unmeasured (s : State) (x : TunerId) : s.Unmeasured (s.endSearch x) := by
  unfold State.endSearch
  extract_lets t s1 mine s2
  have one : s.Unmeasured s1 := by
    unfold s1
    split
    · exact s.cancelCheck_unmeasured _
    · exact .refl s
  have two : s.Unmeasured s2 := one.trans (kept rfl)
  split
  · exact two.trans (s2.abandonRetune_unmeasured x)
  · exact two

theorem State.followCode_unmeasured (s : State) (x : TunerId) (f c : Nat) : s.Unmeasured (s.followCode x f c) := by
  have coded : s.Unmeasured (s.setTuner x { s.tuner x with code := some c }) := kept rfl
  unfold State.followCode
  dsimp only
  split
  · split
    · exact coded.trans (State.endSearch_unmeasured _ x)
    · exact coded
  · exact .refl s

theorem State.holdStreak_unmeasured (s : State) (x : TunerId) : s.Unmeasured (s.holdStreak x) :=
  same (fun y => by rw [State.holdStreak_tuner])

theorem State.applyCode_unmeasured (s : State) (f c : Nat) : s.Unmeasured (s.applyCode f c) := by
  unfold State.applyCode
  split
  · exact .refl s
  · split
    · exact .refl s
    · have coded : s.Unmeasured { s with stations := s.stations.update f (Station.withCode c) } := of_tuners rfl
      exact ((((coded.trans (State.notifyCode_unmeasured _ c)).trans (State.followCode_unmeasured _ .t1 f c)).trans
        (State.followCode_unmeasured _ .t2 f c)).trans (State.holdStreak_unmeasured _ .t1)).trans
          (State.holdStreak_unmeasured _ .t2)

theorem State.handOver_unmeasured (s : State) (c : Nat) (m : Measurement) (code : Option Nat) :
    s.Unmeasured (s.handOver c m code) := by
  have refreshed : s.Unmeasured (s.refreshStation c m) := of_tuners (s.refreshStation_tuners c m)
  unfold State.handOver
  dsimp only
  split
  · exact refreshed.trans (State.applyCode_unmeasured _ c _)
  · exact refreshed

/-! ## Searches concluded and the arbiter (R69 to R77, R81) -/

theorem State.beginRetune_unmeasured (s : State) (x : TunerId) (k : RetuneKind) : s.Unmeasured (s.beginRetune x k) := by
  obtain ⟨here, beside, -⟩ := s.beginRetune_spec x k
  exact same (forall_tuner x (by rw [here]) (by rw [beside]))

theorem State.concludeSearch_unmeasured (s : State) (x : TunerId) (best : Option (Nat × Nat)) (confirm : Bool) :
    s.Unmeasured (s.concludeSearch x best confirm) := by
  unfold State.concludeSearch
  split
  · split
    · exact kept rfl
    · exact after (State.beginRetune_unmeasured _ x _) rfl
  · exact kept rfl

theorem State.moveProgram_unmeasured (s : State) (x : TunerId) (k : RetuneKind) (dest : Nat) (confirm : Bool) :
    s.Unmeasured (s.moveProgram x k dest confirm) := by
  have moves := s.moveProgram_moves x k dest confirm
  exact same (forall_tuner x (by rw [moves.tuner]) (by rw [moves.other]))

theorem State.beginTuning_unmeasured (s : State) (x : TunerId) (k : RetuneKind) : s.Unmeasured (s.beginTuning x k) := by
  have told := s.notifyTuner_unmeasured x .retune
  unfold State.beginTuning
  cases k with
  | jump c => exact told.trans (kept rfl)
  | switch dest confirm =>
    dsimp only
    split
    · exact after (State.abandonRetune_unmeasured _ x) rfl
    · exact told.trans (State.moveProgram_unmeasured _ x _ _ _)
  | revert dest decoded =>
    dsimp only
    split
    · exact after (State.abandonRetune_unmeasured _ x) rfl
    · exact told.trans (State.moveProgram_unmeasured _ x _ _ _)

theorem State.endFade_unmeasured (s : State) (x : TunerId) : s.Unmeasured (s.endFade x) := by
  unfold State.endFade
  split
  · split
    · exact s.beginTuning_unmeasured x _
    · exact .refl s
  · exact .refl s

theorem State.tellWatch_unmeasured (s : State) (f : Nat) (x : TunerId) : s.Unmeasured (s.tellWatch f x) := of_tuners rfl

theorem State.reattachWatch_unmeasured (s : State) : s.Unmeasured s.reattachWatch := by
  have taken : ∀ x f, s.Unmeasured (s.takeForWatch x f) := fun x f =>
    (s.takeTuner_unmeasured x f 0 true).trans (State.tellWatch_unmeasured _ f x)
  unfold State.reattachWatch
  split
  · exact .refl s
  · split
    · exact .refl s
    · split
      · exact after (State.tellWatch_unmeasured _ _ _) rfl
      · split
        · exact taken .t1 _
        · split
          · exact taken .t2 _
          · exact .refl s

theorem State.beginCheck_unmeasured (s : State) (x : TunerId) : s.Unmeasured (s.beginCheck x) := by
  unfold State.beginCheck
  extract_lets o
  split
  · split
    · extract_lets s1 mine s2
      have one : s.Unmeasured s1 := kept rfl
      have two : s1.Unmeasured s2 := State.Unmeasured.setTuner (fun k m e => by cases e)
      exact (one.trans two).trans (same (fun y => by cases y <;> rfl))
    · exact .refl s
  · exact .refl s

theorem State.startPairing_unmeasured (s : State) (m p : TunerId) : s.Unmeasured (s.startPairing m p) :=
  State.Unmeasured.trans (kept (x := p) (n := { s.tuner p with
    role := .partner, partnerOf := some m, activity := .partnerHold }) rfl) (same (fun y => by cases y <;> rfl))

theorem State.meetPartner_unmeasured (s : State) (m p : TunerId) : s.Unmeasured (s.meetPartner m p) := by
  have requested : s.Unmeasured { s with tuners.link := .requested } := same (fun y => by cases y <;> rfl)
  unfold State.meetPartner
  split
  · exact s.startPairing_unmeasured m p
  · split
    · exact (s.cancelScan_unmeasured p).trans (State.startPairing_unmeasured _ m p)
    · exact requested
  · exact requested

theorem State.settlePairing_unmeasured (s : State) : s.Unmeasured s.settlePairing := by
  unfold State.settlePairing
  split
  · split
    · exact s.meetPartner_unmeasured _ _
    · exact .refl s
  · split
    · exact s.meetPartner_unmeasured _ _
    · exact same (fun y => by cases y <;> rfl)
  · exact .refl s

theorem State.arbitrate_unmeasured (s : State) : s.Unmeasured s.arbitrate := by
  have fades : s.Unmeasured s.endFades :=
    ((s.endFade_unmeasured .t1).trans (State.endFade_unmeasured _ .t2)).trans (State.endFade_unmeasured _ .t1)
  exact (((fades.trans (State.reattachWatch_unmeasured _)).trans (State.beginCheck_unmeasured _ .t1)).trans
    (State.beginCheck_unmeasured _ .t2)).trans (State.settlePairing_unmeasured _)

end

end Sys2Proof.Machine
end

-- ==== support and settled obligations, part 71 ====
section
/-! SUPPORT. The end of an AF check: its results handed on, and the search that goes on or is concluded (R81, R90, R94). -/

namespace Sys2Proof.Machine

variable {s t u : State} {x : TunerId}

/-! ## The check taken off its tuner -/

/-- The check taken off its tuner, and the search of the other tuner replaced. -/
def State.checkDone (s : State) (x : TunerId) (search : Option Search) : State :=
  let t := s.setTuner x { s.tuner x with activity := .none, check := none }
  t.setTuner (otherTuner x) { t.tuner (otherTuner x) with search := search }

/-- The state of a finished check, before its results are handed on. -/
structure State.CheckDone (s t : State) (x : TunerId) (search : Option Search) : Prop where
  checker : t.tuner x = { s.tuner x with activity := .none, check := none }
  master : t.tuner (otherTuner x) = { s.tuner (otherTuner x) with search := search }
  stations : t.stations = s.stations
  events : t.events = s.events
  waiting : t.tuners.waiting = s.tuners.waiting
  policy : t.tuners.policy = s.tuners.policy
  noRetune : s.NoRetune → t.NoRetune
  watchSettled : s.WatchSettled → t.WatchSettled

theorem State.checkDone_spec (s : State) (x : TunerId) (search : Option Search) :
    s.CheckDone (s.checkDone x search) x search := by
  have watch : ∀ y, ((s.checkDone x search).tuner y).watch = (s.tuner y).watch := fun y => by cases x <;> cases y <;> rfl
  have retune : ∀ y, ((s.checkDone x search).tuner y).retune = (s.tuner y).retune := fun y => by cases x <;> cases y <;> rfl
  refine ⟨by cases x <;> rfl, by cases x <;> rfl, by cases x <;> rfl, by cases x <;> rfl, by cases x <;> rfl, by cases x <;> rfl,
    fun still => ?_, fun settled => settled.ofTuners (by cases x <;> rfl) watch⟩
  exact (State.noRetune_iff _).2 (fun y => (retune y).trans (still.tuner y))

theorem decodedCode_some {k : BitVec 16} (h : k ≠ 0) : decodedCode (some k) = some k.toNat := if_neg h

/-- The end of a check with candidates left. -/
theorem State.afCheckEnd_next {c g : Nat} {m : Measurement} {code : Option (BitVec 16)} {others : List Nat}
    {found : List (Nat × Nat)} (checks : (s.tuner x).activity = .afCheckForMaster) (check : (s.tuner x).check = some ⟨c, some m⟩)
    (search : (s.tuner (otherTuner x)).search = some ⟨true, g :: others, found⟩) :
    s.afCheckEnd x code = ((s.checkDone x (some ⟨true, g :: others, foundWith found c m
      (m.area ≠ .iii && (decodedCode code).isSome && decodedCode code = (s.tuner (otherTuner x)).code)⟩)).handOver c m
        (decodedCode code)).arbitrate := by
  unfold State.afCheckEnd
  dsimp only
  rw [checks, check, search]
  rfl

/-- The end of the last check of a search. -/
def State.lastChecked (s : State) (x : TunerId) (fs : List (Nat × Nat)) : State :=
  if (s.tuner x).af = .searching then s.concludeSearch x (s.chosen x fs) false else s

theorem State.afCheckEnd_last {c : Nat} {m : Measurement} {code : Option (BitVec 16)}
    {found : List (Nat × Nat)} (checks : (s.tuner x).activity = .afCheckForMaster) (check : (s.tuner x).check = some ⟨c, some m⟩)
    (search : (s.tuner (otherTuner x)).search = some ⟨true, [], found⟩) :
    s.afCheckEnd x code = (((s.checkDone x none).handOver c m (decodedCode code)).lastChecked (otherTuner x)
      (foundWith found c m
        (m.area ≠ .iii && (decodedCode code).isSome && decodedCode code = (s.tuner (otherTuner x)).code))).arbitrate := by
  unfold State.afCheckEnd
  dsimp only
  rw [checks, check, search]
  rfl

/-! ## The results handed on (R90, R94) -/

/-- A record with a check's measurement, and its code where one was decoded. -/
def Station.checked (m : Measurement) (code : Option Nat) (r : Station) : Station :=
  match code with
  | none => r.refresh m
  | some k => (r.refresh m).withCode k

/-- What the results leave: the record amended, and of the tuners what applied items leave. -/
structure State.HandedOn (s t : State) (c : Nat) (m : Measurement) (code : Option Nat) : Prop where
  amends : (s.ensureStation c).stations.Amends t.stations c (Station.checked m code)
  events : t.events = (s.ensureStation c).events
  watch : t.tuners.watch = s.tuners.watch
  tuners : ∀ y, (s.tuner y).Applied (t.tuner y)

theorem State.HandedOn.noRetune {c : Nat} {m : Measurement} {code : Option Nat} (h : s.HandedOn t c m code) (k : s.NoRetune) :
    t.NoRetune := (State.noRetune_iff _).2 (fun y => (h.tuners y).retune.trans (k.tuner y))

theorem State.HandedOn.watchSettled {c : Nat} {m : Measurement} {code : Option Nat} (h : s.HandedOn t c m code)
    (k : s.WatchSettled) : t.WatchSettled := k.ofTuners h.watch (fun y => (h.tuners y).watch)

theorem State.handOver_handsOn (still : s.NoRetune) {code : Option Nat} (quiet : code = none ∨ s.tuners.waiting = []) (c : Nat)
    (m : Measurement) : s.HandedOn (s.handOver c m code) c m code := by
  have amends := s.refreshStation_amends c m
  cases code with
  | none =>
    exact ⟨amends, s.refreshStation_events c m, congrArg Tuners.watch (s.refreshStation_tuners c m),
      fun y => by rw [show (s.handOver c m none).tuner y = s.tuner y from s.refreshStation_tuner c m y]; exact .refl _⟩
  | some k =>
    have nobody : (s.refreshStation c m).tuners.waiting = [] := by
      rw [s.refreshStation_tuners]
      exact quiet.resolve_left nofun
    have calm : (s.refreshStation c m).NoRetune := by
      unfold State.NoRetune
      rw [s.refreshStation_tuners]
      exact still
    obtain ⟨applies, coded⟩ := State.applyCode_applies nobody calm c k
    refine ⟨amends.trans coded, applies.events.trans (s.refreshStation_events c m),
      applies.watch.trans (congrArg Tuners.watch (s.refreshStation_tuners c m)), fun y => ?_⟩
    rw [← s.refreshStation_tuner c m y]
    exact applies.tuners y

/-- What the results leave of the tuners where no claim and no program hears of the code. -/
structure State.Unheard (s t : State) (x : TunerId) : Prop where
  checker : t.tuner x = s.tuner x
  master : t.tuner (otherTuner x) =
    { s.tuner (otherTuner x) with streak := (t.tuner (otherTuner x)).streak }
  watch : t.tuners.watch = s.tuners.watch

theorem State.Unheard.noRetune (h : s.Unheard t x) (k : s.NoRetune) : t.NoRetune :=
  (State.noRetune_iff _).2 (forall_tuner x (by rw [h.checker]; exact k.tuner x) (by rw [h.master]; exact k.tuner _))

theorem State.Unheard.watchSettled (h : s.Unheard t x) (k : s.WatchSettled) : t.WatchSettled :=
  k.ofTuners h.watch (forall_tuner x (by rw [h.checker]) (by rw [h.master]))

theorem State.Unheard.of_tuners (h : t.tuners = s.tuners) : s.Unheard t x := by
  have same : ∀ y, t.tuner y = s.tuner y := fun y => by
    unfold State.tuner
    rw [h]
  exact ⟨same x, by rw [same], by rw [h]⟩

theorem State.followCode_away {y : TunerId} {f c : Nat} (away : (s.tuner y).holds f = false) : s.followCode y f c = s :=
  if_neg (by simp [away])

/-- A code of a frequency without a program, where no claim waits: only streaks are held at 0. -/
theorem State.applyCode_unheard (nobody : s.tuners.waiting = []) {f c : Nat} (away : ∀ y, (s.tuner y).holds f = false)
    (free : (s.tuner x).role = .free) : s.Unheard (s.applyCode f c) x := by
  unfold State.applyCode
  split
  · exact .of_tuners rfl
  · split
    · exact .of_tuners rfl
    · extract_lets s1 s2
      let v : State := { s with stations := s.stations.update f (Station.withCode c) }
      have told : s1 = v := State.notifyCode_nobody (s := v) nobody c
      have tuners : s1.tuners = s.tuners := by rw [told]
      have same : ∀ y, s1.tuner y = s.tuner y := fun y => by
        unfold State.tuner
        rw [tuners]
      have one : s1.followCode .t1 f c = s1 := State.followCode_away (by rw [same]; exact away _)
      have two : s2 = s1 := by
        unfold s2
        rw [one, State.followCode_away (by rw [same]; exact away _)]
      have held : ∀ (w : State) (y : TunerId), (w.tuner x).role = .free → (w.holdStreak y).tuner x = w.tuner x :=
        fun w y free => by
          by_cases own : y = x
          · subst own
            unfold State.holdStreak
            dsimp only
            rw [if_neg (by simp [free])]
          · rw [← otherTuner_of_ne (Ne.symm own)]
            exact (w.holdStreak_spec y).2.1
      have mine : s2.tuner x = s.tuner x := by rw [two, same]
      have first := held s2 .t1 (by rw [mine]; exact free)
      refine ⟨(held _ .t2 (by rw [first, mine]; exact free)).trans (first.trans mine), ?_, ?_⟩
      · rw [State.holdStreak_tuner (s2.holdStreak .t1), State.holdStreak_tuner s2, two, same]
      · exact ((State.holdStreak_applies _ _).watch.trans (State.holdStreak_applies _ _).watch).trans (by rw [two, tuners])

end Sys2Proof.Machine
end

-- ==== support and settled obligations, part 72 ====
section
/-! SUPPORT. The next check of a partner search, and the search concluded after the last (R72, R81). -/

namespace Sys2Proof.Machine

variable {s t u : State} {x : TunerId}

/-- Results that nobody hears of: no code, a code without a claim for a frequency without a program, or a known code. -/
theorem State.handOver_unheard {c : Nat} {m : Measurement} {code : Option Nat} (free : (s.tuner x).role = .free)
    (settled : code = none ∨ (s.tuners.waiting = [] ∧ (s.tuner (otherTuner x)).frequency ≠ some c) ∨
      ∃ r, s.stations.find c = some r ∧ r.code = code) : s.Unheard (s.handOver c m code) x := by
  let v := s.refreshStation c m
  have tuners : v.tuners = s.tuners := s.refreshStation_tuners c m
  have same : ∀ y, v.tuner y = s.tuner y := s.refreshStation_tuner c m
  cases code with
  | none => exact .of_tuners tuners
  | some k =>
    rcases settled with settled | ⟨nobody, elsewhere⟩ | ⟨r, found, known⟩
    · cases settled
    · have away : ∀ y, (v.tuner y).holds c = false := forall_tuner x
        (by simp [same, Tuner.holds, free]) (by simp [same, Tuner.holds, elsewhere])
      have unheard := State.applyCode_unheard (by rw [tuners]; exact nobody) away (x := x) (c := k) (by rw [same]; exact free)
      exact ⟨unheard.checker.trans (same x), unheard.master.trans (by rw [same]; rfl), unheard.watch.trans (by rw [tuners])⟩
    · have refreshed : v.stations.find c = some (r.refresh m) := by
        rw [(s.refreshStation_amends c m).here, State.ensureStation_found found, found]
        rfl
      have applied : s.handOver c m (some k) = v := by
        show v.applyCode c k = v
        unfold State.applyCode
        rw [refreshed]
        exact if_pos known
      rw [applied]
      exact .of_tuners tuners

/-! ## The next check (R72, R81) -/

/-- No pairing is ready where each program with a FREE partner uses it in its search. -/
theorem State.pairReady_none (h : ∀ m, (s.tuner m).role = .program → (s.tuner (otherTuner m)).role = .free →
    (s.tuner m).usesOther = true) : s.pairReady = none := by
  have apart : ∀ m, ¬((decide ((s.tuner m).role = .program) && decide ((s.tuner (otherTuner m)).role = .free) &&
      !(s.tuner m).usesOther) = true) := fun m ready => by
    simp only [Bool.and_eq_true, decide_eq_true_eq, Bool.not_eq_true'] at ready
    rw [h m ready.1.1 ready.1.2] at ready
    exact absurd ready.2 (by decide)
  unfold State.pairReady
  split
  · exact (if_neg (apart .t1)).trans (if_neg (apart .t2))
  · rfl

theorem State.beginCheck_starts {g : Nat} {others : List Nat} {fs : List (Nat × Nat)}
    (search : (s.tuner (otherTuner x)).search = some ⟨true, g :: others, fs⟩) (free : (s.tuner x).role = .free)
    (idle : (s.tuner x).activity = .none) :
    (s.beginCheck (otherTuner x)).tuner x = { s.tuner x with activity := .afCheckForMaster, check := some ⟨g, none⟩ } ∧
      (s.beginCheck (otherTuner x)).tuner (otherTuner x) = { s.tuner (otherTuner x) with search := some ⟨true, others, fs⟩ } ∧
      (s.beginCheck (otherTuner x)).tuners.link = .none := by
  have back : otherTuner (otherTuner x) = x := by cases x <;> rfl
  unfold State.beginCheck
  dsimp only
  rw [search, back]
  dsimp only
  rw [if_pos (by simp [free, idle])]
  cases x <;> exact ⟨rfl, rfl, rfl⟩

theorem State.beginCheck_taken (taken : (s.tuner (otherTuner x)).role ≠ .free) : s.beginCheck x = s := by
  unfold State.beginCheck
  dsimp only
  split
  · rw [if_neg (by simp [taken])]
  · rfl

/-- With a candidate left, the arbiter begins its check on the FREE idle tuner. -/
theorem State.arbitrate_checks {g : Nat} {others : List Nat} {fs : List (Nat × Nat)} (still : s.NoRetune)
    (settled : s.WatchSettled) (search : (s.tuner (otherTuner x)).search = some ⟨true, g :: others, fs⟩)
    (free : (s.tuner x).role = .free) (idle : (s.tuner x).activity = .none)
    (program : (s.tuner (otherTuner x)).role = .program) :
    (s.arbitrate.tuner x).activity = .afCheckForMaster ∧ (s.arbitrate.tuner x).check = some ⟨g, none⟩ ∧
      (s.arbitrate.tuner (otherTuner x)).search = some ⟨true, others, fs⟩ ∧
      (s.arbitrate.tuner (otherTuner x)).af = (s.tuner (otherTuner x)).af ∧ s.arbitrate.tuners.link = .none := by
  obtain ⟨checker, master, link⟩ := State.beginCheck_starts search free idle
  have masterBefore : s.beginCheck x = s := State.beginCheck_taken (by rw [program]; decide)
  have masterAfter : (s.beginCheck (otherTuner x)).beginCheck x = s.beginCheck (otherTuner x) :=
    State.beginCheck_taken (by rw [master, program]; decide)
  have begun : (s.beginCheck .t1).beginCheck .t2 = s.beginCheck (otherTuner x) := by
    cases x
    · exact congrArg (fun v : State => v.beginCheck .t2) masterBefore
    · exact masterAfter
  have ready : (s.beginCheck (otherTuner x)).pairReady = none := by
    refine State.pairReady_none (forall_tuner x (fun p => ?_) (fun _ _ => ?_))
    · rw [checker, free] at p
      cases p
    · rw [master]
      rfl
  have arbitrated : s.arbitrate = s.beginCheck (otherTuner x) := by
    rw [State.arbitrate_assigns still settled]
    unfold State.assign State.settlePairing
    rw [begun, link]
    dsimp only
    rw [ready]
  rw [arbitrated, checker, master]
  exact ⟨rfl, rfl, rfl, rfl, link⟩

/-! ## The candidate chosen after the last check (R81) -/

theorem State.chosen_mem {fs : List (Nat × Nat)} {y : Nat × Nat} (h : s.chosen x fs = some y) : y ∈ fs :=
  (List.mem_filter.1 (bestCandidate_mem h)).1

theorem State.chosen_none {fs : List (Nat × Nat)} (h : ∀ y ∈ fs, s.goodEnough x y.2 = false) : s.chosen x fs = none := by
  unfold State.chosen
  rw [List.filter_eq_nil_iff.2 (fun y m => by rw [h y m]; decide)]
  rfl

theorem State.chosen_split {before later : List (Nat × Nat)} {y : Nat × Nat} (good : s.goodEnough x y.2 = true)
    (lower : ∀ z ∈ before, s.goodEnough x z.2 = true → z.2 < y.2) (upper : ∀ z ∈ later, s.goodEnough x z.2 = true → z.2 ≤ y.2) :
    s.chosen x (before ++ y :: later) = some y := by
  unfold State.chosen
  rw [List.filter_append, List.filter_cons_of_pos (p := fun c : Nat × Nat => s.goodEnough x c.2) good]
  refine bestCandidate_split _ _ y (fun z m => ?_) (fun z m => ?_)
  · obtain ⟨there, passes⟩ := List.mem_filter.1 m
    exact lower z there passes
  · obtain ⟨there, passes⟩ := List.mem_filter.1 m
    exact upper z there passes

/-! ## What the last check leaves of the records (R81, R91) -/

theorem State.lastChecked_over {fs : List (Nat × Nat)} (none : s.chosen x fs = none) :
    s.lastChecked x fs = s ∨ s.lastChecked x fs = s.searchOver x := by
  unfold State.lastChecked
  split
  · rw [none]
    exact .inr rfl
  · exact .inl rfl

theorem State.searchOver_kept (still : s.NoRetune) (settled : s.WatchSettled) (x : TunerId) :
    (s.searchOver x).arbitrate.stations.records = s.stations.records ∧ (s.searchOver x).arbitrate.events = s.events := by
  have quiet : (s.searchOver x).NoRetune := still.setTuner (still.tuner x)
  have calm : (s.searchOver x).WatchSettled := settled.setTuner rfl
  obtain ⟨records, -, events⟩ := State.arbitrate_kept quiet.endFades calm
  refine ⟨records.trans ?_, events.trans (State.setTuner_events _ _ _)⟩
  exact congrArg Stations.records (State.setTuner_stations _ _ _)

/-- A search that chooses nobody keeps the records and the events. -/
theorem State.lastChecked_kept {fs : List (Nat × Nat)} (still : s.NoRetune) (settled : s.WatchSettled)
    (none : s.chosen x fs = none) : (s.lastChecked x fs).arbitrate.stations.records = s.stations.records ∧
      (s.lastChecked x fs).arbitrate.events = s.events := by
  rcases State.lastChecked_over none with e | e
  · rw [e]
    obtain ⟨records, -, events⟩ := State.arbitrate_kept still.endFades settled
    exact ⟨records, events⟩
  · rw [e]
    exact State.searchOver_kept still settled x

/-- Where each candidate found has a record or room for one, the records stand, and the station change flag. -/
theorem State.lastChecked_stands {fs : List (Nat × Nat)} (still : s.NoRetune) (settled : s.WatchSettled)
    (room : ∀ y ∈ fs, s.stations.records.length < 48 ∨ s.stations.find y.1 ≠ none) :
    s.RecordsStand (s.lastChecked x fs).arbitrate ((s.tuner x).watch = true) ∧
      (s.events.station = true → (s.lastChecked x fs).arbitrate.events.station = true) := by
  have kept : ∀ v : State, v.arbitrate.stations.records = s.stations.records ∧ v.arbitrate.events = s.events →
      s.RecordsStand v.arbitrate ((s.tuner x).watch = true) ∧
        (s.events.station = true → v.arbitrate.events.station = true) := fun v same =>
    ⟨.of_records same.1, fun h => by rw [same.2]; exact h⟩
  cases chosen : s.chosen x fs with
  | none => exact kept _ (State.lastChecked_kept still settled chosen)
  | some y =>
    unfold State.lastChecked
    split
    · rw [chosen]
      by_cases held : (s.tuner (otherTuner x)).holds y.1 = true
      · rw [State.concludeSearch_held held]
        exact kept _ (State.searchOver_kept still settled x)
      · obtain ⟨tuning, retunes⟩ := State.concludeSearch_switches (.inr settled) (still.tuner _)
          (Bool.eq_false_of_not_eq_true held) false
        have calm : (s.searchless x).WatchSettled := settled.setTuner rfl
        have stations : (s.searchless x).stations = s.stations := State.setTuner_stations _ _ _
        have events : (s.searchless x).events = s.events := State.setTuner_events _ _ _
        have watched : ((s.searchless x).tuner x).watch = (s.tuner x).watch := by
          unfold State.searchless
          rw [State.tuner_setTuner_same]
        have records := retunes.records calm
        have station := retunes.station calm
        rw [watched] at records
        rw [events] at station
        refine ⟨fun g n e => ?_, station⟩
        refine records ?_ g n ?_
        · rw [stations]
          exact room y (State.chosen_mem chosen)
        · rw [stations]
          exact e
    · obtain ⟨records, -, events⟩ := State.arbitrate_kept still.endFades settled
      exact kept s ⟨records, events⟩

end Sys2Proof.Machine
end

-- ==== support and settled obligations, part 73 ====
section
/-! SUPPORT. The checks of partner searches settled (R81, R90, R92, R94). -/

namespace Sys2Proof.Machine

variable {s t u : State} {x : TunerId} {c : Nat} {m : Measurement} {code : Option (BitVec 16)} {rest : List Nat}
  {found fs : List (Nat × Nat)}

/-! ## The end of a check in its parts -/

/-- The candidates found once a check's results have been judged by the master's code. -/
def State.foundNow (s : State) (x : TunerId) (c : Nat) (m : Measurement) (code : Option (BitVec 16)) (found : List (Nat × Nat)) :
    List (Nat × Nat) :=
  foundWith found c m
    (m.area ≠ .iii && (decodedCode code).isSome && decodedCode code = (s.tuner (otherTuner x)).code)

/-- The search a master is left with once a check is over. -/
def searchLeft (rest : List Nat) (fs : List (Nat × Nat)) : Option Search :=
  match rest with
  | [] => none
  | g :: others => some ⟨true, g :: others, fs⟩

/-- The results of a check handed on. -/
def State.handedOver (s : State) (x : TunerId) (c : Nat) (m : Measurement) (code : Option (BitVec 16)) (rest : List Nat)
    (fs : List (Nat × Nat)) : State :=
  (s.checkDone x (searchLeft rest fs)).handOver c m (decodedCode code)

/-- The search concluded after its last check. -/
def State.judgedBy (s : State) (x : TunerId) (rest : List Nat) (fs : List (Nat × Nat)) : State :=
  match rest with
  | [] => s.lastChecked x fs
  | _ :: _ => s

theorem State.afCheckEnd_eq (checks : (s.tuner x).activity = .afCheckForMaster) (check : (s.tuner x).check = some ⟨c, some m⟩)
    (search : (s.tuner (otherTuner x)).search = some ⟨true, rest, found⟩) (code : Option (BitVec 16)) :
    s.afCheckEnd x code = ((s.handedOver x c m code rest (s.foundNow x c m code found)).judgedBy (otherTuner x) rest
      (s.foundNow x c m code found)).arbitrate := by
  cases rest with
  | nil => exact State.afCheckEnd_last checks check search
  | cons g others => exact State.afCheckEnd_next checks check search

theorem State.foundNow_eq (nonzero : code ≠ some 0)
    (yes : (∃ k, code = some k ∧ (s.tuner (otherTuner x)).code = some k.toNat) ∧ m.area ≠ .iii → fs = found ++ [(c, m.quality)])
    (no : ¬((∃ k, code = some k ∧ (s.tuner (otherTuner x)).code = some k.toNat) ∧ m.area ≠ .iii) → fs = found) :
    s.foundNow x c m code found = fs := by
  have judged : (m.area ≠ .iii && (decodedCode code).isSome && decodedCode code = (s.tuner (otherTuner x)).code) = true ↔
      (∃ k, code = some k ∧ (s.tuner (otherTuner x)).code = some k.toNat) ∧ m.area ≠ .iii := by
    cases code with
    | none => simp [decodedCode]
    | some k =>
      rw [decodedCode_some (fun zero => nonzero (congrArg some zero))]
      simp only [Bool.and_eq_true, decide_eq_true_eq, Option.isSome_some, and_true, Option.some.injEq, exists_eq_left']
      exact ⟨fun ⟨a, b⟩ => ⟨b.symm, a⟩, fun ⟨a, b⟩ => ⟨b, a.symm⟩⟩
  unfold State.foundNow
  by_cases passes : (∃ k, code = some k ∧ (s.tuner (otherTuner x)).code = some k.toNat) ∧ m.area ≠ .iii
  · rw [yes passes]
    exact if_pos (judged.2 passes)
  · rw [no passes]
    exact if_neg (fun h => passes (judged.1 h))

theorem State.mem_foundNow {y : Nat × Nat} (h : y ∈ s.foundNow x c m code found) : y ∈ found ∨ y.1 = c := by
  unfold State.foundNow foundWith at h
  split at h
  · rcases List.mem_append.1 h with there | last
    · exact .inl there
    · rw [List.mem_singleton.1 last]
      exact .inr rfl
  · exact .inl h

theorem State.judgedBy_unmeasured (s : State) (x : TunerId) (rest : List Nat) (fs : List (Nat × Nat)) :
    s.Unmeasured (s.judgedBy x rest fs) := by
  cases rest with
  | nil =>
    show s.Unmeasured (s.lastChecked x fs)
    unfold State.lastChecked
    split
    · exact s.concludeSearch_unmeasured x _ _
    · exact .refl s
  | cons g others => exact .refl s

/-- The check that ended is over, whatever follows. -/
theorem State.afCheckEnd_over (checks : (s.tuner x).activity = .afCheckForMaster)
    (check : (s.tuner x).check = some ⟨c, some m⟩) (search : (s.tuner (otherTuner x)).search = some ⟨true, rest, found⟩)
    (code : Option (BitVec 16)) : ((s.afCheckEnd x code).tuner x).check ≠ some ⟨c, some m⟩ := by
  rw [State.afCheckEnd_eq checks check search]
  intro still
  have done := s.checkDone_spec x (searchLeft rest (s.foundNow x c m code found))
  have before := (((State.handOver_unmeasured _ c m (decodedCode code)).trans
    (State.judgedBy_unmeasured (s.handedOver x c m code rest (s.foundNow x c m code found)) (otherTuner x) rest
      (s.foundNow x c m code found))).trans (State.arbitrate_unmeasured _)) x c m still
  rw [done.checker] at before
  cases before

/-! ## The record that takes the results -/

/-- A check's results in the table and what they leave of what the arbiter goes by. -/
structure State.Handed (s u : State) (x : TunerId) (c : Nat) (m : Measurement) (code : Option Nat) : Prop where
  amends : (s.ensureStation c).stations.Amends u.stations c (Station.checked m code)
  events : u.events = (s.ensureStation c).events
  still : u.NoRetune
  settled : u.WatchSettled
  watch : (u.tuner (otherTuner x)).watch = (s.tuner (otherTuner x)).watch

theorem State.handedOver_handed (still : s.NoRetune) (settled : s.WatchSettled)
    (quiet : code = none ∨ s.tuners.waiting = []) (rest : List Nat) (fs : List (Nat × Nat)) :
    s.Handed (s.handedOver x c m code rest fs) x c m (decodedCode code) := by
  have done := s.checkDone_spec x (searchLeft rest fs)
  have on := State.handOver_handsOn (code := decodedCode code) (done.noRetune still)
    (quiet.imp (fun h => by rw [h]; rfl) (fun h => done.waiting.trans h)) c m
  obtain ⟨records, events⟩ := State.ensureStation_congr (s := s) (t := s.checkDone x (searchLeft rest fs))
    (by rw [done.stations]) (by rw [done.stations]) (by rw [done.stations]) done.events c
  refine ⟨(Stations.Amends.of_records records).trans on.amends, on.events.trans events, on.noRetune (done.noRetune still),
    on.watchSettled (done.watchSettled settled), (on.tuners _).watch.trans ?_⟩
  rw [done.master]

/-- The records and the events stand where the search goes on, or has nobody to choose. -/
theorem State.judgedBy_kept (still : s.NoRetune) (settled : s.WatchSettled) (h : rest ≠ [] ∨ fs = []) :
    (s.judgedBy x rest fs).arbitrate.stations.records = s.stations.records ∧
      (s.judgedBy x rest fs).arbitrate.events = s.events := by
  cases rest with
  | nil =>
    refine State.lastChecked_kept still settled ?_
    rw [h.resolve_left (fun n => n rfl)]
    rfl
  | cons g others =>
    obtain ⟨records, -, events⟩ := State.arbitrate_kept still.endFades settled
    exact ⟨records, events⟩

theorem State.judgedBy_stands (still : s.NoRetune) (settled : s.WatchSettled)
    (h : rest ≠ [] ∨ ∀ y ∈ fs, s.stations.records.length < 48 ∨ s.stations.find y.1 ≠ none) :
    s.RecordsStand (s.judgedBy x rest fs).arbitrate ((s.tuner x).watch = true) ∧
      (s.events.station = true → (s.judgedBy x rest fs).arbitrate.events.station = true) := by
  cases rest with
  | nil => exact State.lastChecked_stands still settled (h.resolve_left (fun n => n rfl))
  | cons g others =>
    obtain ⟨records, -, events⟩ := State.arbitrate_kept still.endFades settled
    exact ⟨.of_records records, fun e => by
      show s.arbitrate.events.station = true
      rw [events]
      exact e⟩

/-- The record of a candidate as its check leaves it. -/
theorem State.Handed.finds (h : s.Handed u x c m (decodedCode code)) {base : Station}
    (there : (s.ensureStation c).stations.find c = some base) :
    u.stations.find c = some (base.checked m (decodedCode code)) := by
  rw [h.amends.here, there]
  rfl

theorem State.Handed.length (h : s.Handed u x c m (decodedCode code)) :
    u.stations.records.length ≤ s.stations.records.length + 1 ∨ 48 ≤ s.stations.records.length := by
  have same := congrArg List.length h.amends.names
  rw [List.length_map, List.length_map] at same
  cases there : s.stations.find c with
  | some r =>
    rw [State.ensureStation_found there] at same
    exact .inl (by omega)
  | none =>
    by_cases room : s.stations.records.length < 48
    · obtain ⟨-, -, -, -, grown⟩ := State.ensureStation_room there room
      exact .inl (by omega)
    · exact .inr (by omega)

/-- A record that is there, or finds room, takes the results. -/
theorem State.ensureStation_base (room : s.stations.find c ≠ none ∨ s.stations.records.length < 48) :
    (s.ensureStation c).stations.find c = some ((s.stations.find c).getD (Station.new c)) ∧
      (s.stations.find c = none → (s.ensureStation c).events.station = true) := by
  cases there : s.stations.find c with
  | some r =>
    rw [State.ensureStation_found there]
    exact ⟨there, nofun⟩
  | none =>
    obtain ⟨inserted, -, station, -⟩ := State.ensureStation_room there (room.resolve_left (fun n => n there))
    exact ⟨inserted, fun _ => station⟩

end Sys2Proof.Machine
end

-- ==== support and settled obligations, part 74 ====
section
/-! SUPPORT. What follows a check for its candidate and for its search, and the statement on AF checks settled. -/

namespace Sys2Proof.Machine

variable {s t u : State} {x : TunerId} {c : Nat} {m : Measurement} {code : Option (BitVec 16)} {rest : List Nat}
  {found fs : List (Nat × Nat)}

/-! ## The candidate's record (R90, R92, R94) -/

/-- A record with a code decoded, as the statement spells it. -/
def Station.codedBy (base : Station) (k : BitVec 16) : Station :=
  if base.code = none ∨ base.code = some k.toNat then { base with code := some k.toNat }
  else { base with code := some k.toNat, name := List.replicate 8 none, afList := [] }

theorem Station.checked_some (base : Station) (m : Measurement) {k : BitVec 16} (nonzero : k ≠ 0) :
    base.checked m (decodedCode (some k)) = (base.codedBy k).refresh m := by
  have judged : base.checked m (some k.toNat) = (base.codedBy k).refresh m := by
    show (base.refresh m).withCode k.toNat = _
    rw [Station.withCode_eq]
    unfold Station.codedBy
    by_cases same : base.code = some k.toNat
    · rw [if_pos (show (base.refresh m).code = _ from same), if_pos (.inr same), ← same]
    · rw [if_neg (show (base.refresh m).code ≠ _ from same)]
      by_cases bare : base.code = none
      · rw [if_pos (show (base.refresh m).code = _ from bare), if_pos (.inl bare)]
        rfl
      · rw [if_neg (show (base.refresh m).code ≠ _ from bare), if_neg (not_or.2 ⟨bare, same⟩)]
        rfl
  rw [decodedCode_some nonzero]
  exact judged

/-- Once the arbiter has worked, the candidate's record stands but for its announcement flag. -/
theorem State.Handed.hears (h : s.Handed u x c m (decodedCode code)) (room : s.stations.find c ≠ none ∨ s.stations.records.length < 48)
    (left : rest ≠ [] ∨ found = [] ∨ s.stations.records.length < 47)
    (there : ∀ y ∈ fs, y ∈ found ∨ y.1 = c) :
    ∃ n, (u.judgedBy (otherTuner x) rest fs).arbitrate.stations.find c = some n ∧
      n = { ((s.stations.find c).getD (Station.new c)).checked m (decodedCode code) with active := n.active } ∧
      ((s.tuner (otherTuner x)).watch = false →
        n.active = (((s.stations.find c).getD (Station.new c)).checked m (decodedCode code)).active) ∧
      (s.stations.find c = none → (u.judgedBy (otherTuner x) rest fs).arbitrate.events.station = true) := by
  obtain ⟨base, told⟩ := State.ensureStation_base room
  have mine := h.finds base
  have space : rest ≠ [] ∨ ∀ y ∈ fs, u.stations.records.length < 48 ∨ u.stations.find y.1 ≠ none := by
    refine left.imp_right (fun left y member => ?_)
    have own : y.1 = c → u.stations.find y.1 ≠ none := fun e => by
      rw [e, mine]
      nofun
    rcases there y member with earlier | last
    · rcases left with none | few
      · rw [none] at earlier
        cases earlier
      · have longer := h.length
        exact .inl (by omega)
    · exact .inr (own last)
  obtain ⟨stands, station⟩ := State.judgedBy_stands (x := otherTuner x) h.still h.settled space
  obtain ⟨n, same, rest, active⟩ := stands c _ mine
  refine ⟨n, same, rest, fun watch => active (fun on => ?_), fun absent => station ?_⟩
  · rw [h.watch, watch] at on
    cases on
  · rw [h.events]
    exact told absent

/-- In a full table the candidate's record takes the victim's place, or finds none. -/
theorem State.Handed.overflows (h : s.Handed u x c m (decodedCode code)) (absent : s.stations.find c = none)
    (full : 48 ≤ s.stations.records.length) (left : rest ≠ [] ∨ fs = []) :
    let t := (u.judgedBy (otherTuner x) rest fs).arbitrate
    (∀ v, s.stations.victim = some v →
      t.stations.find c = some ((Station.new c).checked m (decodedCode code)) ∧ t.stations.find v.frequency = none ∧
      t.events.station = true) ∧
    (s.stations.victim = none → t.stations.records = s.stations.records ∧
      (c ∉ s.stations.inUse ∨ c ∉ s.stations.fullRaised → t.events.flags.getLsbD 5 = true)) := by
  intro t
  obtain ⟨records, events⟩ := State.judgedBy_kept (x := otherTuner x) h.still h.settled left
  have find : ∀ g, t.stations.find g = u.stations.find g := fun g => by
    unfold t Stations.find
    rw [records]
  rw [show t.events = _ from events.trans h.events]
  refine ⟨fun v victim => ?_, fun none => ?_⟩
  · obtain ⟨inserted, gone, -, station, -⟩ := State.ensureStation_victim absent full victim
    have apart : v.frequency ≠ c := Stations.find_none absent v (Stations.victim_mem victim)
    rw [find, find, h.finds inserted, h.amends.beside _ apart]
    exact ⟨rfl, gone, station⟩
  · obtain ⟨kept, raised, -⟩ := State.ensureStation_full absent full none
    refine ⟨records.trans ((h.amends.absent ?_).trans kept), raised⟩
    unfold Stations.find
    rw [kept]
    exact absent

/-! ## The search after a check (R81) -/

/-- The state a check's results leave where nobody hears of them. -/
structure State.HandedQuietly (s u : State) (x : TunerId) (search : Option Search) : Prop where
  still : u.NoRetune
  settled : u.WatchSettled
  checker : u.tuner x = { s.tuner x with activity := .none, check := none }
  master : u.tuner (otherTuner x) =
    { s.tuner (otherTuner x) with search := search, streak := (u.tuner (otherTuner x)).streak }
  policy : u.tuners.policy = s.tuners.policy

theorem State.handedOver_quietly (still : s.NoRetune) (settled : s.WatchSettled) (free : (s.tuner x).role = .free)
    (unheard : code = none ∨ (s.tuners.waiting = [] ∧ (s.tuner (otherTuner x)).frequency ≠ some c) ∨
      ∃ r, s.stations.find c = some r ∧ r.code = decodedCode code) (rest : List Nat) (fs : List (Nat × Nat)) :
    s.HandedQuietly (s.handedOver x c m code rest fs) x (searchLeft rest fs) := by
  have done := s.checkDone_spec x (searchLeft rest fs)
  have quiet := State.handOver_unheard (s := s.checkDone x (searchLeft rest fs)) (x := x) (c := c) (m := m)
    (code := decodedCode code) (by rw [done.checker]; exact free) (by
      refine unheard.imp (fun h => by rw [h]; rfl) (Or.imp (fun ⟨a, b⟩ => ⟨done.waiting.trans a, ?_⟩) (fun ⟨r, a, b⟩ => ⟨r, ?_, b⟩))
      · rw [done.master]
        exact b
      · rw [done.stations]
        exact a)
  have frame := (s.checkDone x (searchLeft rest fs)).handOver_frame c m (decodedCode code)
  refine ⟨quiet.noRetune (done.noRetune still), quiet.watchSettled (done.watchSettled settled), quiet.checker.trans done.checker,
    quiet.master.trans (by rw [done.master]; rfl), frame.policy.trans done.policy⟩

theorem State.HandedQuietly.goodEnough {search : Option Search} (h : s.HandedQuietly u x search) (q : Nat) :
    u.goodEnough (otherTuner x) q = s.goodEnough (otherTuner x) q := by
  unfold State.goodEnough
  rw [h.policy, h.master]

/-- With a candidate left the checker takes it on. -/
theorem State.HandedQuietly.goesOn {g : Nat} {others : List Nat} (h : s.HandedQuietly u x (searchLeft (g :: others) fs))
    (free : (s.tuner x).role = .free) (program : (s.tuner (otherTuner x)).role = .program)
    (searching : (s.tuner (otherTuner x)).af = .searching) :
    (u.arbitrate.tuner x).activity = .afCheckForMaster ∧ (u.arbitrate.tuner x).check = some ⟨g, none⟩ ∧
      (u.arbitrate.tuner (otherTuner x)).search = some ⟨true, others, fs⟩ ∧
      (u.arbitrate.tuner (otherTuner x)).af = .searching := by
  obtain ⟨activity, check, search, af, -⟩ := State.arbitrate_checks (s := u) (x := x) (g := g) (others := others) (fs := fs)
    h.still h.settled (by rw [h.master]; rfl) (by rw [h.checker]; exact free) (by rw [h.checker]) (by rw [h.master]; exact program)
  exact ⟨activity, check, search, af.trans (by rw [h.master]; exact searching)⟩

theorem State.HandedQuietly.last (h : s.HandedQuietly u x (searchLeft [] fs))
    (searching : (s.tuner (otherTuner x)).af = .searching) : u.judgedBy (otherTuner x) [] fs =
      u.concludeSearch (otherTuner x) (u.chosen (otherTuner x) fs) false :=
  if_pos (by rw [h.master]; exact searching)

/-- With nobody good enough the search is over. -/
theorem State.HandedQuietly.ends (h : s.HandedQuietly u x (searchLeft [] fs))
    (searching : (s.tuner (otherTuner x)).af = .searching) (poor : ∀ y ∈ fs, s.goodEnough (otherTuner x) y.2 = false) :
    ((u.judgedBy (otherTuner x) [] fs).arbitrate.tuner (otherTuner x)).af = .idle ∧
      ((u.judgedBy (otherTuner x) [] fs).arbitrate.tuner (otherTuner x)).streak = 0 ∧
      ((u.judgedBy (otherTuner x) [] fs).arbitrate.tuner (otherTuner x)).search = none ∧
      ((u.judgedBy (otherTuner x) [] fs).arbitrate.tuner (otherTuner x)).retune = none := by
  have nobody : u.chosen (otherTuner x) fs = .none := State.chosen_none (fun y m => by rw [h.goodEnough]; exact poor y m)
  have ended := State.concluded_over (s := u) (x := otherTuner x) h.still h.settled (best := .none) nofun false
  obtain ⟨af, streak, search, retune, -⟩ := ended.over_spec (h.still.tuner _)
  rw [h.last searching, nobody]
  exact ⟨af, streak, search, retune⟩

/-- The best of the good candidates is switched to. -/
theorem State.HandedQuietly.switches {before later : List (Nat × Nat)} {y : Nat × Nat}
    (h : s.HandedQuietly u x (searchLeft [] (before ++ y :: later))) (free : (s.tuner x).role = .free)
    (searching : (s.tuner (otherTuner x)).af = .searching) (good : s.goodEnough (otherTuner x) y.2 = true)
    (lower : ∀ z ∈ before, s.goodEnough (otherTuner x) z.2 = true → z.2 < y.2)
    (upper : ∀ z ∈ later, s.goodEnough (otherTuner x) z.2 = true → z.2 ≤ y.2) :
    let t := (u.judgedBy (otherTuner x) [] (before ++ y :: later)).arbitrate
    ∃ tuning, (t.tuner (otherTuner x)).retune = some ⟨.switch y.1 false, tuning⟩ ∧
      (tuning = true → (t.tuner (otherTuner x)).frequency = some y.1 ∧ (t.tuner (otherTuner x)).activity = .retune ∧
        y.1 ∈ t.stations.inUse ∧ t.events.flags.getLsbD 7 = true) ∧
      (tuning = false → (t.tuner (otherTuner x)).frequency = (s.tuner (otherTuner x)).frequency) := by
  intro t
  have back : otherTuner (otherTuner x) = x := by cases x <;> rfl
  have chosen : u.chosen (otherTuner x) (before ++ y :: later) = some y := State.chosen_split
    (by rw [h.goodEnough]; exact good) (fun z m k => lower z m (by rw [← h.goodEnough]; exact k))
    (fun z m k => upper z m (by rw [← h.goodEnough]; exact k))
  obtain ⟨tuning, retune, tunes, fades⟩ := State.concluded_switches (s := u) (x := otherTuner x) (y := y) h.still h.settled
    (by rw [back, h.checker]; simp [Tuner.holds, free]) false
  have ends : t = (u.concludeSearch (otherTuner x) (some y) false).arbitrate := by
    unfold t
    rw [h.last searching, chosen]
  rw [ends]
  refine ⟨tuning, retune, fun tuned => ?_, fun fading => ?_⟩
  · obtain ⟨frequency, activity, -, joins, flag⟩ := tunes tuned
    exact ⟨frequency, activity, joins, flag⟩
  · rw [(fades fading).1, h.master]

end Sys2Proof.Machine
end

-- ==== support and settled obligations, part 75 ====
section
/-! SUPPORT. The checks of partner searches settled. -/

namespace Sys2Proof.Machine

/-- Settles O43: a check's end by what takes its results, and by the search that goes on, ends or switches. -/
theorem afCheckIsJudged : Obligations.AfCheckIsJudged := by
  unfold Obligations.AfCheckIsJudged
  intro s x c works checks
  refine ⟨fun field multipath check => ?measured, ?ends, fun none code => ?idle⟩
  case measured =>
    have run : exec (.afCheckMeasurement x field multipath) s = .next (s.afCheckMeasurement x field.val multipath.val) :=
      congrArg _ (s.unlessHeld_works works _)
    rw [run]
    unfold State.afCheckMeasurement
    dsimp only
    rw [checks, check]
  case idle =>
    have run : exec (.afCheckEnd x code) s = .next (s.afCheckEnd x code) := congrArg _ (s.unlessHeld_works works _)
    rw [run]
    unfold State.afCheckEnd
    dsimp only
    rw [checks, none]
  case ends =>
    intro m code rest found o check search searching still settled nonzero passes unheard good
    have run : exec (.afCheckEnd x code) s = .next (s.afCheckEnd x code) := congrArg _ (s.unlessHeld_works works _)
    have eq := State.afCheckEnd_eq checks check search code
    have now : ∀ fs, (passes → fs = found ++ [(c, m.quality)]) → (¬passes → fs = found) → s.foundNow x c m code found = fs :=
      fun fs yes no => State.foundNow_eq nonzero yes no
    refine ⟨_, run, (s.afCheckEnd_frame x code).work, State.afCheckEnd_over checks check search code, fun silent left r there => ?_,
      fun nobody elsewhere => ?_, fun fs yes no quiet free => ?_⟩
    · have handed := State.handedOver_handed (x := x) (c := c) (m := m) (code := code) still settled (.inl silent) rest (s.foundNow x c m code found)
      have poor : rest ≠ [] ∨ s.foundNow x c m code found = [] := left.imp_right (fun empty =>
        (now found (fun ⟨⟨k, e, _⟩, _⟩ => by rw [silent] at e; cases e) (fun _ => rfl)).trans empty)
      have kept := (State.judgedBy_kept (x := o) handed.still handed.settled poor).1
      have took := handed.finds (by rw [State.ensureStation_found there]; exact there)
      rw [eq]
      unfold Stations.find at took ⊢
      rw [kept, took, silent]
      rfl
    · intro found? base coded heard
      have handed := State.handedOver_handed (x := x) (c := c) (m := m) (code := code) still settled (.inr nobody) rest (s.foundNow x c m code found)
      have hears : base.checked m (decodedCode code) = heard := by
        clear eq now passes unheard
        cases code with
        | none => rfl
        | some k => exact Station.checked_some base m (fun zero => nonzero (congrArg some zero))
      rw [eq]
      refine ⟨fun room left => ?_, fun absent full left => ?_⟩
      · have took := handed.hears room left (fs := s.foundNow x c m code found) (fun y there => State.mem_foundNow there)
        rw [show (s.stations.find c).getD (Station.new c) = base from rfl, hears] at took
        exact took
      · have poor : rest ≠ [] ∨ s.foundNow x c m code found = [] := left.imp_right (fun ⟨empty, fails⟩ =>
          (now found (fun p => absurd p fails) (fun _ => rfl)).trans empty)
        have fresh : (Station.new c).checked m (decodedCode code) = heard := by
          rw [← hears]
          unfold base
          rw [absent]
          rfl
        rw [← fresh]
        exact handed.overflows absent full poor
    · have fsNow := now fs yes no
      have known : code = none ∨ (s.tuners.waiting = [] ∧ (s.tuner (otherTuner x)).frequency ≠ some c) ∨
          ∃ r, s.stations.find c = some r ∧ r.code = decodedCode code := by
        refine quiet.imp_right (Or.imp_right (fun ⟨r, k, there, e, same⟩ => ⟨r, there, ?_⟩))
        rw [e, decodedCode_some (fun zero => nonzero (by rw [e, zero]))]
        exact same
      have left := State.handedOver_quietly (x := x) (c := c) (m := m) still settled free known rest fs
      rw [eq, fsNow]
      generalize s.handedOver x c m code rest fs = u at left
      have judged : ∀ q, good q ↔ s.goodEnough o q.2 = true := fun q => (s.goodEnough_iff o q.2).symm
      refine ⟨fun g others e program => ?_, fun e poor => ?_, fun e before y later parts fine lower upper => ?_⟩
      · subst e
        exact left.goesOn free program searching
      · subst e
        exact left.ends searching (fun y there => Bool.eq_false_of_not_eq_true (fun h => poor y there ((judged y).2 h)))
      · subst e parts
        exact left.switches free searching ((judged y).1 fine) (fun z there h => lower z there ((judged z).2 h))
          (fun z there h => upper z there ((judged z).2 h))

end Sys2Proof.Machine
end

-- ==== support and settled obligations, part 76 ====
section
/-! SUPPORT. What the arbiter leaves of a program that measures, whatever fades end (R71, R77, R81, R82). -/

namespace Sys2Proof.Machine

variable {s t u : State} {x : TunerId}

/-! ## Claims on FREE tuners beside a program (R72, R81) -/

/-- Beside a program only its own search begins a check. -/
theorem State.assign_program_eq (program : (s.tuner x).role = .program) : s.assign = (s.beginCheck x).settlePairing := by
  have role := State.beginCheck_program program x
  have back : otherTuner (otherTuner x) = x := by cases x <;> rfl
  have before : s.beginCheck (otherTuner x) = s := State.beginCheck_taken (by rw [back, program]; decide)
  have after : (s.beginCheck x).beginCheck (otherTuner x) = s.beginCheck x :=
    State.beginCheck_taken (by rw [back, role, program]; decide)
  unfold State.assign
  cases x
  · exact congrArg State.settlePairing after
  · exact congrArg (fun v : State => (v.beginCheck .t2).settlePairing) before

theorem State.assign_program_tuner (program : (s.tuner x).role = .program) : s.assign.tuner x = (s.beginCheck x).tuner x := by
  rw [State.assign_program_eq program]
  refine (State.settlePairing_spec _).2 x ?_
  rw [State.beginCheck_program program x]
  exact program

/-- No check begins for a search of one's own, or while the other tuner is at work. -/
theorem State.beginCheck_idle
    (h : ∀ c rest found, (s.tuner x).search = some ⟨true, c :: rest, found⟩ →
      (s.tuner (otherTuner x)).role ≠ .free ∨ (s.tuner (otherTuner x)).activity ≠ .none) : s.beginCheck x = s := by
  unfold State.beginCheck
  dsimp only
  split
  · rename_i c rest found searching
    rw [if_neg]
    rcases h c rest found searching with taken | busy
    · simp [taken]
    · simp [busy]
  · rfl

/-! ## A watch attached beside a program's own search (R70, R84) -/

/-- A search of one's own is not ended where the other tuner is taken. -/
theorem State.takeTuner_lone {y : TunerId} (apart : x ≠ y) (program : (s.tuner x).role = .program)
    (alone : ∀ q, (s.tuner x).search = some q → q.partner = false) (f users : Nat) (watch : Bool) :
    (s.takeTuner y f users watch).tuner x = s.tuner x := by
  obtain rfl := otherTuner_of_ne apart
  unfold State.takeTuner
  extract_lets s1 s2 s3 s4 code
  have before : ((s.cancelScan y).cancelCheck y).tuner (otherTuner y) = s.tuner (otherTuner y) := by
    rw [State.cancelCheck_other, State.cancelScan_other]
  have one : s1.tuner (otherTuner y) = s.tuner (otherTuner y) := by
    unfold s1 State.abortSearchBy
    dsimp only
    rw [before]
    split
    · rename_i q searching
      rw [if_neg (by simp [alone q searching]), before]
    · exact before
  have two : s2.tuner (otherTuner y) = s1.tuner (otherTuner y) := by
    unfold s2
    split
    · rfl
    · rw [State.unpair_tuner]
      unfold Tuner.unpartnered
      rw [if_neg (by rw [one, program]; decide)]
  have three : s3.tuners = s2.tuners := by
    unfold s3
    split
    · rfl
    · rfl
  have four : s4.tuner (otherTuner y) = s2.tuner (otherTuner y) := by
    unfold State.tuner
    rw [show s4.tuners = s3.tuners from State.joinInUse_tuners f, three]
  rw [State.tuner_setTuner_other, four, two, one]

/-- A watch attached changes of a program with a search of its own at most its watch. -/
theorem State.reattachWatch_lone (program : (s.tuner x).role = .program)
    (alone : ∀ q, (s.tuner x).search = some q → q.partner = false) :
    s.reattachWatch.tuner x = { s.tuner x with watch := (s.reattachWatch.tuner x).watch } := by
  have taken : ∀ y f, (s.tuner y).role = .free → (s.takeForWatch y f).tuner x = s.tuner x := fun y f free => by
    have apart : x ≠ y := fun e => by
      rw [e, free] at program
      cases program
    unfold State.takeForWatch
    rw [State.tellWatch_tuner, State.takeTuner_lone apart program alone]
  unfold State.reattachWatch
  split
  · rfl
  · split
    · rfl
    · split
      · rw [State.attachWatch_tuner]
        split <;> rfl
      · split
        · rename_i free
          rw [taken .t1 _ free]
        · split
          · rename_i free
            rw [taken .t2 _ free]
          · rfl

/-! ## Measurements kept (R71) -/

/-- A tuner's last measurement, its area history and its role kept. -/
structure Tuner.Measures (t u : Tuner) : Prop where
  role : u.role = t.role
  measurement : u.measurement = t.measurement
  prevArea : u.prevArea = t.prevArea

theorem Tuner.Measures.refl (t : Tuner) : t.Measures t := ⟨rfl, rfl, rfl⟩

theorem Tuner.Measures.trans {a b c : Tuner} (h : a.Measures b) (k : b.Measures c) : a.Measures c :=
  ⟨k.role.trans h.role, k.measurement.trans h.measurement, k.prevArea.trans h.prevArea⟩

theorem State.setTuner_measures {n : Tuner} (h : (s.tuner x).Measures n) (y : TunerId) :
    (s.tuner y).Measures ((s.setTuner x n).tuner y) :=
  forall_tuner (P := fun y => (s.tuner y).Measures ((s.setTuner x n).tuner y)) x
    (by rw [State.tuner_setTuner_same]; exact h) (by rw [State.tuner_setTuner_other]; exact .refl _) y

theorem State.abandonRetune_measures (s : State) (x y : TunerId) : (s.tuner y).Measures ((s.abandonRetune x).tuner y) := by
  unfold State.abandonRetune
  rw [State.notifyTuner_tuner]
  refine State.setTuner_measures ?_ y
  exact ⟨rfl, rfl, rfl⟩

theorem State.moveProgram_measures (s : State) (x : TunerId) (k : RetuneKind) (dest : Nat) (confirm : Bool) (y : TunerId) :
    (s.tuner y).Measures ((s.moveProgram x k dest confirm).tuner y) := by
  have moves := s.moveProgram_moves x k dest confirm
  exact forall_tuner (P := fun y => (s.tuner y).Measures ((s.moveProgram x k dest confirm).tuner y)) x
    (by rw [moves.tuner]; exact ⟨rfl, rfl, rfl⟩) (by rw [moves.other]; exact .refl _) y

theorem State.beginTuning_measures (s : State) (x : TunerId) (k : RetuneKind) (y : TunerId) :
    (s.tuner y).Measures ((s.beginTuning x k).tuner y) := by
  have told : (s.tuner y).Measures ((s.notifyTuner x .retune).tuner y) := by
    rw [State.notifyTuner_tuner]
    exact .refl _
  have ended : ∀ n : Tuner, (s.tuner x).Measures n → (s.tuner y).Measures (((s.setTuner x n).abandonRetune x).tuner y) :=
    fun n h => (State.setTuner_measures h y).trans (State.abandonRetune_measures _ x y)
  unfold State.beginTuning
  cases k with
  | jump c =>
    refine told.trans (State.setTuner_measures (x := x) ?_ y)
    exact ⟨rfl, rfl, rfl⟩
  | switch dest confirm =>
    dsimp only
    split
    · exact ended _ ⟨rfl, rfl, rfl⟩
    · exact told.trans (State.moveProgram_measures _ x _ _ _ y)
  | revert dest decoded =>
    dsimp only
    split
    · exact ended _ ⟨rfl, rfl, rfl⟩
    · exact told.trans (State.moveProgram_measures _ x _ _ _ y)

theorem State.endFades_measures (s : State) (y : TunerId) : (s.tuner y).Measures (s.endFades.tuner y) := by
  have one : ∀ (v : State) (x : TunerId), (v.tuner y).Measures ((v.endFade x).tuner y) := fun v x => by
    unfold State.endFade
    split
    · split
      · exact v.beginTuning_measures x _ y
      · exact .refl _
    · exact .refl _
  exact ((one s .t1).trans (one _ .t2)).trans (one _ .t1)

/-- The arbiter keeps a program's measurement, whatever fades end. -/
theorem State.arbitrate_measures (program : (s.tuner x).role = .program) : (s.tuner x).Measures (s.arbitrate.tuner x) := by
  have faded := s.endFades_measures x
  have role : (s.endFades.tuner x).role = .program := faded.role.trans program
  obtain ⟨rest, -, -⟩ := State.reattachWatch_program role
  have watched : (s.endFades.tuner x).Measures (s.endFades.reattachWatch.tuner x) := by
    rw [rest]
    exact ⟨rfl, rfl, rfl⟩
  rw [State.arbitrate_eq]
  refine (faded.trans watched).trans ?_
  rw [State.assign_program (watched.role.trans role)]
  exact ⟨rfl, rfl, rfl⟩

theorem State.endSearch_measures (s : State) (x : TunerId) : (s.tuner x).Measures ((s.endSearch x).tuner x) := by
  unfold State.endSearch
  extract_lets t s1 mine s2
  have one : s1.tuner x = s.tuner x := by
    unfold s1
    split
    · have cancelled := State.cancelCheck_other (s := s) (otherTuner x)
      rw [show otherTuner (otherTuner x) = x by cases x <;> rfl] at cancelled
      exact cancelled
    · rfl
  have two : (s.tuner x).Measures (s2.tuner x) := by
    unfold s2
    rw [State.tuner_setTuner_same]
    unfold mine
    rw [one]
    exact ⟨rfl, rfl, rfl⟩
  split
  · exact two.trans (s2.abandonRetune_measures x x)
  · exact two

end Sys2Proof.Machine
end

-- ==== support and settled obligations, part 77 ====
section
/-! SUPPORT. A self jump that begins: what fades, what the tuning phase tells, and the table that stands (R77, R82). -/

namespace Sys2Proof.Machine

variable {s t u : State} {x : TunerId}

/-! ## The Station Table and its sources stand (R92) -/

/-- The records, what STATION_TABLE_FULL was raised for, the station change flag and STATION_TABLE_FULL stand. -/
structure State.TableStands (s t : State) : Prop where
  records : t.stations.records = s.stations.records
  raised : t.stations.fullRaised = s.stations.fullRaised
  station : t.events.station = s.events.station
  full : t.events.flags.getLsbD 5 = s.events.flags.getLsbD 5

namespace State.TableStands

theorem refl (s : State) : s.TableStands s := ⟨rfl, rfl, rfl, rfl⟩

theorem trans (h : s.TableStands t) (k : t.TableStands u) : s.TableStands u :=
  ⟨k.records.trans h.records, k.raised.trans h.raised, k.station.trans h.station, k.full.trans h.full⟩

theorem same (a : t.stations = s.stations) (b : t.events = s.events) : s.TableStands t := by
  refine ⟨?_, ?_, ?_, ?_⟩
  · rw [a]
  · rw [a]
  · rw [b]
  · rw [b]

end State.TableStands

theorem State.setTuner_table (s : State) (x : TunerId) (n : Tuner) : s.TableStands (s.setTuner x n) :=
  .same (State.setTuner_stations _ _ _) (State.setTuner_events _ _ _)

theorem State.putRoutes_table (s : State) (rs : List Route) : s.TableStands (s.putRoutes rs) := by
  have rest := s.putRoutes_rest rs
  refine ⟨by rw [rest], by rw [rest], by rw [rest], ?_⟩
  unfold State.putRoutes State.referenceChange State.raiseIf
  dsimp only
  split
  · split
    · rw [State.raise_flags, BitVec.getLsbD_or]
      simp [EventSource.bit, EventSource.number]
    · rfl
  · rfl

theorem State.markSlots_table (s : State) (m : BitVec 24) : s.TableStands (s.markSlots m) := by
  unfold State.markSlots
  split
  · exact .refl s
  · refine ⟨rfl, rfl, rfl, ?_⟩
    rw [BitVec.getLsbD_or]
    simp [EventSource.bit, EventSource.number]

theorem State.commitRoutes_table (s : State) (rs : List Route) : s.TableStands (s.commitRoutes rs) :=
  (s.putRoutes_table rs).trans (State.markSlots_table _ _)

theorem State.notice_table (s : State) (p : Route → Bool) (f : Route → Route) : s.TableStands (s.notice p f) := by
  have one : ∀ (v : State) (d : Domain) (ds : List Domain), v.TableStands (if d ∈ ds then v.rerun d else v) := fun v d ds => by
    split
    · exact v.commitRoutes_table _
    · exact .refl v
  exact (((s.commitRoutes_table _).trans (one _ _ _)).trans (one _ _ _)).trans (one _ _ _)

theorem State.beginRetune_table (s : State) (x : TunerId) (k : RetuneKind) : s.TableStands (s.beginRetune x k) :=
  (s.setTuner_table x _).trans (State.putRoutes_table _ _)

theorem State.assign_table (s : State) : s.TableStands s.assign := by
  have yields := s.assign_yields
  have raised : s.assign.stations.fullRaised = s.stations.fullRaised := by
    have check : ∀ (v : State) (y : TunerId), (v.beginCheck y).stations = v.stations := fun v y => by
      unfold State.beginCheck
      dsimp only
      split
      · split
        · cases y <;> rfl
        · rfl
      · rfl
    have start : ∀ (v : State) (m p : TunerId), (v.startPairing m p).stations = v.stations := fun v m p => by cases p <;> rfl
    have met : ∀ (v : State) (m p : TunerId), (v.meetPartner m p).stations.fullRaised = v.stations.fullRaised := fun v m p => by
      have scan : (v.cancelScan p).stations.fullRaised = v.stations.fullRaised := by
        unfold State.cancelScan Stations.giveBack
        split
        · rw [State.setTuner_stations]
          split
          · cases p <;> rfl
          · rfl
        · rfl
      unfold State.meetPartner
      split
      · rw [start]
      · split
        · rw [start, scan]
        · rfl
      · rfl
    have settle : ∀ v : State, v.settlePairing.stations.fullRaised = v.stations.fullRaised := fun v => by
      unfold State.settlePairing
      split
      · split
        · exact met _ _ _
        · rfl
      · split
        · exact met _ _ _
        · rfl
      · rfl
    unfold State.assign
    rw [settle, check, check]
  exact ⟨yields.records, raised, by rw [State.assign_events], by rw [State.assign_events]⟩

/-! ## A jump's fade (R77, R82) -/

/-- A sounding route's fade: marked, and aimed at MUTE. -/
theorem Route.fade_sounding {r : Route} (h : r.state = .rising ∨ r.state = .playing) :
    r.fade = { r with fadeMark := true, target := some .mute, step := .fast, running := r.fade.running } := by
  have sounds : r.state.sounding = true := by
    rcases h with e | e <;> rw [e] <;> rfl
  unfold Route.fade
  rw [if_pos sounds]
  unfold Route.aim
  dsimp only
  cases applied : r.applied with
  | mute =>
    unfold Route.rampEnded
    rcases h with e | e
    · rw [e]
      simp
    · rw [e]
  | q a => simp

theorem Route.fade_silent {r : Route} (h : ¬(r.state = .rising ∨ r.state = .playing)) : r.fade = r := by
  unfold Route.fade
  rw [if_neg]
  simpa [RouteState.sounding] using h

/-- The state in which a jump to a candidate begins its fade. -/
def State.jumping (s : State) (x : TunerId) (c : Nat) (rest : List Nat) (found : List (Nat × Nat)) : State :=
  (s.setTuner x { s.tuner x with search := some ⟨false, rest, found⟩ }).beginRetune x (.jump c)

theorem State.beginRetune_routes (s : State) (x : TunerId) (k : RetuneKind) :
    (s.beginRetune x k).routes = s.routes.map (fun r => if r.tuner = some x then r.fade else r) := by
  unfold State.beginRetune
  dsimp only
  rw [State.putRoutes_rest, State.setTuner_routes]

theorem State.jumping_routes (s : State) (x : TunerId) (c : Nat) (rest : List Nat) (found : List (Nat × Nat)) :
    (s.jumping x c rest found).routes = s.routes.map (fun r => if r.tuner = some x then r.fade else r) := by
  unfold State.jumping
  rw [State.beginRetune_routes, State.setTuner_routes]

/-- A jump's fade phase is over at once where no route of the program sounds. -/
theorem State.jumping_fadeDone {c : Nat} {rest : List Nat} {found : List (Nat × Nat)}
    (consistent : ∀ r ∈ s.routes, r.Consistent) : (s.jumping x c rest found).fadeDone x = true ↔
      ¬∃ r ∈ s.routes, r.tuner = some x ∧ (r.state = .rising ∨ r.state = .playing) ∧ r.applied ≠ .mute := by
  rw [State.fadeDone_iff, State.jumping_routes]
  constructor
  · rintro done ⟨r, there, tuned, sounds, loud⟩
    have faded := Route.fade_sounding sounds
    refine loud ?_
    have mute := done r.fade (List.mem_map.2 ⟨r, there, if_pos tuned⟩) (by rw [faded]; exact tuned) (by rw [faded])
    rw [faded] at mute
    exact mute
  · intro quiet n there tuned marked
    obtain ⟨r, member, rfl⟩ := List.mem_map.1 there
    by_cases own : r.tuner = some x
    · rw [if_pos own] at tuned marked ⊢
      by_cases sounds : r.state = .rising ∨ r.state = .playing
      · rw [Route.fade_sounding sounds]
        by_contra loud
        exact quiet ⟨r, member, own, sounds, loud⟩
      · rw [Route.fade_silent sounds] at marked ⊢
        exact absurd ((consistent r member).marked marked) sounds
    · rw [if_neg own] at tuned
      exact absurd tuned own

/-- A jump once its fade phase goes on or has ended. -/
structure State.Jumped (s v : State) (x : TunerId) (c : Nat) (rest : List Nat) (found : List (Nat × Nat)) (tuning : Bool) :
    Prop where
  tuner : v.tuner x = { s.tuner x with
    search := some ⟨false, rest, found⟩, retune := some ⟨.jump c, tuning⟩
    activity := if tuning then .selfAfJump else (s.tuner x).activity }
  other : v.tuner (otherTuner x) = s.tuner (otherTuner x)
  watch : v.tuners.watch = s.tuners.watch
  table : s.TableStands v
  told : tuning = true → ∀ n ∈ v.routes, n.tuner = some x → n.condition = .retune
  fades : tuning = false → v.routes = s.routes.map (fun r => if r.tuner = some x then r.fade else r)

theorem State.jumping_endFades {c : Nat} {rest : List Nat} {found : List (Nat × Nat)}
    (other : (s.tuner (otherTuner x)).retune = none) :
    s.Jumped (s.jumping x c rest found).endFades x c rest found ((s.jumping x c rest found).fadeDone x) := by
  let n : Tuner := { s.tuner x with search := some ⟨false, rest, found⟩ }
  obtain ⟨here, beside, watch, -, -⟩ := (s.setTuner x n).beginRetune_spec x (.jump c)
  rw [State.tuner_setTuner_same] at here
  rw [State.tuner_setTuner_other] at beside
  have watched : (s.jumping x c rest found).tuners.watch = s.tuners.watch := watch.trans (State.setTuner_shared x n).1
  have table : s.TableStands (s.jumping x c rest found) := (s.setTuner_table x n).trans (State.beginRetune_table _ x _)
  have routes := s.jumping_routes x c rest found
  have here : (s.jumping x c rest found).tuner x = { n with retune := some ⟨.jump c, false⟩ } := here
  have beside : (s.jumping x c rest found).tuner (otherTuner x) = s.tuner (otherTuner x) := beside
  generalize s.jumping x c rest found = w at *
  have fading : (w.tuner x).retune = some ⟨.jump c, false⟩ := by rw [here]
  have otherStill : (w.tuner (otherTuner x)).retune = none := by rw [beside, other]
  cases done : w.fadeDone x with
  | true =>
    let m := w.notifyTuner x .retune
    have same : ∀ y, m.tuner y = w.tuner y := fun y => State.notifyTuner_tuner x y .retune
    have ends : w.endFades = m.setTuner x { m.tuner x with activity := .selfAfJump, retune := some ⟨.jump c, true⟩ } :=
      (State.endFades_ends fading otherStill done).1
    rw [ends]
    refine ⟨?_, ?_, ?_, ?_, fun _ r there tuned => ?_, nofun⟩
    · rw [State.tuner_setTuner_same, same, here]
      rfl
    · rw [State.tuner_setTuner_other, same, beside]
    · exact (State.setTuner_shared x _).1.trans ((congrArg Tuners.watch (State.notifyTuner_tuners x .retune)).trans watched)
    · exact (table.trans (State.notice_table w _ _)).trans (State.setTuner_table m x _)
    · rw [State.setTuner_routes] at there
      exact (State.notifyTuner_told (.refl w) x .retune r there tuned).1
  | false =>
    have still : w.endFades = w := State.endFades_waits (forall_tuner x (fun _ _ => done)
      (fun l e => by rw [otherStill] at e; cases e))
    rw [still]
    exact ⟨by rw [here]; rfl, beside, watched, table, nofun, fun _ => routes⟩

theorem State.Jumped.watchSettled {v : State} {c : Nat} {rest : List Nat} {found : List (Nat × Nat)} {tuning : Bool}
    (h : s.Jumped v x c rest found tuning) (settled : s.WatchSettled) : v.WatchSettled :=
  settled.ofTuners h.watch (forall_tuner x (by rw [h.tuner]) (by rw [h.other]))

/-- A program on a jump, once the arbiter has worked. -/
theorem State.Jumped.arbitrates {v : State} {c : Nat} {rest : List Nat} {found : List (Nat × Nat)} {tuning : Bool}
    (h : s.Jumped v x c rest found tuning) (program : (s.tuner x).role = .program) :
    v.reattachWatch.assign.tuner x = { v.tuner x with watch := (v.reattachWatch.tuner x).watch } := by
  have alone : ∀ q, (v.tuner x).search = some q → q.partner = false := fun q e => by
    rw [h.tuner] at e
    cases e
    rfl
  have watched := State.reattachWatch_lone (s := v) (x := x) (by rw [h.tuner]; exact program) alone
  have idle : v.reattachWatch.beginCheck x = v.reattachWatch := State.beginCheck_idle (fun c' rest' found' e => by
    rw [watched] at e
    exact absurd (alone _ e) (by simp))
  rw [State.assign_program_tuner (by rw [watched, h.tuner]; exact program), idle]
  exact watched

end Sys2Proof.Machine
end

-- ==== support and settled obligations, part 78 ====
section
/-! SUPPORT. A program's measurement applied, and what it does to alternate-frequency following (R71, R80, R82, R84). -/

namespace Sys2Proof.Machine

variable {s t u : State} {x : TunerId}

/-! ## The measurement applied and reported (R71, R79, R90) -/

/-- A program measurement on the record and on the tuner, its report raised where it is due. -/
def State.measured (s : State) (x : TunerId) (f : Nat) (m : Measurement) (hit : Bool) : State :=
  let t := s.refreshStation f m
  (t.setTuner x { t.tuner x with measurement := some m, prevArea := some m.area }).raiseIf hit .programQuality

/-- What a measurement applied leaves. -/
structure State.Measured (s v : State) (x : TunerId) (f : Nat) (m : Measurement) : Prop where
  tuner : v.tuner x = { s.tuner x with measurement := some m, prevArea := some m.area }
  other : v.tuner (otherTuner x) = s.tuner (otherTuner x)
  watch : v.tuners.watch = s.tuners.watch
  link : v.tuners.link = s.tuners.link
  routes : v.routes = s.routes
  stations : v.stations = (s.refreshStation f m).stations
  table : (s.ensureStation f).events.station = v.events.station ∧
    v.events.flags.getLsbD 5 = (s.ensureStation f).events.flags.getLsbD 5
  flags : (s.ensureStation f).events.flags ||| v.events.flags = v.events.flags

theorem State.measured_spec (s : State) (x : TunerId) (f : Nat) (m : Measurement) (hit : Bool) :
    s.Measured (s.measured x f m hit) x f m := by
  let r := s.refreshStation f m
  let n : Tuner := { r.tuner x with measurement := some m, prevArea := some m.area }
  have same : ∀ y, r.tuner y = s.tuner y := s.refreshStation_tuner f m
  have tuners : r.tuners = s.tuners := s.refreshStation_tuners f m
  have e : s.measured x f m hit = (r.setTuner x n).raiseIf hit .programQuality := rfl
  have raised : ∀ y, (s.measured x f m hit).tuner y = (r.setTuner x n).tuner y := fun y => by
    rw [e]
    unfold State.tuner
    rw [State.raiseIf_tuners]
  have shared := State.setTuner_shared (s := r) x n
  have events : (r.setTuner x n).events = (s.ensureStation f).events := State.setTuner_events _ _ _
  have frame := (r.setTuner x n).raiseIf_frame hit .programQuality
  refine ⟨?_, ?_, ?_, ?_, ?_, ?_, ⟨?_, ?_⟩, ?_⟩
  · rw [raised, State.tuner_setTuner_same]
    unfold n
    rw [same]
  · rw [raised, State.tuner_setTuner_other, same]
  · rw [e, State.raiseIf_tuners, shared.1, tuners]
  · rw [e, State.raiseIf_tuners, shared.2.1, tuners]
  · rw [e, State.raiseIf_routes, State.setTuner_routes]
    exact s.refreshStation_routes f m
  · rw [e, State.raiseIf_stations, State.setTuner_stations]
  · rw [e, ← events]
    cases hit <;> rfl
  · rw [e, ← events]
    cases hit with
    | false => rfl
    | true =>
      show ((r.setTuner x n).raise .programQuality).events.flags.getLsbD 5 = _
      rw [State.raise_flags, BitVec.getLsbD_or]
      simp [EventSource.bit, EventSource.number]
  · rw [e, ← events]
    exact frame.flags

theorem State.Measured.noRetune {v : State} {f : Nat} {m : Measurement} (h : s.Measured v x f m) (still : s.NoRetune) :
    v.NoRetune :=
  (State.noRetune_iff _).2 (forall_tuner x (by rw [h.tuner]; exact still.tuner x) (by rw [h.other]; exact still.tuner _))

theorem State.Measured.watchSettled {v : State} {f : Nat} {m : Measurement} (h : s.Measured v x f m) (settled : s.WatchSettled) :
    v.WatchSettled := settled.ofTuners h.watch (forall_tuner x (by rw [h.tuner]) (by rw [h.other]))

/-- Whether a measurement's area is reported (R79). -/
def State.reportsArea (s : State) (x : TunerId) (a : Area) : Bool :=
  match (s.tuner x).prevArea with
  | some p => s.tuners.report.test p a
  | none => false

/-- The measurement a program takes (R78). -/
def State.programReading (s : State) (field multipath : Nat) : Measurement :=
  s.measure field multipath (if s.tuners.link = .paired then .paired else .program)

theorem State.programMeasurement_eq {f field multipath : Nat} (program : (s.tuner x).role = .program)
    (dwells : (s.tuner x).activity = .dwell) (on : (s.tuner x).frequency = some f) :
    s.programMeasurement x field multipath =
      ((s.measured x f (s.programReading field multipath) (s.reportsArea x (s.programReading field multipath).area)).afMeasured x
        (s.programReading field multipath).area).arbitrate := by
  unfold State.programMeasurement
  dsimp only
  rw [on]
  dsimp only
  rw [if_pos (by simp [program, dwells])]
  rfl

theorem State.programMeasurement_idle {field multipath : Nat}
    (h : (s.tuner x).role ≠ .program ∨ (s.tuner x).activity ≠ .dwell) : s.programMeasurement x field multipath = s := by
  unfold State.programMeasurement
  dsimp only
  split
  · rfl
  · rw [if_neg]
    rcases h with h | h
    · simp [h]
    · simp [h]

/-! ## A search ended (R84) -/

/-- A search ended with its fade, if it fades: the tuner, the other one, and the routes told. -/
theorem State.endSearch_spec (fades : ∀ k tuning, (s.tuner x).retune = some ⟨k, tuning⟩ → tuning = false) :
    (s.endSearch x).tuner x = { (s.tuner x).searchOver with retune := none } ∧
      (s.endSearch x).tuner (otherTuner x) =
        (if (s.tuner x).usesOther then s.cancelCheck (otherTuner x) else s).tuner (otherTuner x) ∧
      (s.endSearch x).tuners.watch = s.tuners.watch ∧
      ((s.tuner x).retune.isSome = true → (∀ r ∈ s.routes, r.Consistent) →
        ∀ n ∈ (s.endSearch x).routes, n.tuner = some x → n.fadeMark = false) := by
  unfold State.endSearch
  extract_lets t s1 mine s2
  have cancelled : s1.tuner x = s.tuner x ∧ s1.tuners.watch = s.tuners.watch ∧ s1.routes = s.routes := by
    unfold s1
    split
    · have other := State.cancelCheck_other (s := s) (otherTuner x)
      rw [show otherTuner (otherTuner x) = x by cases x <;> rfl] at other
      exact ⟨other, (s.cancelCheck_applies _).watch, by simp⟩
    · exact ⟨rfl, rfl, rfl⟩
  obtain ⟨own, watch, routes⟩ := cancelled
  have here : s2.tuner x = (s.tuner x).searchOver := by
    unfold s2
    rw [State.tuner_setTuner_same]
    unfold mine
    rw [own]
    rfl
  have beside : s2.tuner (otherTuner x) = s1.tuner (otherTuner x) := State.tuner_setTuner_other _ _ _
  have watched : s2.tuners.watch = s.tuners.watch := (State.setTuner_shared _ _).1.trans watch
  split
  · rename_i k fading
    obtain ⟨after, away⟩ := s2.abandonRetune_tuner x
    refine ⟨by rw [after, here], by rw [away, beside], ?_, fun _ consistent n there => ?_⟩
    · exact ((congrArg Tuners.watch (State.notifyTuner_tuners x .available)).trans (State.setTuner_shared _ _).1).trans watched
    · refine State.notifyTuner_unmarked (fun r member => consistent r ?_) x n there
      rw [State.setTuner_routes] at member
      rw [← routes]
      unfold s2 at member
      rw [State.setTuner_routes] at member
      exact member
  · rename_i still
    have none : (s.tuner x).retune = none := by
      cases retune : (s.tuner x).retune with
      | none => rfl
      | some r =>
        obtain ⟨k, tuning⟩ := r
        rw [fades k tuning retune] at retune
        exact absurd retune (still k)
    refine ⟨?_, beside, watched, fun some => by rw [none] at some; cases some⟩
    rw [here, ← none]
    rfl

end Sys2Proof.Machine
end

-- ==== support and settled obligations, part 79 ====
section
/-! SUPPORT. Alternate-frequency following after a measurement: work without a retune, or a jump that begins (R80 to R84). -/

namespace Sys2Proof.Machine

variable {s t u v : State} {x : TunerId}

/-- Work on a program's search that retunes nothing and leaves the table. -/
structure State.Quietly (s v : State) (x : TunerId) : Prop where
  noRetune : s.NoRetune → v.NoRetune
  watch : v.tuners.watch = s.tuners.watch
  watches : ∀ y, (v.tuner y).watch = (s.tuner y).watch
  table : s.TableStands v
  tuner : v.tuner x = { s.tuner x with af := (v.tuner x).af, streak := (v.tuner x).streak, search := (v.tuner x).search }

namespace State.Quietly

theorem refl (s : State) (x : TunerId) : s.Quietly s x := ⟨id, rfl, fun _ => rfl, .refl s, rfl⟩

theorem trans (h : s.Quietly t x) (k : t.Quietly u x) : s.Quietly u x where
  noRetune := fun still => k.noRetune (h.noRetune still)
  watch := k.watch.trans h.watch
  watches := fun y => (k.watches y).trans (h.watches y)
  table := h.table.trans k.table
  tuner := by rw [k.tuner, h.tuner]

theorem setTuner {n : Tuner} (h : n = { s.tuner x with af := n.af, streak := n.streak, search := n.search }) :
    s.Quietly (s.setTuner x n) x where
  noRetune := fun still => still.setTuner (by rw [h]; exact still.tuner x)
  watch := (State.setTuner_shared x n).1
  watches := forall_tuner x (by rw [State.tuner_setTuner_same, h]) (by rw [State.tuner_setTuner_other])
  table := s.setTuner_table x n
  tuner := by
    rw [State.tuner_setTuner_same]
    exact h

theorem watchSettled (h : s.Quietly v x) (k : s.WatchSettled) : v.WatchSettled := k.ofTuners h.watch h.watches

end State.Quietly

theorem State.unpair_quietly (program : (s.tuner x).role = .program) : s.Quietly s.unpair x where
  noRetune := fun still => (State.noRetune_iff _).2 (fun y => by
    rw [State.unpair_tuner, Tuner.unpartnered_retune]
    exact still.tuner y)
  watch := rfl
  watches := fun y => by rw [State.unpair_tuner, (s.tuner y).unpartnered_keeps.2.1]
  table := .same rfl rfl
  tuner := by
    have same : s.unpair.tuner x = s.tuner x := by
      rw [State.unpair_tuner]
      unfold Tuner.unpartnered
      rw [if_neg (by rw [program]; decide)]
    rw [same]

theorem State.startSearch_quietly (program : (s.tuner x).role = .program) : s.Quietly (s.startSearch x) x := by
  unfold State.startSearch
  split
  · exact .setTuner rfl
  · extract_lets partner mine u
    have begun : s.Quietly u x := .setTuner rfl
    split
    · refine begun.trans (State.unpair_quietly ?_)
      rw [begun.tuner]
      exact program
    · exact begun

theorem State.endSearch_quietly (still : s.NoRetune) : s.Quietly (s.endSearch x) x := by
  have applies := State.endSearch_applies (still.tuner x)
  obtain ⟨own, -⟩ := State.endSearch_spec (s := s) (x := x) (fun k tuning e => by rw [still.tuner x] at e; cases e)
  refine ⟨applies.noRetune, applies.watch, fun y => (applies.tuners y).watch,
    .same (State.endSearch_stations (still.tuner x)) applies.events, ?_⟩
  rw [own, ← still.tuner x]
  rfl

/-! ## The branches of R80, R82 and R84 -/

theorem State.afMeasured_searching (searching : (s.tuner x).af = .searching) (a : Area) :
    s.afMeasured x a = if a = .iii then s.beginJump x else s.endSearch x := by
  unfold State.afMeasured
  dsimp only
  rw [searching]

theorem State.afMeasured_confirming (confirming : (s.tuner x).af = .confirming) (a : Area) : s.afMeasured x a = s := by
  unfold State.afMeasured
  dsimp only
  rw [confirming]

theorem State.afMeasured_idle (idle : (s.tuner x).af = .idle) (a : Area) : s.afMeasured x a =
    if s.followed x && a = .iii then
      if 3 ≤ (s.tuner x).streak + 1 then
        (s.setTuner x { s.tuner x with streak := min 3 ((s.tuner x).streak + 1) }).startSearch x
      else s.setTuner x { s.tuner x with streak := min 3 ((s.tuner x).streak + 1) }
    else s.setTuner x { s.tuner x with streak := 0 } := by
  unfold State.afMeasured
  dsimp only
  rw [idle]

theorem State.afMeasured_idle_quietly (program : (s.tuner x).role = .program) (idle : (s.tuner x).af = .idle) (a : Area) :
    s.Quietly (s.afMeasured x a) x := by
  have counted : s.Quietly (s.setTuner x { s.tuner x with streak := min 3 ((s.tuner x).streak + 1) }) x := .setTuner rfl
  rw [State.afMeasured_idle idle]
  split
  · split
    · refine counted.trans (State.startSearch_quietly ?_)
      rw [counted.tuner]
      exact program
    · exact counted
  · exact .setTuner rfl

/-- A search of one's own jumps to its next candidate, another does nothing. -/
theorem State.beginJump_cases (s : State) (x : TunerId) :
    s.beginJump x = s ∨ ∃ c rest found, s.beginJump x = s.jumping x c rest found := by
  unfold State.beginJump
  split
  · rename_i c rest found _ _
    exact .inr ⟨c, rest, found, rfl⟩
  · exact .inl rfl

/-- A measurement changes a search without a retune, or begins a jump. -/
theorem State.afMeasured_cases (still : s.NoRetune) (program : (s.tuner x).role = .program) (a : Area) :
    s.Quietly (s.afMeasured x a) x ∨ ∃ c rest found, (s.tuner x).af = .searching ∧ s.afMeasured x a = s.jumping x c rest found := by
  cases af : (s.tuner x).af with
  | idle => exact .inl (State.afMeasured_idle_quietly program af a)
  | searching =>
    rw [State.afMeasured_searching af]
    split
    · rcases s.beginJump_cases x with e | ⟨c, rest, found, e⟩
      · rw [e]
        exact .inl (.refl s x)
      · exact .inr ⟨c, rest, found, rfl, e⟩
    · exact .inl (State.endSearch_quietly still)
  | confirming =>
    rw [State.afMeasured_confirming af]
    exact .inl (.refl s x)

/-- The table stands while a measurement's search is followed up. -/
theorem State.afMeasured_table (still : s.NoRetune) (settled : s.WatchSettled) (program : (s.tuner x).role = .program)
    (a : Area) : s.TableStands (s.afMeasured x a).arbitrate := by
  rcases State.afMeasured_cases still program a with quietly | ⟨c, rest, found, -, e⟩
  · rw [State.arbitrate_assigns (quietly.noRetune still) (quietly.watchSettled settled)]
    exact quietly.table.trans (State.assign_table _)
  · have jumped := State.jumping_endFades (c := c) (rest := rest) (found := found) (still.tuner (otherTuner x))
    rw [e, State.arbitrate_eq, (jumped.watchSettled settled).reattachWatch]
    exact jumped.table.trans (State.assign_table _)

/-- A program that measures stays on its frequency, in DWELL but for a jump of its search. -/
theorem State.afMeasured_stays (still : s.NoRetune) (program : (s.tuner x).role = .program)
    (dwells : (s.tuner x).activity = .dwell) (a : Area) :
    ((s.afMeasured x a).arbitrate.tuner x).frequency = (s.tuner x).frequency ∧
      (((s.afMeasured x a).arbitrate.tuner x).af = .searching ∨ ((s.afMeasured x a).arbitrate.tuner x).activity = .dwell) := by
  rcases State.afMeasured_cases still program a with quietly | ⟨c, rest, found, searching, e⟩
  · obtain ⟨stands, -, -⟩ := State.arbitrate_program (x := x) (quietly.noRetune still).endFades
      (by rw [quietly.tuner]; exact program)
    rw [stands, quietly.tuner]
    exact ⟨rfl, .inr dwells⟩
  · have jumped := State.jumping_endFades (c := c) (rest := rest) (found := found) (still.tuner (otherTuner x))
    rw [e, State.arbitrate_eq, jumped.arbitrates program, jumped.tuner]
    exact ⟨rfl, .inl searching⟩

theorem State.Quietly.measures (h : s.Quietly v x) : (s.tuner x).Measures (v.tuner x) := by
  rw [h.tuner]
  exact ⟨rfl, rfl, rfl⟩

/-- What follows a measurement keeps it. -/
theorem State.afMeasured_measures (program : (s.tuner x).role = .program) (a : Area) :
    (s.tuner x).Measures ((s.afMeasured x a).tuner x) := by
  cases af : (s.tuner x).af with
  | idle => exact (State.afMeasured_idle_quietly program af a).measures
  | searching =>
    rw [State.afMeasured_searching af]
    split
    · rcases s.beginJump_cases x with e | ⟨c, rest, found, e⟩
      · rw [e]
        exact .refl _
      · let n : Tuner := { s.tuner x with search := some ⟨false, rest, found⟩ }
        obtain ⟨here, -⟩ := (s.setTuner x n).beginRetune_spec x (.jump c)
        rw [State.tuner_setTuner_same] at here
        rw [e, show (s.jumping x c rest found).tuner x = _ from here]
        exact ⟨rfl, rfl, rfl⟩
    · exact s.endSearch_measures x
  | confirming =>
    rw [State.afMeasured_confirming af]
    exact .refl _

end Sys2Proof.Machine
end

-- ==== support and settled obligations, part 80 ====
section
/-! SUPPORT. The area-III streak and the search it starts (R80, R81). -/

namespace Sys2Proof.Machine

variable {s t u v : State} {x : TunerId} {f : Nat}

/-- The AF list of a frequency's record, none without one. -/
def Stations.afListAt (a : Stations) (f : Nat) : List Nat :=
  match a.find f with
  | some r => r.afList
  | none => []

/-- A refreshed record keeps its AF list, and one that is created has none. -/
theorem State.refreshStation_afListAt (s : State) (f : Nat) (m : Measurement) :
    (s.refreshStation f m).stations.afListAt f = s.stations.afListAt f := by
  have amends := (s.refreshStation_amends f m).here
  have made : (s.ensureStation f).stations.find f = s.stations.find f ∨
      (s.stations.find f = none ∧ (s.ensureStation f).stations.find f = some (Station.new f)) := by
    cases there : s.stations.find f with
    | some r =>
      rw [State.ensureStation_found there]
      exact .inl there
    | none =>
      by_cases room : s.stations.records.length < 48
      · exact .inr ⟨rfl, (State.ensureStation_room there room).1⟩
      · cases victim : s.stations.victim with
        | some r => exact .inr ⟨rfl, (State.ensureStation_victim there (by omega) victim).1⟩
        | none =>
          obtain ⟨kept, -⟩ := State.ensureStation_full there (by omega) victim
          refine .inl ?_
          unfold Stations.find at there ⊢
          rw [kept, there]
  unfold Stations.afListAt
  rw [amends]
  rcases made with same | ⟨absent, fresh⟩
  · rw [same]
    cases s.stations.find f <;> rfl
  · rw [absent, fresh]
    rfl

theorem State.followed_iff (on : (s.tuner x).frequency = some f) :
    s.followed x = true ↔ (s.tuner x).code ≠ none ∧ s.stations.afListAt f ≠ [] := by
  unfold State.followed Stations.afListAt
  dsimp only
  rw [on]
  cases code : (s.tuner x).code with
  | none => simp
  | some c =>
    cases found : s.stations.find f with
    | none => simp [found]
    | some r => simp [found]

theorem State.searchCandidates_eq (on : (s.tuner x).frequency = some f) :
    s.searchCandidates x = (s.stations.afListAt f).filter (fun g => !(s.tuner (otherTuner x)).holds g) := by
  unfold State.searchCandidates Stations.afListAt
  rw [on]
  cases found : s.stations.find f with
  | none => simp [found]
  | some r => simp [found]

/-- Quiet work, once the arbiter has worked, leaves the program but for its claims. -/
theorem State.Quietly.claimed (h : s.Quietly v x) (still : s.NoRetune) (settled : s.WatchSettled) :
    (v.tuner x).Claimed (v.arbitrate.tuner x) := by
  rw [State.arbitrate_assigns (h.noRetune still) (h.watchSettled settled)]
  exact v.assign_claimed x

theorem Tuner.Claimed.af {a b : Tuner} (h : a.Claimed b) : b.af = a.af := by rw [h.rest]

theorem Tuner.Claimed.streak {a b : Tuner} (h : a.Claimed b) : b.streak = a.streak := by rw [h.rest]

/-- The streak set, and what the arbiter makes of it. -/
theorem State.streak_arbitrates (still : s.NoRetune) (settled : s.WatchSettled) (n : Nat) :
    ((s.setTuner x { s.tuner x with streak := n }).arbitrate.tuner x).af = (s.tuner x).af ∧
      ((s.setTuner x { s.tuner x with streak := n }).arbitrate.tuner x).streak = n := by
  have quietly : s.Quietly (s.setTuner x { s.tuner x with streak := n }) x := .setTuner rfl
  have claimed := quietly.claimed still settled
  rw [State.tuner_setTuner_same] at claimed
  exact ⟨claimed.af, claimed.streak⟩

section
variable (still : s.NoRetune) (settled : s.WatchSettled) (idle : (s.tuner x).af = .idle)
include still settled idle

/-- A program that is not followed, or not in area III, has streak 0 (R80). -/
theorem State.afMeasured_resets {a : Area} (near : s.followed x = false ∨ a ≠ .iii) :
    ((s.afMeasured x a).arbitrate.tuner x).af = .idle ∧ ((s.afMeasured x a).arbitrate.tuner x).streak = 0 := by
  have e : s.afMeasured x a = s.setTuner x { s.tuner x with streak := 0 } := by
    rw [State.afMeasured_idle idle, if_neg]
    rcases near with near | near
    · simp [near]
    · simp [near]
  obtain ⟨af, streak⟩ := State.streak_arbitrates (x := x) still settled 0
  rw [e]
  exact ⟨af.trans idle, streak⟩

/-- Up to 2 the streak counts (R80). -/
theorem State.afMeasured_counts (followed : s.followed x = true) (few : (s.tuner x).streak < 2) :
    ((s.afMeasured x .iii).arbitrate.tuner x).af = .idle ∧
      ((s.afMeasured x .iii).arbitrate.tuner x).streak = (s.tuner x).streak + 1 := by
  have e : s.afMeasured x .iii = s.setTuner x { s.tuner x with streak := min 3 ((s.tuner x).streak + 1) } := by
    rw [State.afMeasured_idle idle, if_pos (by simp [followed]), if_neg (by omega)]
  obtain ⟨af, streak⟩ := State.streak_arbitrates (x := x) still settled (min 3 ((s.tuner x).streak + 1))
  rw [e]
  exact ⟨af.trans idle, streak.trans (by omega)⟩

omit still settled in
/-- At 3 the search starts (R80). -/
theorem State.afMeasured_starts (followed : s.followed x = true) (many : 2 ≤ (s.tuner x).streak) :
    s.afMeasured x .iii = (s.setTuner x { s.tuner x with streak := 3 }).startSearch x := by
  rw [State.afMeasured_idle idle, if_pos (by simp [followed]), if_pos (by omega),
    show min 3 ((s.tuner x).streak + 1) = 3 by omega]

end

/-! ## The search started (R80) -/

theorem State.startSearch_none (none : s.searchCandidates x = []) :
    s.startSearch x = s.setTuner x { s.tuner x with streak := 0 } := by
  unfold State.startSearch
  rw [none]

/-- The state with a search begun, its pairing not yet ended. -/
def State.searchBegun (s : State) (x : TunerId) (cs : List Nat) : State :=
  s.setTuner x { s.tuner x with
    af := .searching, search := some { partner := (s.tuner (otherTuner x)).role ≠ .program, candidates := cs, found := [] } }

theorem State.startSearch_some {g : Nat} {rest : List Nat} (some : s.searchCandidates x = g :: rest) :
    s.startSearch x = if s.tuners.link = .paired then (s.searchBegun x (g :: rest)).unpair else s.searchBegun x (g :: rest) := by
  have link : (s.searchBegun x (g :: rest)).tuners.link = s.tuners.link := (State.setTuner_shared x _).2.1
  unfold State.startSearch
  rw [some, ← link]
  rfl

/-- A program's search started over some candidates. -/
structure State.Searches (s v : State) (x : TunerId) (cs : List Nat) : Prop where
  quietly : s.Quietly v x
  tuner : v.tuner x = { s.tuner x with
    af := .searching, search := some { partner := (s.tuner (otherTuner x)).role ≠ .program, candidates := cs, found := [] } }
  other : v.tuner (otherTuner x) =
    if s.tuners.link = .paired then (s.tuner (otherTuner x)).unpartnered else s.tuner (otherTuner x)

theorem State.startSearch_searches (program : (s.tuner x).role = .program) {g : Nat} {rest : List Nat}
    (some : s.searchCandidates x = g :: rest) : s.Searches (s.startSearch x) x (g :: rest) := by
  have here : (s.searchBegun x (g :: rest)).tuner x = _ := State.tuner_setTuner_same _ _ _
  have beside : (s.searchBegun x (g :: rest)).tuner (otherTuner x) = s.tuner (otherTuner x) := State.tuner_setTuner_other _ _ _
  refine ⟨State.startSearch_quietly program, ?_, ?_⟩
  · rw [State.startSearch_some some]
    split
    · rw [State.unpair_tuner, here]
      exact if_neg (by simp [program])
    · exact here
  · rw [State.startSearch_some some]
    split
    · rw [State.unpair_tuner, beside]
    · exact beside

/-- A search started keeps its candidates where no check can begin at once. -/
theorem State.Searches.waits {cs : List Nat} (h : s.Searches v x cs) (still : s.NoRetune) (settled : s.WatchSettled)
    (program : (s.tuner x).role = .program)
    (busy : (s.tuner (otherTuner x)).role = .program ∨
      s.tuners.link ≠ .paired ∧ (s.tuner (otherTuner x)).activity ≠ .none) :
    (v.arbitrate.tuner x).search = some ⟨(s.tuner (otherTuner x)).role ≠ .program, cs, []⟩ := by
  have idle : v.beginCheck x = v := State.beginCheck_idle (fun c rest found e => by
    rw [h.tuner] at e
    injection e with e
    injection e with partner
    rw [h.other]
    rcases busy with held | ⟨loose, work⟩
    · simp [held] at partner
    · rw [if_neg loose]
      exact .inr work)
  rw [State.arbitrate_assigns (h.quietly.noRetune still) (h.quietly.watchSettled settled),
    State.assign_program_tuner (by rw [h.tuner]; exact program), idle, h.tuner]

/-- A search started through a FREE idle tuner, or the partner of a pairing, begins its first check at once. -/
theorem State.Searches.checks {g : Nat} {rest : List Nat} (h : s.Searches v x (g :: rest)) (still : s.NoRetune)
    (settled : s.WatchSettled) (program : (s.tuner x).role = .program)
    (ready : (s.tuner (otherTuner x)).role = .partner ∧ s.tuners.link = .paired ∨
      (s.tuner (otherTuner x)).role = .free ∧ (s.tuner (otherTuner x)).activity = .none ∧ s.tuners.link ≠ .paired) :
    (v.arbitrate.tuner x).search = some ⟨true, rest, []⟩ ∧ (v.arbitrate.tuner (otherTuner x)).activity = .afCheckForMaster ∧
      (v.arbitrate.tuner (otherTuner x)).check = some ⟨g, none⟩ ∧ v.arbitrate.tuners.link = .none := by
  have back : otherTuner (otherTuner x) = x := by cases x <;> rfl
  have partner : decide ((s.tuner (otherTuner x)).role ≠ .program) = true := by
    rcases ready with ⟨role, -⟩ | ⟨role, -⟩ <;> simp [role]
  have ready' : (v.tuner (otherTuner x)).role = .free ∧ (v.tuner (otherTuner x)).activity = .none := by
    rw [h.other]
    rcases ready with ⟨role, paired⟩ | ⟨role, idle, loose⟩
    · rw [if_pos paired]
      unfold Tuner.unpartnered
      rw [if_pos role]
      exact ⟨rfl, rfl⟩
    · rw [if_neg loose]
      exact ⟨role, idle⟩
  have search : (v.tuner x).search = some ⟨true, g :: rest, []⟩ := by rw [h.tuner, partner]
  obtain ⟨activity, check, left, -, link⟩ := State.arbitrate_checks (s := v) (x := otherTuner x) (g := g) (others := rest)
    (fs := []) (h.quietly.noRetune still) (h.quietly.watchSettled settled) (by rw [back]; exact search) ready'.1 ready'.2
    (by rw [back, h.tuner]; exact program)
  rw [back] at left
  exact ⟨left, activity, check, link⟩

end Sys2Proof.Machine
end

-- ==== support and settled obligations, part 81 ====
section
/-! SUPPORT. A search ended by a measurement, and the next jump of a search of one's own (R77, R82, R84). -/

namespace Sys2Proof.Machine

variable {s t u v : State} {x : TunerId} {f : Nat}

/-! ## A search ended in area I or II (R84) -/

theorem State.settlePairing_check (s : State) (y : TunerId) : (s.settlePairing.tuner y).check = (s.tuner y).check := by
  have start : ∀ (w : State) (m p : TunerId), ((w.startPairing m p).tuner y).check = (w.tuner y).check := fun w m p => by
    cases p <;> cases y <;> rfl
  have met : ∀ m p, ((s.meetPartner m p).tuner y).check = (s.tuner y).check := fun m p => by
    have scan : ((s.cancelScan p).tuner y).check = (s.tuner y).check := by
      unfold State.cancelScan
      split
      · cases p <;> cases y <;> rfl
      · rfl
    have link : (State.tuner { s with tuners.link := .requested } y).check = (s.tuner y).check := by cases y <;> rfl
    unfold State.meetPartner
    split
    · exact start s m p
    · split
      · exact (start _ m p).trans scan
      · exact link
    · exact link
  unfold State.settlePairing
  split
  · split
    · exact met _ _
    · rfl
  · split
    · exact met _ _
    · cases y <;> rfl
  · rfl

/-- A search ended by a measurement, once the arbiter has worked. -/
theorem State.endSearch_arbitrates (settled : s.WatchSettled) (program : (s.tuner x).role = .program)
    (other : (s.tuner (otherTuner x)).retune = none)
    (fades : ∀ k tuning, (s.tuner x).retune = some ⟨k, tuning⟩ → tuning = false) :
    ({ (s.tuner x).searchOver with retune := none } : Tuner).Claimed ((s.endSearch x).arbitrate.tuner x) ∧
      ((s.tuner x).usesOther = true → (s.tuner (otherTuner x)).activity = .afCheckForMaster →
        ((s.endSearch x).arbitrate.tuner (otherTuner x)).check = none) ∧
      (s.endSearch x).arbitrate.routes = (s.endSearch x).routes := by
  obtain ⟨own, beside, watch, -⟩ := State.endSearch_spec fades
  have cancelled := (s.cancelCheck_applies (otherTuner x)).tuners (otherTuner x)
  have kept : ((if (s.tuner x).usesOther then s.cancelCheck (otherTuner x) else s).tuner (otherTuner x)).retune =
      (s.tuner (otherTuner x)).retune ∧
      ((if (s.tuner x).usesOther then s.cancelCheck (otherTuner x) else s).tuner (otherTuner x)).watch =
        (s.tuner (otherTuner x)).watch := by
    split
    · exact ⟨cancelled.retune, cancelled.watch⟩
    · exact ⟨rfl, rfl⟩
  have still : (s.endSearch x).NoRetune := (State.noRetune_iff _).2 (forall_tuner x (by rw [own])
    (by rw [beside, kept.1, other]))
  have calm : (s.endSearch x).WatchSettled := settled.ofTuners watch (forall_tuner x (by rw [own]; rfl)
    (by rw [beside, kept.2]))
  have arbitrated := State.arbitrate_assigns still calm
  refine ⟨?_, fun uses checks => ?_, ?_⟩
  · rw [arbitrated, ← own]
    exact (s.endSearch x).assign_claimed x
  · have bare : (s.endSearch x).beginCheck x = s.endSearch x := State.beginCheck_of_none (by rw [own]; rfl)
    rw [arbitrated, State.assign_program_eq (x := x) (by rw [own]; exact program), bare, State.settlePairing_check, beside,
      if_pos uses]
    unfold State.cancelCheck
    rw [if_pos checks, State.tuner_setTuner_same]
  · rw [State.arbitrate_routes, still.endFades]

/-! ## The next jump (R82) -/

theorem State.beginJump_jumps {c : Nat} {rest : List Nat} {found : List (Nat × Nat)}
    (search : (s.tuner x).search = some ⟨false, c :: rest, found⟩) (still : (s.tuner x).retune = none) :
    s.beginJump x = s.jumping x c rest found := by
  unfold State.beginJump
  rw [search, still]
  rfl

/-- A jump begun, once the arbiter has worked: the program but for its watch, and its routes. -/
theorem State.jumping_arbitrates {c : Nat} {rest : List Nat} {found : List (Nat × Nat)} (settled : s.WatchSettled)
    (program : (s.tuner x).role = .program) (other : (s.tuner (otherTuner x)).retune = none) :
    (s.jumping x c rest found).arbitrate.tuner x = { s.tuner x with
        search := some ⟨false, rest, found⟩, retune := some ⟨.jump c, (s.jumping x c rest found).fadeDone x⟩
        activity := if (s.jumping x c rest found).fadeDone x then .selfAfJump else (s.tuner x).activity } ∧
      ((s.jumping x c rest found).fadeDone x = true →
        ∀ n ∈ (s.jumping x c rest found).arbitrate.routes, n.tuner = some x → n.condition = .retune) ∧
      ((s.jumping x c rest found).fadeDone x = false →
        (s.jumping x c rest found).arbitrate.routes = s.routes.map (fun r => if r.tuner = some x then r.fade else r)) := by
  have jumped := State.jumping_endFades (c := c) (rest := rest) (found := found) other
  have routes := State.arbitrate_routes (s.jumping x c rest found)
  have lone := jumped.arbitrates program
  rw [(jumped.watchSettled settled).reattachWatch] at lone
  rw [routes, State.arbitrate_eq, (jumped.watchSettled settled).reattachWatch, lone]
  exact ⟨jumped.tuner, jumped.told, jumped.fades⟩

/-- The routes of a fading program: those that sound are marked and aimed at MUTE. -/
theorem faded_routes {rs : List Route} {n : Route} (there : n ∈ rs.map (fun r => if r.tuner = some x then r.fade else r))
    (tuned : n.tuner = some x) (sounds : n.state = .rising ∨ n.state = .playing) :
    n.fadeMark = true ∧ n.target = some .mute := by
  obtain ⟨r, -, rfl⟩ := List.mem_map.1 there
  by_cases own : r.tuner = some x
  · rw [if_pos own] at sounds ⊢
    by_cases before : r.state = .rising ∨ r.state = .playing
    · rw [Route.fade_sounding before]
      exact ⟨rfl, rfl⟩
    · rw [Route.fade_silent before] at sounds
      exact absurd sounds before
  · rw [if_neg own] at tuned
    exact absurd tuned own

end Sys2Proof.Machine
end

-- ==== support and settled obligations, part 82 ====
section
/-! SUPPORT. Each part of the statement on program measurements (R71 to R92). -/

namespace Sys2Proof.Machine

variable {s v : State} {x : TunerId} {f : Nat} {m : Measurement}

/-! ## Victims (R92) -/

theorem Stations.victim_none {a : Stations} (h : ∀ r ∈ a.records, r.pinned = true ∨ r.frequency ∈ a.inUse) : a.victim = none := by
  unfold Stations.victim
  rw [List.filter_eq_nil_iff.2]
  · rfl
  · intro r there
    rcases h r there with pinned | used
    · simp [pinned]
    · simp [(Stations.isInUse_iff a r.frequency).2 used]

/-- A full table without a victim remembers the in-use frequency it was reported for (R92). -/
theorem State.ensureStation_remembers (absent : s.stations.find f = none) (full : 48 ≤ s.stations.records.length)
    (none : s.stations.victim = none) (used : f ∈ s.stations.inUse) : f ∈ (s.ensureStation f).stations.fullRaised := by
  have inserted : s.stations.inserted (Station.new f) = .none := by
    unfold Stations.inserted
    rw [if_neg (Nat.not_lt.2 full), none]
  have e : s.ensureStation f = s.reportFull f := by
    unfold State.ensureStation State.insertStation
    rw [absent, inserted]
    rfl
  rw [e]
  unfold State.reportFull
  rw [if_pos ((Stations.isInUse_iff _ _).2 used)]
  split
  · rename_i once
    exact once
  · exact List.mem_cons_self

/-! ## The report (R79) -/

theorem Report.test_iff (k : Report) (old new : Area) : k.test old new = true ↔
    match k with
    | .never => False
    | .enterI => old ≠ .i ∧ new = .i
    | .enterII => old ≠ .ii ∧ new = .ii
    | .enterIII => old ≠ .iii ∧ new = .iii
    | .leaveI => old = .i ∧ new ≠ .i
    | .leaveII => old = .ii ∧ new ≠ .ii
    | .leaveIII => old = .iii ∧ new ≠ .iii
    | .anyChange => old ≠ new := by
  cases k <;> simp [Report.test, and_comm]

theorem State.measured_reports (h : s.reportsArea x m.area = true) :
    (s.measured x f m (s.reportsArea x m.area)).events.flags.getLsbD 6 = true := by
  unfold State.measured
  rw [h]
  show (State.raise _ .programQuality).events.flags.getLsbD 6 = true
  rw [State.raise_flags, BitVec.getLsbD_or]
  simp [EventSource.bit, EventSource.number]

/-! ## The record (R90, R92) -/

section
variable (h : s.Measured v x f m) (still : s.NoRetune) (settled : s.WatchSettled) (program : (s.tuner x).role = .program)
include h still settled program

theorem State.Measured.table_stands : (s.refreshStation f m).stations.records = (v.afMeasured x m.area).arbitrate.stations.records ∧
    (s.refreshStation f m).stations.fullRaised = (v.afMeasured x m.area).arbitrate.stations.fullRaised ∧
    (s.ensureStation f).events.station = (v.afMeasured x m.area).arbitrate.events.station ∧
    (v.afMeasured x m.area).arbitrate.events.flags.getLsbD 5 = (s.ensureStation f).events.flags.getLsbD 5 := by
  have table := State.afMeasured_table (x := x) (h.noRetune still) (h.watchSettled settled)
    (by rw [h.tuner]; exact program) m.area
  rw [table.records, table.raised, table.station, table.full, h.stations]
  exact ⟨rfl, rfl, h.table.1, h.table.2⟩

theorem State.Measured.find (g : Nat) :
    (v.afMeasured x m.area).arbitrate.stations.find g = (s.refreshStation f m).stations.find g := by
  unfold Stations.find
  rw [(h.table_stands still settled program).1]

omit still settled program in
theorem State.Measured.flag {i : Nat} (set : (s.ensureStation f).events.flags.getLsbD i = true) :
    (v.afMeasured x m.area).arbitrate.events.flags.getLsbD i = true :=
  flag_stands ((v.afMeasured_frame x m.area).trans (State.arbitrate_frame _)).flags (flag_stands h.flags set)

/-- A record there is refreshed. -/
theorem State.Measured.refreshes {r : Station} (there : s.stations.find f = some r) :
    (v.afMeasured x m.area).arbitrate.stations.find f = some (r.refresh m) := by
  rw [h.find still settled program, (s.refreshStation_amends f m).here, State.ensureStation_found there, there]
  rfl

/-- A missing record finds room. -/
theorem State.Measured.inserts (absent : s.stations.find f = none) (room : s.stations.records.length < 48) :
    (v.afMeasured x m.area).arbitrate.stations.find f = some ((Station.new f).refresh m) ∧
      (v.afMeasured x m.area).arbitrate.events.station = true ∧
      (v.afMeasured x m.area).arbitrate.events.flags.getLsbD 4 = true ∧
      ∀ g, g ≠ f → (v.afMeasured x m.area).arbitrate.stations.find g = s.stations.find g := by
  obtain ⟨inserted, others, station, flag, -⟩ := State.ensureStation_room absent room
  have amends := s.refreshStation_amends f m
  refine ⟨?_, ?_, h.flag flag, fun g apart => ?_⟩
  · rw [h.find still settled program, amends.here, inserted]
    rfl
  · rw [← (h.table_stands still settled program).2.2.1, station]
  · rw [h.find still settled program, amends.beside g apart, others g apart]

/-- A missing record takes the place of the victim of a full table. -/
theorem State.Measured.replaces (absent : s.stations.find f = none) (full : 48 ≤ s.stations.records.length) {w : Station}
    (victim : s.stations.victim = some w) :
    (v.afMeasured x m.area).arbitrate.stations.find f = some ((Station.new f).refresh m) ∧
      (v.afMeasured x m.area).arbitrate.events.station = true ∧
      (v.afMeasured x m.area).arbitrate.events.flags.getLsbD 4 = true ∧
      (v.afMeasured x m.area).arbitrate.stations.find w.frequency = none ∧
      ∀ g, g ≠ f → g ≠ w.frequency → (v.afMeasured x m.area).arbitrate.stations.find g = s.stations.find g := by
  obtain ⟨inserted, gone, others, station, flag⟩ := State.ensureStation_victim absent full victim
  have amends := s.refreshStation_amends f m
  have apart : w.frequency ≠ f := Stations.find_none absent w (Stations.victim_mem victim)
  refine ⟨?_, ?_, h.flag flag, ?_, fun g n k => ?_⟩
  · rw [h.find still settled program, amends.here, inserted]
    rfl
  · rw [← (h.table_stands still settled program).2.2.1, station]
  · rw [h.find still settled program, amends.beside _ apart, gone]
  · rw [h.find still settled program, amends.beside g n, others g n k]

/-- A missing record that finds no place. -/
theorem State.Measured.overflows (absent : s.stations.find f = none) (full : 48 ≤ s.stations.records.length)
    (none : s.stations.victim = none) :
    (v.afMeasured x m.area).arbitrate.stations.records = s.stations.records ∧
      (f ∉ s.stations.inUse ∨ f ∉ s.stations.fullRaised →
        (v.afMeasured x m.area).arbitrate.events.flags.getLsbD 5 = true) ∧
      (f ∈ s.stations.inUse → f ∈ (v.afMeasured x m.area).arbitrate.stations.fullRaised) ∧
      (f ∈ s.stations.inUse → f ∈ s.stations.fullRaised →
        (v.afMeasured x m.area).arbitrate.events.flags.getLsbD 5 = s.events.flags.getLsbD 5) := by
  obtain ⟨kept, raised, silent, -⟩ := State.ensureStation_full absent full none
  obtain ⟨records, fullRaised, -, flag⟩ := h.table_stands still settled program
  refine ⟨?_, fun fresh => h.flag (raised fresh), fun used => ?_, fun used once => ?_⟩
  · rw [← records, (s.refreshStation_amends f m).absent ?_, kept]
    unfold Stations.find
    rw [kept]
    exact absent
  · rw [← fullRaised]
    exact State.ensureStation_remembers absent full none used
  · rw [flag, silent used once]

end

/-! ## Alternate-frequency following (R80, R82, R84) -/

/-- The search a measurement finds: ended in area I or II. -/
theorem State.Measured.ends (h : s.Measured v x f m) (settled : s.WatchSettled) (program : (s.tuner x).role = .program)
    (searching : (s.tuner x).af = .searching) (other : (s.tuner (otherTuner x)).retune = none) (near : m.area ≠ .iii)
    (fades : ∀ k tuning, (s.tuner x).retune = some ⟨k, tuning⟩ → tuning = false) :
    ((v.afMeasured x m.area).arbitrate.tuner x).af = .idle ∧ ((v.afMeasured x m.area).arbitrate.tuner x).streak = 0 ∧
      ((v.afMeasured x m.area).arbitrate.tuner x).search = none ∧ ((v.afMeasured x m.area).arbitrate.tuner x).retune = none ∧
      ((v.afMeasured x m.area).arbitrate.tuner x).frequency = (s.tuner x).frequency ∧
      ((s.tuner x).search.map (fun q => q.partner) = some true → (s.tuner (otherTuner x)).activity = .afCheckForMaster →
        ((v.afMeasured x m.area).arbitrate.tuner (otherTuner x)).check = none) ∧
      ((s.tuner x).retune.isSome = true → (∀ r ∈ s.routes, r.Consistent) →
        ∀ n ∈ (v.afMeasured x m.area).arbitrate.routes, n.tuner = some x → n.fadeMark = false) := by
  have calm := h.watchSettled settled
  have e : v.afMeasured x m.area = v.endSearch x := by
    rw [State.afMeasured_searching (by rw [h.tuner]; exact searching), if_neg near]
  have fading : ∀ k tuning, (v.tuner x).retune = some ⟨k, tuning⟩ → tuning = false := fun k tuning q =>
    fades k tuning (by rw [h.tuner] at q; exact q)
  obtain ⟨claimed, cancels, routes⟩ := State.endSearch_arbitrates calm (by rw [h.tuner]; exact program)
    (by rw [h.other]; exact other) fading
  obtain ⟨-, -, -, unmarked⟩ := State.endSearch_spec fading
  rw [e]
  refine ⟨claimed.af, claimed.streak, claimed.search rfl, by rw [claimed.rest], ?_, fun partner checks => ?_,
    fun retunes consistent n there tuned => ?_⟩
  · rw [claimed.rest, h.tuner]
    rfl
  · refine cancels ?_ (by rw [h.other]; exact checks)
    rw [h.tuner]
    cases search : (s.tuner x).search with
    | none =>
      rw [search] at partner
      cases partner
    | some q =>
      rw [search] at partner
      injection partner with partner
      simp [Tuner.usesOther, Tuner.checksThrough, search, partner]
  · rw [routes] at there
    exact unmarked (by rw [h.tuner]; exact retunes) (by rw [h.routes]; exact consistent) n there tuned

end Sys2Proof.Machine
end

-- ==== support and settled obligations, part 83 ====
section
/-! SUPPORT. Program measurements settled (R71 to R92). -/

namespace Sys2Proof.Machine

variable {s v : State} {x : TunerId} {f : Nat} {m : Measurement}

/-- The search a measurement finds: a search of one's own goes on in area III. -/
theorem State.Measured.jumps (h : s.Measured v x f m) (settled : s.WatchSettled) (program : (s.tuner x).role = .program)
    (searching : (s.tuner x).af = .searching) (other : (s.tuner (otherTuner x)).retune = none) (far : m.area = .iii)
    (still : (s.tuner x).retune = none) (consistent : ∀ r ∈ s.routes, r.Consistent) {c : Nat} {rest : List Nat}
    {found : List (Nat × Nat)} (search : (s.tuner x).search = some ⟨false, c :: rest, found⟩) :
    let t := (v.afMeasured x m.area).arbitrate
    let sounds := ∃ r ∈ s.routes, r.tuner = some x ∧ (r.state = .rising ∨ r.state = .playing) ∧ r.applied ≠ .mute
    (t.tuner x).af = .searching ∧ (t.tuner x).streak = (s.tuner x).streak ∧
      (t.tuner x).search = some ⟨false, rest, found⟩ ∧ (t.tuner x).frequency = (s.tuner x).frequency ∧
      (sounds → (t.tuner x).retune = some ⟨.jump c, false⟩ ∧ (t.tuner x).activity = (s.tuner x).activity ∧
        ∀ n ∈ t.routes, n.tuner = some x → n.state = .rising ∨ n.state = .playing →
          n.fadeMark = true ∧ n.target = some .mute) ∧
      (¬sounds → (t.tuner x).retune = some ⟨.jump c, true⟩ ∧ (t.tuner x).activity = .selfAfJump ∧
        ∀ n ∈ t.routes, n.tuner = some x → n.condition = .retune) := by
  intro t sounds
  have jumps : v.afMeasured x m.area = v.jumping x c rest found := by
    rw [State.afMeasured_searching (by rw [h.tuner]; exact searching), if_pos far,
      State.beginJump_jumps (by rw [h.tuner]; exact search) (by rw [h.tuner]; exact still)]
  obtain ⟨tuner, told, fades⟩ := State.jumping_arbitrates (s := v) (x := x) (c := c) (rest := rest) (found := found)
    (h.watchSettled settled) (by rw [h.tuner]; exact program) (by rw [h.other]; exact other)
  have silent := State.jumping_fadeDone (s := v) (x := x) (c := c) (rest := rest) (found := found)
    (by rw [h.routes]; exact consistent)
  rw [h.routes] at silent fades
  rw [h.tuner, ← jumps] at tuner
  rw [← jumps] at told fades silent
  rw [show t.tuner x = _ from tuner]
  refine ⟨searching, rfl, rfl, rfl, fun loud => ?_, fun quiet => ?_⟩
  · have going : (v.afMeasured x m.area).fadeDone x = false := Bool.eq_false_of_not_eq_true (fun done => silent.1 done loud)
    rw [going]
    refine ⟨rfl, rfl, fun n there tuned rising => ?_⟩
    rw [show t.routes = _ from fades going] at there
    exact faded_routes there tuned rising
  · have done : (v.afMeasured x m.area).fadeDone x = true := silent.2 quiet
    rw [done]
    exact ⟨rfl, rfl, told done⟩

/-- A measurement while a program searches for nothing: the streak, and the search that it starts. -/
theorem State.Measured.follows (h : s.Measured v x f m) (still : s.NoRetune) (settled : s.WatchSettled)
    (program : (s.tuner x).role = .program) (on : (s.tuner x).frequency = some f) (idle : (s.tuner x).af = .idle) :
    let t := (v.afMeasured x m.area).arbitrate
    let o := otherTuner x
    let candidates := (s.stations.afListAt f).filter (fun g => !(s.tuner o).holds g)
    let counts := (s.tuner x).code ≠ none ∧ s.stations.afListAt f ≠ []
    (¬counts ∨ m.area ≠ .iii → (t.tuner x).af = .idle ∧ (t.tuner x).streak = 0) ∧
    (counts → m.area = .iii → (s.tuner x).streak < 2 →
      (t.tuner x).af = .idle ∧ (t.tuner x).streak = (s.tuner x).streak + 1) ∧
    (counts → m.area = .iii → 2 ≤ (s.tuner x).streak →
      (candidates = [] → (t.tuner x).af = .idle ∧ (t.tuner x).streak = 0) ∧
      (∀ g rest, candidates = g :: rest →
        (t.tuner x).af = .searching ∧ (t.tuner x).streak = 3 ∧
        ((s.tuner o).role = .program → (t.tuner x).search = some ⟨false, candidates, []⟩) ∧
        ((s.tuner o).role = .free → (s.tuner o).activity = .scanStep → s.tuners.link ≠ .paired →
          (t.tuner x).search = some ⟨true, candidates, []⟩) ∧
        ((s.tuner o).role = .partner ∧ s.tuners.link = .paired ∨
            (s.tuner o).role = .free ∧ (s.tuner o).activity = .none ∧ s.tuners.link ≠ .paired →
          (t.tuner x).search = some ⟨true, rest, []⟩ ∧ (t.tuner o).activity = .afCheckForMaster ∧
          (t.tuner o).check = some ⟨g, none⟩ ∧ t.tuners.link = .none))) := by
  intro t o candidates counts
  have stillV := h.noRetune still
  have settledV := h.watchSettled settled
  have idleV : (v.tuner x).af = .idle := by rw [h.tuner]; exact idle
  have onV : (v.tuner x).frequency = some f := by rw [h.tuner]; exact on
  have programV : (v.tuner x).role = .program := by rw [h.tuner]; exact program
  have streakV : (v.tuner x).streak = (s.tuner x).streak := by rw [h.tuner]
  have lists : v.stations.afListAt f = s.stations.afListAt f := by rw [h.stations, s.refreshStation_afListAt]
  have followed : v.followed x = true ↔ counts := by
    rw [State.followed_iff onV, lists, h.tuner]
  refine ⟨fun near => ?_, fun counted far few => ?_, fun counted far many => ?_⟩
  · refine State.afMeasured_resets stillV settledV idleV (near.imp_left (fun no => ?_))
    exact Bool.eq_false_of_not_eq_true (fun yes => no (followed.1 yes))
  · obtain ⟨af, streak⟩ := State.afMeasured_counts stillV settledV idleV (followed.2 counted) (by rw [streakV]; exact few)
    rw [streakV] at streak
    unfold t
    rw [far]
    exact ⟨af, streak⟩
  · have starts := State.afMeasured_starts idleV (followed.2 counted) (by rw [streakV]; exact many)
    let u := v.setTuner x { v.tuner x with streak := 3 }
    have quietly : v.Quietly u x := .setTuner rfl
    have here : u.tuner x = { v.tuner x with streak := 3 } := State.tuner_setTuner_same _ _ _
    have beside : u.tuner o = s.tuner o := (State.tuner_setTuner_other _ _ _).trans h.other
    have linkU : u.tuners.link = s.tuners.link := (State.setTuner_shared x _).2.1.trans h.link
    have stationsU : u.stations = v.stations := State.setTuner_stations _ _ _
    have chosen : u.searchCandidates x = candidates := by
      rw [State.searchCandidates_eq (f := f) (by rw [here]; exact onV), stationsU, lists, beside]
    have stillU := quietly.noRetune stillV
    have settledU := quietly.watchSettled settledV
    have programU : (u.tuner x).role = .program := by rw [here]; exact programV
    have e : t = (u.startSearch x).arbitrate := by
      unfold t
      rw [far, starts]
    rw [e]
    refine ⟨fun empty => ?_, fun g rest some => ?_⟩
    · obtain ⟨af, streak⟩ := State.streak_arbitrates (x := x) stillU settledU 0
      rw [State.startSearch_none (chosen.trans empty)]
      exact ⟨af.trans (by rw [here]; exact idleV), streak⟩
    · have searches := State.startSearch_searches programU (chosen.trans some)
      have claimed := searches.quietly.claimed stillU settledU
      refine ⟨claimed.af.trans (by rw [searches.tuner]), claimed.streak.trans (by rw [searches.tuner, here]), fun held => ?_,
        fun free scans loose => ?_, fun ready => ?_⟩
      · rw [searches.waits stillU settledU programU (.inl (by rw [beside]; exact held)), beside, some]
        simp [held]
      · rw [searches.waits stillU settledU programU (.inr ⟨by rw [linkU]; exact loose, by rw [beside, scans]; decide⟩),
          beside, some]
        simp [free]
      · exact searches.checks stillU settledU programU (by rw [beside, linkU]; exact ready)

/-- Settles O39: the measurement applied, and what its area makes of the search. -/
theorem programMeasurementRefreshes : Obligations.ProgramMeasurementRefreshes := by
  unfold Obligations.ProgramMeasurementRefreshes
  intro s x field multipath works q area tag
  have run : exec (.programMeasurement x field multipath) s = .next (s.programMeasurement x field.val multipath.val) :=
    congrArg _ (s.unlessHeld_works works _)
  refine ⟨fun idle => ?_, fun f program dwells on => ?_⟩
  · rw [run, State.programMeasurement_idle idle]
  · obtain ⟨m, reading⟩ : ∃ m, m = s.programReading field.val multipath.val := ⟨_, rfl⟩
    have areaIs : m.area = area := by rw [reading]; rfl
    have lastIs : (m.quality, m.area, m.tag) = (q, m.area, tag) := by rw [reading]; rfl
    have whole : m = { field := field, multipath := multipath, quality := q, area := m.area, tag := tag } := by rw [reading]; rfl
    have eq := State.programMeasurement_eq (field := field.val) (multipath := multipath.val) program dwells on
    rw [← reading] at eq
    have measured := s.measured_spec x f m (s.reportsArea x m.area)
    have reported := State.measured_reports (s := s) (x := x) (f := f) (m := m)
    refine ⟨_, run, (s.programMeasurement_frame x _ _).work, ?_⟩
    rw [eq]
    generalize s.measured x f m (s.reportsArea x m.area) = v at measured reported
    have programV : (v.tuner x).role = .program := by rw [measured.tuner]; exact program
    have measures := (State.afMeasured_measures programV m.area).trans (State.arbitrate_measures
      ((State.afMeasured_measures programV m.area).role.trans programV))
    have heard : (Station.new f).refresh m = { Station.new f with last := some (q, m.area, tag) } := by
      rw [← lastIs]
      rfl
    rw [← areaIs]
    refine ⟨fun still => ?_, fun still settled there => ?_, ?_, ?_, fun still settled idle => ?_, fun settled searching other => ?_,
      fun still settled confirming => ?_, fun still settled absent => ?_, fun still settled absent full stuck => ?_,
      fun old before due => ?_⟩
    · have stays := State.afMeasured_stays (measured.noRetune still) programV (by rw [measured.tuner]; exact dwells) m.area
      rw [measured.tuner] at stays
      exact ⟨stays.1.trans on, stays.2⟩
    · obtain ⟨r, found⟩ := Option.ne_none_iff_exists'.1 there
      exact ⟨_, measured.refreshes still settled program found, rfl, rfl, congrArg some lastIs⟩
    · rw [measures.measurement, measured.tuner]
      exact congrArg some whole
    · rw [measures.prevArea, measured.tuner]
    · exact measured.follows still settled program on idle
    · refine ⟨fun near fades => ?_, fun far still consistent c rest found search => ?_⟩
      · have ends := measured.ends settled program searching other near fades
        rw [on] at ends
        exact ends
      · have jumps := measured.jumps settled program searching other far still consistent search
        dsimp only at jumps
        rw [on, dwells] at jumps
        exact jumps
    · have e : v.afMeasured x m.area = v := State.afMeasured_confirming (by rw [measured.tuner]; exact confirming) m.area
      have claimed := (State.Quietly.refl v x).claimed (measured.noRetune still) (measured.watchSettled settled)
      rw [e]
      refine ⟨claimed.af.trans (by rw [measured.tuner]; exact confirming), claimed.streak.trans (by rw [measured.tuner]), ?_⟩
      rw [claimed.rest, measured.tuner]
    · rw [← heard]
      exact ⟨fun room => measured.inserts still settled program absent room,
        fun full w victim => measured.replaces still settled program absent full victim⟩
    · exact measured.overflows still settled program absent full (Stations.victim_none stuck)
    · have hit : s.reportsArea x m.area = true := by
        unfold State.reportsArea
        rw [before]
        refine (Report.test_iff _ _ _).2 ?_
        exact due
      exact flag_stands ((v.afMeasured_frame x m.area).trans (State.arbitrate_frame _)).flags (reported hit)

end Sys2Proof.Machine
end
